-- ==== Sys2Proof/Word.lean ====
section
/-! DEFINITION. The byte, the index types of the booth's numbered things (spec/00 section 1.6), and the
plain operations on fixed tables. -/

namespace Sys2Proof

/-- A byte of a console frame or of the booth line. -/
abbrev Byte := BitVec 8

/-- Projector index: `i` stands for P(i+1); the same index names lamp i+1 and station i+1. -/
abbrev Projector := Fin 8
/-- Screen index: `i` stands for S(i+1). -/
abbrev Screen := Fin 4
/-- House channel index: `i` stands for H(i+1), the channel of screen S(i+1). -/
abbrev Channel := Fin 4
/-- Shutter index: `i` stands for shutter i+1; 0 to 7 are the projection ports, 8 to 11 the observation ports. -/
abbrev Shutter := Fin 12
/-- Console port index: `i` stands for port i+1. -/
abbrev Port := Fin 3
/-- Reel index: `i` stands for reel i+1 of a screen. -/
abbrev ReelIx := Fin 12
/-- Index of a cue record in the pool, as the spec numbers it. -/
abbrev CueIx := Fin 128
/-- Notice number, 0 to 63 (spec/09 section 9.4). -/
abbrev Notice := Fin 64
/-- A set of notices, notice n being bit n (spec/10 R171). -/
abbrev NoticeSet := BitVec 64
/-- A set of ports, bits 0, 1 and 2 standing for ports 1, 2 and 3 (spec/10 R171). -/
abbrev PortSet := BitVec 3

/-- Rewrite one entry of a table. -/
def upd {α : Type} {n : Nat} (v : Vector α n) (i : Fin n) (f : α → α) : Vector α n :=
  v.set i (f v[i])

/-- Rewrite every entry of a table. -/
def updAll {α : Type} {n : Nat} (v : Vector α n) (f : α → α) : Vector α n :=
  ⟨(v.toList.map f).toArray, by simp⟩

/-- Rewrite every entry of a table, each from its own index. -/
def updEach {α : Type} {n : Nat} (v : Vector α n) (f : Fin n → α → α) : Vector α n :=
  ⟨((List.finRange n).map (fun i => f i v[i])).toArray, by simp⟩

/-- The thing numbered `k` among `n` things numbered from 1, if there is one. -/
def numbered (n k : Nat) : Option (Fin n) :=
  if h : 1 ≤ k ∧ k ≤ n then some ⟨k - 1, by omega⟩ else none

end Sys2Proof
end

