-- ==== Sys2Proof/Config.lean ====
section
/-! DEFINITION. The fixed numbers of the part: times, thresholds and the lamp-law table. The spec leaves
no value of the part to the implementation, so there is no opaque constant here. -/

namespace Sys2Proof.Config

/-- Samples that must agree before a filtered input's level is accepted (spec/01 R2). -/
def filterSamples : Nat := 3
/-- Microseconds between two samples of an input, 20 kHz (spec/01 R2). -/
def samplePeriod : Nat := 50
/-- A silence, in 0.1 ms (spec/01 R12). -/
def silenceCount : Nat := 2500
/-- The in-band periods, in 0.1 ms (spec/01 R13). -/
def inBandLow : Nat := 409
def inBandHigh : Nat := 425
/-- In-band periods in a row that prove speed (spec/01 R13). -/
def inBandRuns : Nat := 3
/-- Out-of-band periods in a row that lose it (spec/01 R14). -/
def outOfBandRuns : Nat := 2
/-- The slow-start timer, in 0.1 s (spec/01 R4, R15). -/
def slowStartTime : Nat := 60
/-- The longest reel, in frames (spec/04 R82). -/
def reelMax : Nat := 60000

/-- A slot of the booth line, in us (spec/02 R24). -/
def slotTime : Nat := 5000
/-- Times the frames the part sends occupy the line, in us (spec/02 section 2.2). -/
def pollTime : Nat := 872
def burstTime : Nat := 880
def lineResetTime : Nat := 768
/-- The latest start of a reply after the poll's last cell, in us (spec/02 R26). -/
def replyStart : Nat := 400
/-- Misses in a row that lose a station; good replies in a row that make it PRESENT (spec/02 R27). -/
def missesToLose : Nat := 3
def repliesToPresent : Nat := 2
/-- Cycles between rare polls (spec/02 R24, R27). -/
def rareCycles : Nat := 9
/-- Polls a confirmation watch gives each station (spec/02 R39). -/
def watchPolls : Nat := 3

/-- Fresh samples in a row that strike an arc, and that show it out (spec/03 R47, R49). -/
def strikeSamples : Nat := 3
def arcOutSamples : Nat := 5
/-- The strike and hold timers, in 0.1 s (spec/03 R45, R59). -/
def strikeTime : Nat := 50
def holdTime : Nat := 50
/-- Tenths of a millisecond in a minute (spec/03 R54). -/
def feedMinute : Nat := 600000
/-- The feed timer's counter while it is stopped (spec/03 R43). -/
def feedStopped : Nat := 1048575
/-- A feed step pulse, in us (spec/03 R56). -/
def stepPulse : Nat := 1000
/-- The longest carbon, in steps (spec/03 R65). -/
def carbonMax : Nat := 12000
/-- Frames in a minute at 24 fps (spec/03 R66). -/
def framesPerMinute : Nat := 1440

/-- The longest AFTER delay and fade time, in 0.1 s (spec/04 R68, R77; spec/07 R132). -/
def delayMax : Nat := 6000
/-- The largest cue label (spec/04 R68). -/
def labelMax : Nat := 999
/-- The largest arming margin, in frames (spec/05 R101). -/
def marginMax : Nat := 14400
/-- Generations are counted modulo this (spec/04 R71). -/
def generations : Nat := 65536

/-- A half-cycle that has overrun, and the lengths of a valid one, in us (spec/07 R126, R127). -/
def overrunCount : Nat := 12000
def halfCycleLow : Nat := 7000
def halfCycleHigh : Nat := 12000
/-- Valid half-cycles in a row that restore the mains (spec/07 R127). -/
def validRuns : Nat := 4
/-- The guards of a firing delay and the firing pulse, in us (spec/07 R129). -/
def firingLow : Nat := 100
def firingGuard : Nat := 300
def firingPulse : Nat := 100
/-- Full level in 1/256 of a level (spec/07 R131). -/
def fullFine : Nat := 65280

/-- A shutter's drop timer, in ms (spec/08 R143, R145). -/
def dropTime : Nat := 1500
/-- The gap timer of a port, in ms (spec/09 R158). -/
def gapTime : Nat := 20

/-- The lamp law's conductions C0 to C16, in 1/1024 of a half-cycle (spec/07 R128). -/
def lampLaw : List Nat :=
  [0, 96, 168, 228, 282, 332, 380, 426, 472, 518, 564, 612, 662, 716, 776, 850, 1000]

end Sys2Proof.Config
end

