-- ==== Sys2Proof/Syntax.lean ====
section
/-! DEFINITION. The commands of the booth controller: one constructor per row of spec/opcode_table.json,
with the operands the spec gives it. Events name their thing by an index type; console commands carry
their argument numbers as the frame brings them, because the port unit and the owner judge them. -/

namespace Sys2Proof

/-- A filtered input's level (spec/01 R2, spec/07 R126). -/
inductive Level where
  | low | high
  deriving DecidableEq, Repr

/-- The level of the building alarm or of a shutter's closed limit (spec/08 R139, R144). -/
inductive Activity where
  | active | inactive
  deriving DecidableEq, Repr

/-- A side of a screen's pair: A is P(2s-1), B is P(2s) (spec/00 section 1.6). -/
inductive Side where
  | a | b
  deriving DecidableEq, Repr

/-- The straps of one port as sampled at power-on (spec/09 R164). -/
structure Straps where
  safety : Bool
  setup : Bool
  deriving DecidableEq, Repr

/-- What the pins show at the first sample after power-on (spec/08 R140, R154; spec/09 R164). -/
structure PowerOnPins where
  straps : Vector Straps 3
  limits : Vector Activity 12
  alarm : Activity
  deriving DecidableEq, Repr

/-- The twelve cue bytes of CUE_WRITE by field (spec/04 R77, spec/10 section 10.4). -/
structure CueFields where
  label : Nat
  kind : Nat
  trigger : Nat
  first : Nat
  second : Nat
  target : Nat
  level : Nat
  time : Nat
  deriving DecidableEq, Repr

/-- The six settings LAMP_SET carries (spec/03 R64). -/
structure LampFields where
  vs : Nat
  ir : Nat
  b : Nat
  g : Nat
  fmax : Nat
  trim : Nat
  deriving DecidableEq, Repr

/-- A read strobe on a console port: `turn` is the time in us from the strobe to the unit's turn of the direction line to
write, or none where the line says read until the port's next strobe (spec/09 R158, R159). -/
structure ReadStrobe where
  port : Port
  turn : Option Nat
  deriving DecidableEq, Repr

/-- The commands the block takes. `n` is the console port a command comes from. -/
inductive Instr where
  /-- POWER_ON (R154): the reset pin or the supply, with what the pins show. -/
  | powerOn (pins : PowerOnPins)
  /-- SPROCKET_PULSE (R3): an accepted pulse of projector `p`. -/
  | sprocketPulse (p : Projector)
  /-- SLOW_START_TIMEOUT (R15). -/
  | slowStartTimeout (p : Projector)
  /-- SILENCE (R12). -/
  | silence (p : Projector)
  /-- SLOT_START (R24): the next slot boundary. -/
  | slotStart
  /-- REPLY_RECEIVED (R26): a frame has ended on the line. `begun` is the time in us from the start of the slot it began in
  to its first transition; `signal` the holds between its transitions, in half cells. -/
  | replyReceived (begun : Nat) (signal : List Nat)
  /-- REPLY_WINDOW_END (R39). -/
  | replyWindowEnd
  /-- CHANGEOVER_BURST_SENT (R37): the last cell of the changeover burst being sent. -/
  | changeoverBurstSent
  /-- TRIP_BURST_SENT (R38). -/
  | tripBurstSent
  /-- LINE_RESET_FRAME_SENT (R40). -/
  | lineResetFrameSent
  /-- STRIKE_TIMEOUT (R48). -/
  | strikeTimeout (p : Projector)
  /-- HOLD_TIMEOUT (R60). -/
  | holdTimeout (p : Projector)
  /-- FEED_STEP (R56). -/
  | feedStep (p : Projector)
  /-- AFTER_TIMER_MET (R102). -/
  | afterTimerMet (s : Screen)
  /-- MAINS_CROSSING (R126): a change of the accepted zero-cross level. -/
  | mainsCrossing
  /-- MAINS_OVERRUN (R126). -/
  | mainsOverrun
  /-- DIMMER_FIRING (R129). -/
  | dimmerFiring (ch : Channel)
  /-- ALARM_CHANGE (R141): the alarm's accepted level becomes `level`. -/
  | alarmChange (level : Activity)
  /-- SHUTTER_LIMIT_CHANGE (R145): the accepted level of limit `k` becomes `level`. -/
  | shutterLimitChange (k : Shutter) (level : Activity)
  /-- SHUTTER_DROP_TIMEOUT (R145). -/
  | shutterDropTimeout (k : Shutter)
  /-- WRITE_STROBE (R158). -/
  | writeStrobe (n : Port) (byte : Byte)
  /-- READ_STROBE (R158, R159). -/
  | readStrobe (strobe : ReadStrobe)
  /-- PORT_CLEAR (R160); `held` says whether the line stays asserted after it. -/
  | portClear (n : Port) (held : Bool)
  /-- GAP_TIMEOUT (R158). -/
  | gapTimeout (n : Port)
  /-- OWNER_ANSWER (R159). -/
  | ownerAnswer (n : Port)
  /-- READ_SCREEN 01h (R109). -/
  | readScreen (n : Port) (s : Nat)
  /-- READ_PROJECTOR 02h (R19). -/
  | readProjector (n : Port) (p : Nat)
  /-- READ_LAMP 03h (R67). -/
  | readLamp (n : Port) (p : Nat)
  /-- READ_STATION 04h (R42). -/
  | readStation (n : Port) (p : Nat)
  /-- READ_FIRE 05h (R155). -/
  | readFire (n : Port)
  /-- READ_SHUTTER 06h (R156). -/
  | readShutter (n : Port) (k : Nat)
  /-- READ_HOUSE 07h (R138). -/
  | readHouse (n : Port) (ch : Nat)
  /-- READ_REEL 08h (R87). -/
  | readReel (n : Port) (s reel : Nat)
  /-- READ_CUE 09h (R85). -/
  | readCue (n : Port) (x : Nat)
  /-- READ_LIST 0Ah (R86). -/
  | readList (n : Port) (s : Nat)
  /-- CUE_NEW 10h (R74). -/
  | cueNew (n : Port) (s gen : Nat)
  /-- CUE_NEW_BEFORE 11h (R75). -/
  | cueNewBefore (n : Port) (s gen x : Nat)
  /-- CUE_NEW_AFTER 12h (R75). -/
  | cueNewAfter (n : Port) (s gen x : Nat)
  /-- CUE_MOVE_BEFORE 13h (R76). -/
  | cueMoveBefore (n : Port) (s gen x y : Nat)
  /-- CUE_MOVE_AFTER 14h (R76). -/
  | cueMoveAfter (n : Port) (s gen x y : Nat)
  /-- CUE_WRITE 15h (R77). -/
  | cueWrite (n : Port) (s gen x : Nat) (cue : CueFields)
  /-- CUE_FREE 16h (R78). -/
  | cueFree (n : Port) (s gen x : Nat)
  /-- REEL_SET 18h (R83). -/
  | reelSet (n : Port) (s gen reel length side : Nat)
  /-- REEL_THREADED 19h (R90). -/
  | reelThreaded (n : Port) (s reel : Nat)
  /-- REEL_UNTHREAD 1Ah (R84). -/
  | reelUnthread (n : Port) (s reel : Nat)
  /-- SHOW_START 20h (R96). -/
  | showStart (n : Port) (s : Nat)
  /-- GO 21h (R97). -/
  | go (n : Port) (s : Nat)
  /-- SHOW_STOP 22h (R98). -/
  | showStop (n : Port) (s : Nat)
  /-- SHOW_REWIND 23h (R99). -/
  | showRewind (n : Port) (s : Nat)
  /-- SHOW_CLEAR 24h (R100). -/
  | showClear (n : Port) (s gen : Nat)
  /-- PROJ_MOTOR 28h (R17). -/
  | projMotor (n : Port) (p a : Nat)
  /-- PROJ_DOUSER 29h (R18). -/
  | projDouser (n : Port) (p a : Nat)
  /-- LAMP_STRIKE 30h (R45). -/
  | lampStrike (n : Port) (p : Nat)
  /-- LAMP_OFF 31h (R50). -/
  | lampOff (n : Port) (p : Nat)
  /-- LAMP_SET 32h (R64). -/
  | lampSet (n : Port) (p : Nat) (fields : LampFields)
  /-- LAMP_RECARBON 33h (R65). -/
  | lampRecarbon (n : Port) (p length : Nat)
  /-- HOUSE_FADE 38h (R132). -/
  | houseFade (n : Port) (ch level time : Nat)
  /-- FIRE_TRIP 3Ch (R153). -/
  | fireTrip (n : Port)
  /-- FIRE_REARM 3Dh (R148). -/
  | fireRearm (n : Port)
  /-- SHUTTER_TEST 3Eh (R150). -/
  | shutterTest (n : Port) (k : Nat)
  /-- LINE_RESET 40h (R40). -/
  | lineReset (n : Port)
  /-- BOOTH_SET 41h (R101). -/
  | boothSet (n : Port) (margin : Nat)
  /-- NOTICE_NEXT 48h (R167). -/
  | noticeNext (n : Port)
  /-- NOTICE_MASK 49h (R168). -/
  | noticeMask (n : Port) (hidden : NoticeSet)
  /-- NOTICE_ROUTE 4Ah (R169): notice number and port-set byte. -/
  | noticeRoute (n : Port) (notice ports : Nat)
  /-- NOTICE_FLUSH 4Bh (R168). -/
  | noticeFlush (n : Port)
  /-- SPROCKET_SAMPLE (R2): one 50 us sample of the sprocket input of projector `p`. -/
  | sprocketSample (p : Projector) (level : Level)
  deriving DecidableEq, Repr

end Sys2Proof
end

