-- ==== Sys2Proof/WellFormed.lean ====
section
/-! DEFINITION. Which command terms a sender can make: console arguments fit the byte widths of R162,
and a line signal is made of holds that last. The part judges every term, well formed or not; these
checks say which terms are the code of a frame or of a signal. -/

namespace Sys2Proof

/-- A one-byte argument. -/
def fitsByte (k : Nat) : Bool := k < 256
/-- A two-byte argument. -/
def fitsWord (k : Nat) : Bool := k < 65536

/-- The cue fields fit the twelve bytes of R162. -/
def CueFields.wellFormed (c : CueFields) : Bool :=
  fitsWord c.label && fitsByte c.kind && fitsByte c.trigger && fitsWord c.first && fitsWord c.second
    && fitsByte c.target && fitsByte c.level && fitsWord c.time

/-- The lamp settings fit the eleven bytes of R162. -/
def LampFields.wellFormed (f : LampFields) : Bool :=
  fitsWord f.vs && fitsWord f.ir && fitsWord f.b && fitsByte f.g && fitsWord f.fmax && fitsWord f.trim

/-- Every operand is one that a frame or a signal can carry. -/
def Instr.wellFormed : Instr → Bool
  | .powerOn _ | .sprocketPulse _ | .slowStartTimeout _ | .silence _ | .slotStart => true
  | .replyReceived _ signal => signal.all (fun h => 0 < h)
  | .replyWindowEnd | .changeoverBurstSent | .tripBurstSent | .lineResetFrameSent => true
  | .strikeTimeout _ | .holdTimeout _ | .feedStep _ | .afterTimerMet _ => true
  | .mainsCrossing | .mainsOverrun | .dimmerFiring _ | .alarmChange _ => true
  | .shutterLimitChange _ _ | .shutterDropTimeout _ => true
  | .writeStrobe _ _ | .readStrobe _ | .portClear _ _ | .gapTimeout _ | .ownerAnswer _ => true
  | .readScreen _ s => fitsByte s
  | .readProjector _ p => fitsByte p
  | .readLamp _ p => fitsByte p
  | .readStation _ p => fitsByte p
  | .readFire _ => true
  | .readShutter _ k => fitsByte k
  | .readHouse _ ch => fitsByte ch
  | .readReel _ s reel => fitsByte s && fitsByte reel
  | .readCue _ x => fitsByte x
  | .readList _ s => fitsByte s
  | .cueNew _ s gen => fitsByte s && fitsWord gen
  | .cueNewBefore _ s gen x => fitsByte s && fitsWord gen && fitsByte x
  | .cueNewAfter _ s gen x => fitsByte s && fitsWord gen && fitsByte x
  | .cueMoveBefore _ s gen x y => fitsByte s && fitsWord gen && fitsByte x && fitsByte y
  | .cueMoveAfter _ s gen x y => fitsByte s && fitsWord gen && fitsByte x && fitsByte y
  | .cueWrite _ s gen x cue => fitsByte s && fitsWord gen && fitsByte x && cue.wellFormed
  | .cueFree _ s gen x => fitsByte s && fitsWord gen && fitsByte x
  | .reelSet _ s gen reel length side =>
      fitsByte s && fitsWord gen && fitsByte reel && fitsWord length && fitsByte side
  | .reelThreaded _ s reel => fitsByte s && fitsByte reel
  | .reelUnthread _ s reel => fitsByte s && fitsByte reel
  | .showStart _ s => fitsByte s
  | .go _ s => fitsByte s
  | .showStop _ s => fitsByte s
  | .showRewind _ s => fitsByte s
  | .showClear _ s gen => fitsByte s && fitsWord gen
  | .projMotor _ p a => fitsByte p && fitsByte a
  | .projDouser _ p a => fitsByte p && fitsByte a
  | .lampStrike _ p => fitsByte p
  | .lampOff _ p => fitsByte p
  | .lampSet _ p fields => fitsByte p && fields.wellFormed
  | .lampRecarbon _ p length => fitsByte p && fitsWord length
  | .houseFade _ ch level time => fitsByte ch && fitsByte level && fitsWord time
  | .fireTrip _ | .fireRearm _ => true
  | .shutterTest _ k => fitsByte k
  | .lineReset _ => true
  | .boothSet _ margin => fitsWord margin
  | .noticeNext _ | .noticeMask _ _ => true
  | .noticeRoute _ notice ports => fitsByte notice && fitsByte ports
  | .noticeFlush _ => true
  | .sprocketSample _ _ => true

end Sys2Proof
end

