-- ==== Sys2Proof/Decode.lean ====
section
/-! DEFINITION. Reading commands from words and from console frames. The table's rows have no bit
patterns, so no word spells a command; what the spec does give bits is the console frame (spec/10
section 10.1, R162, R171), whose code and arguments are decoded and encoded here. -/

namespace Sys2Proof

/-- The command a word spells by the table's bits: none, since no row of spec/opcode_table.json has
bits (log 26). -/
def decodeTableWord (_nbits _w : Nat) : Option Instr := none

/-- A two-byte number, most significant byte first (R171). -/
def word (hi lo : Byte) : Nat := hi.toNat * 256 + lo.toNat

/-- The bytes of a number, most significant first (R171). -/
def byte1 (k : Nat) : List Byte := [BitVec.ofNat 8 k]
def byte2 (k : Nat) : List Byte := [BitVec.ofNat 8 (k / 256), BitVec.ofNat 8 k]
def byte3 (k : Nat) : List Byte :=
  [BitVec.ofNat 8 (k / 65536), BitVec.ofNat 8 (k / 256), BitVec.ofNat 8 k]

/-- A set of notices as eight bytes, and back (R171). -/
def noticeSetOf (a b c d e f g h : Byte) : NoticeSet := a ++ b ++ c ++ d ++ e ++ f ++ g ++ h
def noticeSetBytes (m : NoticeSet) : List Byte :=
  [m.extractLsb' 56 8, m.extractLsb' 48 8, m.extractLsb' 40 8, m.extractLsb' 32 8,
   m.extractLsb' 24 8, m.extractLsb' 16 8, m.extractLsb' 8 8, m.extractLsb' 0 8]

/-- The argument count of each assigned command code (R162); none for an unassigned code. -/
def argumentCount (code : Byte) : Option Nat :=
  match code.toNat with
  | 0x01 | 0x02 | 0x03 | 0x04 | 0x06 | 0x07 | 0x09 | 0x0A => some 1
  | 0x05 => some 0
  | 0x08 => some 2
  | 0x10 => some 3
  | 0x11 | 0x12 => some 4
  | 0x13 | 0x14 => some 5
  | 0x15 => some 16
  | 0x16 => some 4
  | 0x18 => some 7
  | 0x19 | 0x1A => some 2
  | 0x20 | 0x21 | 0x22 | 0x23 => some 1
  | 0x24 => some 3
  | 0x28 | 0x29 => some 2
  | 0x30 | 0x31 => some 1
  | 0x32 => some 12
  | 0x33 => some 3
  | 0x38 => some 4
  | 0x3C | 0x3D => some 0
  | 0x3E => some 1
  | 0x40 => some 0
  | 0x41 => some 2
  | 0x48 | 0x4B => some 0
  | 0x49 => some 8
  | 0x4A => some 2
  | _ => none

/-- The command that a code and its argument bytes spell on port `n` (R162, R171); none where the code is
unassigned or the number of bytes is not the command's. -/
def decodeCommand (n : Port) (code : Byte) (args : List Byte) : Option Instr :=
  match code.toNat, args with
  | 0x01, [s] => some (.readScreen n s.toNat)
  | 0x02, [p] => some (.readProjector n p.toNat)
  | 0x03, [p] => some (.readLamp n p.toNat)
  | 0x04, [p] => some (.readStation n p.toNat)
  | 0x05, [] => some (.readFire n)
  | 0x06, [k] => some (.readShutter n k.toNat)
  | 0x07, [ch] => some (.readHouse n ch.toNat)
  | 0x08, [s, reel] => some (.readReel n s.toNat reel.toNat)
  | 0x09, [x] => some (.readCue n x.toNat)
  | 0x0A, [s] => some (.readList n s.toNat)
  | 0x10, [s, g1, g0] => some (.cueNew n s.toNat (word g1 g0))
  | 0x11, [s, g1, g0, x] => some (.cueNewBefore n s.toNat (word g1 g0) x.toNat)
  | 0x12, [s, g1, g0, x] => some (.cueNewAfter n s.toNat (word g1 g0) x.toNat)
  | 0x13, [s, g1, g0, x, y] => some (.cueMoveBefore n s.toNat (word g1 g0) x.toNat y.toNat)
  | 0x14, [s, g1, g0, x, y] => some (.cueMoveAfter n s.toNat (word g1 g0) x.toNat y.toNat)
  | 0x15, [s, g1, g0, x, l1, l0, k, t, a1, a0, b1, b0, tg, lv, f1, f0] =>
      some (.cueWrite n s.toNat (word g1 g0) x.toNat
        ⟨word l1 l0, k.toNat, t.toNat, word a1 a0, word b1 b0, tg.toNat, lv.toNat, word f1 f0⟩)
  | 0x16, [s, g1, g0, x] => some (.cueFree n s.toNat (word g1 g0) x.toNat)
  | 0x18, [s, g1, g0, reel, l1, l0, side] =>
      some (.reelSet n s.toNat (word g1 g0) reel.toNat (word l1 l0) side.toNat)
  | 0x19, [s, reel] => some (.reelThreaded n s.toNat reel.toNat)
  | 0x1A, [s, reel] => some (.reelUnthread n s.toNat reel.toNat)
  | 0x20, [s] => some (.showStart n s.toNat)
  | 0x21, [s] => some (.go n s.toNat)
  | 0x22, [s] => some (.showStop n s.toNat)
  | 0x23, [s] => some (.showRewind n s.toNat)
  | 0x24, [s, g1, g0] => some (.showClear n s.toNat (word g1 g0))
  | 0x28, [p, a] => some (.projMotor n p.toNat a.toNat)
  | 0x29, [p, a] => some (.projDouser n p.toNat a.toNat)
  | 0x30, [p] => some (.lampStrike n p.toNat)
  | 0x31, [p] => some (.lampOff n p.toNat)
  | 0x32, [p, v1, v0, i1, i0, b1, b0, g, f1, f0, t1, t0] =>
      some (.lampSet n p.toNat ⟨word v1 v0, word i1 i0, word b1 b0, g.toNat, word f1 f0, word t1 t0⟩)
  | 0x33, [p, l1, l0] => some (.lampRecarbon n p.toNat (word l1 l0))
  | 0x38, [ch, level, t1, t0] => some (.houseFade n ch.toNat level.toNat (word t1 t0))
  | 0x3C, [] => some (.fireTrip n)
  | 0x3D, [] => some (.fireRearm n)
  | 0x3E, [k] => some (.shutterTest n k.toNat)
  | 0x40, [] => some (.lineReset n)
  | 0x41, [m1, m0] => some (.boothSet n (word m1 m0))
  | 0x48, [] => some (.noticeNext n)
  | 0x49, [a, b, c, d, e, f, g, h] => some (.noticeMask n (noticeSetOf a b c d e f g h))
  | 0x4A, [k, ports] => some (.noticeRoute n k.toNat ports.toNat)
  | 0x4B, [] => some (.noticeFlush n)
  | _, _ => none

/-- The port, code and argument bytes of a console command (R162, R171); none for a command that is no
console command. -/
def encodeCommand : Instr → Option (Port × Byte × List Byte)
  | .readScreen n s => some (n, 0x01, byte1 s)
  | .readProjector n p => some (n, 0x02, byte1 p)
  | .readLamp n p => some (n, 0x03, byte1 p)
  | .readStation n p => some (n, 0x04, byte1 p)
  | .readFire n => some (n, 0x05, [])
  | .readShutter n k => some (n, 0x06, byte1 k)
  | .readHouse n ch => some (n, 0x07, byte1 ch)
  | .readReel n s reel => some (n, 0x08, byte1 s ++ byte1 reel)
  | .readCue n x => some (n, 0x09, byte1 x)
  | .readList n s => some (n, 0x0A, byte1 s)
  | .cueNew n s gen => some (n, 0x10, byte1 s ++ byte2 gen)
  | .cueNewBefore n s gen x => some (n, 0x11, byte1 s ++ byte2 gen ++ byte1 x)
  | .cueNewAfter n s gen x => some (n, 0x12, byte1 s ++ byte2 gen ++ byte1 x)
  | .cueMoveBefore n s gen x y => some (n, 0x13, byte1 s ++ byte2 gen ++ byte1 x ++ byte1 y)
  | .cueMoveAfter n s gen x y => some (n, 0x14, byte1 s ++ byte2 gen ++ byte1 x ++ byte1 y)
  | .cueWrite n s gen x c =>
      some (n, 0x15, byte1 s ++ byte2 gen ++ byte1 x ++ byte2 c.label ++ byte1 c.kind ++ byte1 c.trigger
        ++ byte2 c.first ++ byte2 c.second ++ byte1 c.target ++ byte1 c.level ++ byte2 c.time)
  | .cueFree n s gen x => some (n, 0x16, byte1 s ++ byte2 gen ++ byte1 x)
  | .reelSet n s gen reel length side =>
      some (n, 0x18, byte1 s ++ byte2 gen ++ byte1 reel ++ byte2 length ++ byte1 side)
  | .reelThreaded n s reel => some (n, 0x19, byte1 s ++ byte1 reel)
  | .reelUnthread n s reel => some (n, 0x1A, byte1 s ++ byte1 reel)
  | .showStart n s => some (n, 0x20, byte1 s)
  | .go n s => some (n, 0x21, byte1 s)
  | .showStop n s => some (n, 0x22, byte1 s)
  | .showRewind n s => some (n, 0x23, byte1 s)
  | .showClear n s gen => some (n, 0x24, byte1 s ++ byte2 gen)
  | .projMotor n p a => some (n, 0x28, byte1 p ++ byte1 a)
  | .projDouser n p a => some (n, 0x29, byte1 p ++ byte1 a)
  | .lampStrike n p => some (n, 0x30, byte1 p)
  | .lampOff n p => some (n, 0x31, byte1 p)
  | .lampSet n p f =>
      some (n, 0x32, byte1 p ++ byte2 f.vs ++ byte2 f.ir ++ byte2 f.b ++ byte1 f.g ++ byte2 f.fmax
        ++ byte2 f.trim)
  | .lampRecarbon n p length => some (n, 0x33, byte1 p ++ byte2 length)
  | .houseFade n ch level time => some (n, 0x38, byte1 ch ++ byte1 level ++ byte2 time)
  | .fireTrip n => some (n, 0x3C, [])
  | .fireRearm n => some (n, 0x3D, [])
  | .shutterTest n k => some (n, 0x3E, byte1 k)
  | .lineReset n => some (n, 0x40, [])
  | .boothSet n margin => some (n, 0x41, byte2 margin)
  | .noticeNext n => some (n, 0x48, [])
  | .noticeMask n hidden => some (n, 0x49, noticeSetBytes hidden)
  | .noticeRoute n notice ports => some (n, 0x4A, byte1 notice ++ byte1 ports)
  | .noticeFlush n => some (n, 0x4B, [])
  | .powerOn _ | .sprocketPulse _ | .slowStartTimeout _ | .silence _ | .slotStart => none
  | .replyReceived _ _ | .replyWindowEnd | .changeoverBurstSent | .tripBurstSent => none
  | .lineResetFrameSent | .strikeTimeout _ | .holdTimeout _ | .feedStep _ | .afterTimerMet _ => none
  | .mainsCrossing | .mainsOverrun | .dimmerFiring _ | .alarmChange _ => none
  | .shutterLimitChange _ _ | .shutterDropTimeout _ => none
  | .writeStrobe _ _ | .readStrobe _ | .portClear _ _ | .gapTimeout _ | .ownerAnswer _ => none
  | .sprocketSample _ _ => none

/-- The check byte that brings a frame's sum to 0 modulo 256 (spec/10 section 10.1). -/
def checkByte (bytes : List Byte) : Byte := -(bytes.foldl (· + ·) 0)

/-- The whole command frame of a console command: code, count, arguments, check byte. -/
def commandFrame (i : Instr) : Option (Port × List Byte) :=
  match encodeCommand i with
  | none => none
  | some (n, code, args) =>
    let body := code :: BitVec.ofNat 8 args.length :: args
    some (n, body ++ [checkByte body])

end Sys2Proof
end

