-- ==== Sys2Proof/Machine/State.lean ====
section
/-! DEFINITION. The state of the booth controller as plain data: the records of the seven blocks (spec/00
section 1.3), the pins, and the queue of waiting commands. State.reset is the part right after power-on. -/

namespace Sys2Proof.Machine

/-! ### Shared pieces -/

/-- A timer or count that runs: its value in the spec's unit, and the microseconds since the value last
moved (log 16). A stopped timer is `none`. -/
structure Timer where
  value : Nat
  sub : Nat
  deriving DecidableEq, Repr

/-- A timer just started at `k`. -/
def Timer.start (k : Nat) : Timer := ⟨k, 0⟩

/-! ### Motion unit (spec/01 R1) -/

inductive Gate where
  | opened | closed
  deriving DecidableEq, Repr

inductive TimingPhase where
  | awaiting | discarding | judging
  deriving DecidableEq, Repr

inductive Speed where
  | stopped | runningUp | atSpeed | offSpeed
  deriving DecidableEq, Repr

inductive MotionCause where
  | none | offSpeed | slowStart | silentStop | runOutUnseen | bladeUnconfirmed
  deriving DecidableEq, Repr

/-- The motion record of a projector (R1). -/
structure Motion where
  accepted : Level
  sampleRun : Nat
  gate : Gate
  framesRemaining : Nat
  loadedLength : Nat
  watch : Option Nat
  phase : TimingPhase
  runningCount : Timer
  lastPeriod : Nat
  periodCurrent : Bool
  inBandRun : Nat
  outOfBandRun : Nat
  speed : Speed
  slowStart : Option Timer
  reachedSpeed : Bool
  cause : MotionCause
  deriving DecidableEq, Repr

def Motion.powerOn : Motion where
  accepted := .low
  sampleRun := 0
  gate := .closed
  framesRemaining := 0
  loadedLength := 0
  watch := none
  phase := .awaiting
  runningCount := .start 0
  lastPeriod := 0
  periodCurrent := false
  inBandRun := 0
  outOfBandRun := 0
  speed := .stopped
  slowStart := none
  reachedSpeed := false
  cause := .none

/-! ### Booth line controller (spec/02 R23, R36, R39) -/

inductive Presence where
  | absent | present | lost
  deriving DecidableEq, Repr

inductive MotorCommand where
  | run | stop
  deriving DecidableEq, Repr

inductive MotorReport where
  | running | stopped
  deriving DecidableEq, Repr

/-- A douser or a blade, desired or reported. -/
inductive Opening where
  | opened | closed
  deriving DecidableEq, Repr

/-- An arc or arc relay. -/
inductive Switch where
  | on | off
  deriving DecidableEq, Repr

inductive Sensor where
  | set | clear
  deriving DecidableEq, Repr

/-- A station's report (R23). -/
structure Report where
  motor : MotorReport
  douser : Opening
  blade : Opening
  arc : Switch
  filmBreak : Sensor
  gateFlame : Sensor
  marks : Nat
  volts : Nat
  amps : Nat
  temperature : Nat
  deriving DecidableEq, Repr

/-- The desired state of a station (R23, R25). -/
structure Desired where
  motor : MotorCommand
  douser : Opening
  blade : Opening
  arc : Switch
  deriving DecidableEq, Repr

/-- The safe desired state (R34). -/
def Desired.safe : Desired := ⟨.stop, .closed, .closed, .off⟩

/-- A station record (R23). The toggle is the number of the report buffer, as a bit. -/
structure Station where
  presence : Presence
  missRun : Nat
  goodRun : Nat
  rareCountdown : Nat
  expectedToggle : Bool
  lastReport : Option Report
  reportOld : Bool
  desired : Desired
  deriving DecidableEq, Repr

def Station.powerOn : Station where
  presence := .absent
  missRun := 0
  goodRun := 0
  rareCountdown := 0
  expectedToggle := false
  lastReport := none
  reportOld := false
  desired := .safe

/-- An entry of the burst queue (R36). -/
inductive Burst where
  | trip
  | changeover (s : Screen) (side : Side)
  deriving DecidableEq, Repr

/-- The frame the part is sending (R24, R25, R37, R38, R40). -/
inductive Sending where
  | nothing
  | lineReset
  | burst (b : Burst)
  | poll (p : Projector) (desired : Desired)
  deriving DecidableEq, Repr

/-- What came in a poll's reply window (R26): nothing yet; a first frame that is no good reply; or a good
reply, with the reported blade where its report was taken from a PRESENT station (R28, R39). -/
inductive PollResult where
  | awaiting
  | bad
  | good (blade : Option Opening)
  deriving DecidableEq, Repr

/-- The reply window of a poll, open from the end of the poll's last cell (R26). -/
inductive Window where
  | closed
  | opened (p : Projector) (result : PollResult)
  deriving DecidableEq, Repr

inductive WatchStatus where
  | waiting (pollsLeft : Nat)
  | confirmed
  | unconfirmed
  deriving DecidableEq, Repr

/-- One station of an open confirmation watch (R39). -/
structure WatchStation where
  commanded : Opening
  status : WatchStatus
  deriving DecidableEq, Repr

/-- The confirmation watch of a screen: closed, or open with the stations of sides A and B (R39). -/
inductive Watch where
  | closed
  | opened (a b : WatchStation)
  deriving DecidableEq, Repr

/-- The line controller's records (R23, R24). `position` is the slot that starts at the next boundary and
`untilSlot` the microseconds to it. -/
structure LineControl where
  stations : Vector Station 8
  tripInForce : Bool
  burstQueue : List Burst
  resetPending : Bool
  position : Projector
  untilSlot : Nat
  sending : Sending
  window : Window
  watches : Vector Watch 4
  deriving DecidableEq, Repr

def LineControl.powerOn : LineControl where
  stations := Vector.replicate 8 Station.powerOn
  tripInForce := true
  burstQueue := []
  resetPending := true
  position := 0
  untilSlot := 1
  sending := .nothing
  window := .closed
  watches := Vector.replicate 4 .closed

/-! ### Arc lamp unit (spec/03 R43) -/

inductive LampState where
  | cold | striking | burning | out | fault
  deriving DecidableEq, Repr

inductive LampFault where
  | none | strikeFailed | carbonExhausted | stationLost | arcOut
  deriving DecidableEq, Repr

inductive LampCause where
  | none | strikeStarted | struck | strikeFailed | arcOut | off | lineReset | stationLost
  | carbonExhausted | trim
  deriving DecidableEq, Repr

/-- A running feed timer: its reload, and its counter in 0.1 ms (R43, R54). -/
structure FeedTimer where
  reload : Nat
  counter : Timer
  deriving DecidableEq, Repr

/-- The lamp record (R43). `stepPulse` is the feed step output: microseconds left of its pulse (R56). -/
structure Lamp where
  state : LampState
  vs : Nat
  ir : Nat
  b : Nat
  g : Nat
  fmax : Nat
  trim : Nat
  carbon : Nat
  feedRate : Nat
  feedTimer : Option FeedTimer
  strikeCount : Nat
  outCount : Nat
  strikeTimer : Option Timer
  holdTimer : Option Timer
  fault : LampFault
  trimNoticed : Bool
  cause : LampCause
  stepPulse : Nat
  deriving DecidableEq, Repr

/-- A lamp record at power-on (R43); a feed step pulse under way is cut short: DESIGN CHOICE, log 35. -/
def Lamp.powerOn : Lamp where
  state := .cold
  vs := 540
  ir := 800
  b := 220
  g := 15
  fmax := 600
  trim := 600
  carbon := 0
  feedRate := 0
  feedTimer := none
  strikeCount := 0
  outCount := 0
  strikeTimer := none
  holdTimer := none
  fault := .none
  trimNoticed := false
  cause := .none
  stepPulse := 0

structure LampUnit where
  lamps : Vector Lamp 8
  tripInForce : Bool
  deriving DecidableEq, Repr

def LampUnit.powerOn : LampUnit := ⟨Vector.replicate 8 Lamp.powerOn, true⟩

/-! ### Show unit (spec/04 R68, R69, R82; spec/05 R88, R89; spec/06 R110) -/

inductive DouserTarget where
  | incomingOpen | incomingClose | outgoingOpen | outgoingClose
  deriving DecidableEq, Repr

/-- A cue's kind with the fields that kind alone has (R68). -/
inductive CueKind where
  | strike
  | motor
  | change
  | douser (target : DouserTarget)
  | house (level time : Nat)
  | end_
  deriving DecidableEq, Repr

/-- A cue's trigger with its values (R68). -/
inductive Trigger where
  | frames (v : Nat)
  | mark (lo hi : Nat)
  | after (delay : Nat)
  | go
  deriving DecidableEq, Repr

inductive CueState where
  | pending | fired | skipped
  deriving DecidableEq, Repr

/-- A cue record (R68). Its index is its place in the pool; its list, previous and next follow from the
lists' orders (R69, log 7). -/
structure Cue where
  label : Nat
  kind : CueKind
  trigger : Trigger
  state : CueState
  deriving DecidableEq, Repr

/-- A record as power-on leaves it, and as taking writes it (R68, R70). -/
def Cue.fresh : Cue := ⟨0, .end_, .go, .pending⟩

inductive ReelState where
  | listed | loaded | running | done
  deriving DecidableEq, Repr

/-- A reel entry: EMPTY, or a state with length and side (R82). -/
inductive ReelEntry where
  | empty
  | reel (state : ReelState) (length : Nat) (side : Side)
  deriving DecidableEq, Repr

inductive ScreenState where
  | idle | dark | running | waiting | ended | stopped
  deriving DecidableEq, Repr

inductive ChangeoverState where
  | none | waitingReady | queued | sent | done | aborted
  deriving DecidableEq, Repr

/-- The changeover record (R110). -/
structure Changeover where
  state : ChangeoverState
  outgoing : Option Projector
  incoming : Option Projector
  cue : Option CueIx
  late : Bool
  unconfirmed : Bool
  deriving DecidableEq, Repr

def Changeover.blank : Changeover := ⟨.none, Option.none, Option.none, Option.none, false, false⟩

inductive Role where
  | idle | armed | starting | standby | onScreen | tail
  deriving DecidableEq, Repr

/-- A screen's list with its generation, reel table and performance record (R69, R82, R88). -/
structure ScreenRecord where
  list : List CueIx
  generation : Nat
  reels : Vector ReelEntry 12
  state : ScreenState
  next : Option CueIx
  afterTimer : Option Timer
  motorOwed : Bool
  changeHeld : Bool
  changeover : Changeover
  deriving DecidableEq, Repr

def ScreenRecord.powerOn : ScreenRecord where
  list := []
  generation := 0
  reels := Vector.replicate 12 .empty
  state := .idle
  next := none
  afterTimer := none
  motorOwed := false
  changeHeld := false
  changeover := Changeover.blank

/-- The show unit's records (R68, R69, R88, R89). `marks` holds the last fresh mark counts. -/
structure ShowUnit where
  cues : Vector Cue 128
  free : List CueIx
  screens : Vector ScreenRecord 4
  roles : Vector Role 8
  marks : Vector (Option Nat) 8
  tripInForce : Bool
  margin : Nat
  deriving DecidableEq, Repr

def ShowUnit.powerOn : ShowUnit where
  cues := Vector.replicate 128 Cue.fresh
  free := List.finRange 128
  screens := Vector.replicate 4 ScreenRecord.powerOn
  roles := Vector.replicate 8 .idle
  marks := Vector.replicate 8 none
  tripInForce := true
  margin := 2880

/-! ### House light unit (spec/07 R125, R131) -/

inductive MainsPhase where
  | awaiting | timing
  deriving DecidableEq, Repr

inductive MainsState where
  | invalid | valid
  deriving DecidableEq, Repr

structure Mains where
  accepted : Level
  sampleRun : Nat
  phase : MainsPhase
  runningCount : Nat
  lastHalf : Nat
  h : Nat
  validRun : Nat
  state : MainsState
  deriving DecidableEq, Repr

def Mains.powerOn : Mains := ⟨.low, 0, .awaiting, 0, 0, 10000, 0, .invalid⟩

inductive Direction where
  | up | down | none
  deriving DecidableEq, Repr

/-- A house channel (R131). `firing` is the time left to the pending firing (R129); `pulse` the dimmer
firing output, microseconds left of its pulse. -/
structure HouseChannel where
  fine : Nat
  target : Nat
  step : Nat
  direction : Direction
  override : Switch
  lastDelay : Option Nat
  firing : Option Nat
  pulse : Nat
  deriving DecidableEq, Repr

/-- A house channel at power-on (R131), no firing pending; a firing pulse under way is cut short: DESIGN CHOICE, log 35. -/
def HouseChannel.powerOn : HouseChannel := ⟨65280, 255, 0, .none, .on, none, none, 0⟩

structure HouseUnit where
  mains : Mains
  channels : Vector HouseChannel 4
  deriving DecidableEq, Repr

def HouseUnit.powerOn : HouseUnit := ⟨Mains.powerOn, Vector.replicate 4 HouseChannel.powerOn⟩

/-! ### Fire unit (spec/08 R139, R144) -/

inductive FireState where
  | clear | tripped | shut
  deriving DecidableEq, Repr

/-- A source of a cause (R139): one kind with one number. -/
inductive Cause where
  | powerOn
  | alarmLine
  | gateFlame (p : Projector)
  | manual (n : Port)
  | shutterFall (k : Shutter)
  deriving DecidableEq, Repr

inductive ShutterState where
  | opened | dropping | closed | jammed | raising
  deriving DecidableEq, Repr

inductive Hold where
  | energized | released
  deriving DecidableEq, Repr

inductive TestResult where
  | none | pass | fail
  deriving DecidableEq, Repr

structure ShutterRecord where
  state : ShutterState
  hold : Hold
  limit : Activity
  sampleRun : Nat
  dropTimer : Option Timer
  lastTest : TestResult
  deriving DecidableEq, Repr

/-- A shutter record at power-on, by its limit's first sample (R144). -/
def ShutterRecord.powerOn : Activity → ShutterRecord
  | .active => ⟨.closed, .released, .active, 0, none, .none⟩
  | .inactive => ⟨.dropping, .released, .inactive, 0, some (.start 1500), .none⟩

structure FireUnit where
  state : FireState
  causes : List Cause
  underTest : Option Shutter
  alarm : Activity
  alarmRun : Nat
  shutters : Vector ShutterRecord 12
  deriving DecidableEq, Repr

/-! ### Console port unit (spec/09 R157, R165, R166) -/

inductive FrameState where
  | idle | receiving | executing | replying
  deriving DecidableEq, Repr

/-- The statuses of a response (spec/10 section 10.2). -/
inductive Status where
  | ok | check | unknown | length | range | denied | state | stale | live | empty | trip
  deriving DecidableEq, Repr

/-- A response to be read (R157, R163). -/
structure Response where
  status : Byte
  data : List Byte
  check : Byte
  deriving DecidableEq, Repr

/-- What the direction line of a port says (section 9.1): the unit writes, or it reads. -/
inductive PortDirection where
  | write | read
  deriving DecidableEq, Repr

/-- A port record (R157) with its pending and mask sets (R165, R166) and its pins. `frameTag` numbers the
frame last passed on (R160, log 25); `readWaiting` is a read strobe not yet acknowledged (R159, log 17). `direction` is
the direction line, `untilWrite` the microseconds until the unit turns it from read to write, where it does before its
next strobe, and `driven` the byte the port drives on its data lines (R158, log 17). -/
structure PortRecord where
  frameState : FrameState
  code : Option Byte
  statedCount : Option Byte
  arguments : List Byte
  runningSum : Byte
  gapTimer : Option Timer
  response : Option Response
  readPosition : Nat
  writeHeld : Option Byte
  answerOwed : Bool
  safety : Bool
  setup : Bool
  pendingSet : NoticeSet
  maskSet : NoticeSet
  attention : Bool
  frameTag : Nat
  clearHeld : Bool
  readWaiting : Bool
  direction : PortDirection
  untilWrite : Option Nat
  driven : Option Byte
  acknowledged : Bool
  deriving DecidableEq, Repr

/-- A port record at power-on (R157, R170), the rights from its straps; the clear line is taken as released,
the direction line says write, the port drives and acknowledges nothing, and no read strobe waits: DESIGN CHOICE, log
36. -/
def PortRecord.powerOn (r : Straps) : PortRecord where
  frameState := .idle
  code := none
  statedCount := none
  arguments := []
  runningSum := 0
  gapTimer := none
  response := none
  readPosition := 0
  writeHeld := none
  answerOwed := false
  safety := r.safety
  setup := r.setup
  pendingSet := 1
  maskSet := 0
  attention := true
  frameTag := 0
  clearHeld := false
  readWaiting := false
  direction := .write
  untilWrite := none
  driven := none
  acknowledged := false

/-- A frame passed to its owner and not yet ruled on (R163). -/
structure Passed where
  port : Port
  tag : Nat
  command : Instr
  deriving DecidableEq, Repr

/-- An owner's answer that has not yet arrived (R159, R160). `tag` names the frame it answers; none for a
command no frame carried (log 25). -/
structure Answer where
  port : Port
  tag : Option Nat
  status : Status
  data : List Byte
  deriving DecidableEq, Repr

structure PortUnit where
  ports : Vector PortRecord 3
  routes : Vector PortSet 64
  passed : List Passed
  answers : List Answer
  deriving DecidableEq, Repr

/-! ### The whole part -/

/-- The filtered inputs as their pins stand, and the microseconds since the last sample (R2, R126, R140). -/
structure Pins where
  sprocket : Vector Level 8
  zeroCross : Level
  alarm : Activity
  limits : Vector Activity 12
  sinceSample : Nat
  deriving DecidableEq, Repr

/-- The state of the block. `pending` is the queue of waiting commands, first in, first out. -/
structure State where
  mu : Vector Motion 8
  lc : LineControl
  lu : LampUnit
  su : ShowUnit
  hu : HouseUnit
  fu : FireUnit
  pu : PortUnit
  pins : Pins
  pending : List Instr
  deriving DecidableEq, Repr

/-- No command stops the block with a fault: refused commands are answered with a status (R161, R72) and
discarded frames change nothing (R22, R158). Nobody raises a fault. -/
inductive Fault where
  deriving DecidableEq, Repr

/-- Why a command could be refused by the model. -/
inductive Refusal where
  /-- An arm of exec whose command has no meaning yet; safe. No arm raises it in this model. -/
  | notModelled (mnemonic : String)
  deriving DecidableEq, Repr

/-- What the model takes the pins to show at reset (log 4): port 2 strapped SETUP and port 3 SAFETY, the
usual units of spec/00 section 1.2; every limit and the alarm inactive. -/
def resetPins : PowerOnPins where
  straps := #v[⟨false, false⟩, ⟨false, true⟩, ⟨true, false⟩]
  limits := Vector.replicate 12 .inactive
  alarm := .inactive

/-- The state right after power-on: every record at its power-on value (R1, R23, R41, R43, R68, R69, R82,
R88, R89, R110, R125, R131, R139, R144, R157, R170), with the pins of `resetPins` and an empty queue. -/
def State.reset : State where
  mu := Vector.replicate 8 Motion.powerOn
  lc := LineControl.powerOn
  lu := LampUnit.powerOn
  su := ShowUnit.powerOn
  hu := HouseUnit.powerOn
  fu := {
    state := .tripped
    causes := [.powerOn]
    underTest := none
    alarm := resetPins.alarm
    alarmRun := 0
    shutters := Vector.replicate 12 (ShutterRecord.powerOn .inactive) }
  pu := {
    ports := #v[PortRecord.powerOn ⟨false, false⟩, PortRecord.powerOn ⟨false, true⟩,
      PortRecord.powerOn ⟨true, false⟩]
    routes := Vector.replicate 64 7
    passed := []
    answers := [] }
  pins := {
    sprocket := Vector.replicate 8 .low
    zeroCross := .low
    alarm := resetPins.alarm
    limits := resetPins.limits
    sinceSample := 0 }
  pending := []

end Sys2Proof.Machine
end

