-- ==== Sys2Proof/Machine/Ops.lean ====
section
/-! DEFINITION. The named operations over the records: reading a record, rewriting a record, and the
filter and timers that several blocks share. -/

namespace Sys2Proof.Machine

/-! ### Reading a record -/

def State.motion (s : State) (p : Projector) : Motion := s.mu[p]
def State.station (s : State) (p : Projector) : Station := s.lc.stations[p]
def State.watch (s : State) (sc : Screen) : Watch := s.lc.watches[sc]
def State.lamp (s : State) (p : Projector) : Lamp := s.lu.lamps[p]
def State.cue (s : State) (x : CueIx) : Cue := s.su.cues[x]
def State.screen (s : State) (sc : Screen) : ScreenRecord := s.su.screens[sc]
def State.reel (s : State) (sc : Screen) (r : ReelIx) : ReelEntry := (s.screen sc).reels[r]
def State.role (s : State) (p : Projector) : Role := s.su.roles[p]
def State.mark (s : State) (p : Projector) : Option Nat := s.su.marks[p]
def State.channel (s : State) (ch : Channel) : HouseChannel := s.hu.channels[ch]
def State.shutter (s : State) (k : Shutter) : ShutterRecord := s.fu.shutters[k]
def State.port (s : State) (n : Port) : PortRecord := s.pu.ports[n]
def State.route (s : State) (n : Notice) : PortSet := s.pu.routes[n]

/-! ### Rewriting a record -/

def State.onMotion (s : State) (p : Projector) (f : Motion → Motion) : State :=
  { s with mu := upd s.mu p f }

def State.onStation (s : State) (p : Projector) (f : Station → Station) : State :=
  { s with lc := { s.lc with stations := upd s.lc.stations p f } }

def State.onDesired (s : State) (p : Projector) (f : Desired → Desired) : State :=
  s.onStation p (fun r => { r with desired := f r.desired })

def State.setWatch (s : State) (sc : Screen) (w : Watch) : State :=
  { s with lc := { s.lc with watches := upd s.lc.watches sc (fun _ => w) } }

def State.setQueue (s : State) (q : List Burst) : State :=
  { s with lc := { s.lc with burstQueue := q } }

def State.setSending (s : State) (x : Sending) : State :=
  { s with lc := { s.lc with sending := x } }

def State.setWindow (s : State) (w : Window) : State :=
  { s with lc := { s.lc with window := w } }

def State.onLamp (s : State) (p : Projector) (f : Lamp → Lamp) : State :=
  { s with lu := { s.lu with lamps := upd s.lu.lamps p f } }

def State.onCue (s : State) (x : CueIx) (f : Cue → Cue) : State :=
  { s with su := { s.su with cues := upd s.su.cues x f } }

def State.setFree (s : State) (l : List CueIx) : State :=
  { s with su := { s.su with free := l } }

def State.onScreen (s : State) (sc : Screen) (f : ScreenRecord → ScreenRecord) : State :=
  { s with su := { s.su with screens := upd s.su.screens sc f } }

def State.setReel (s : State) (sc : Screen) (r : ReelIx) (e : ReelEntry) : State :=
  s.onScreen sc (fun x => { x with reels := upd x.reels r (fun _ => e) })

def State.onChangeover (s : State) (sc : Screen) (f : Changeover → Changeover) : State :=
  s.onScreen sc (fun x => { x with changeover := f x.changeover })

def State.setRole (s : State) (p : Projector) (r : Role) : State :=
  { s with su := { s.su with roles := upd s.su.roles p (fun _ => r) } }

def State.setMark (s : State) (p : Projector) (m : Option Nat) : State :=
  { s with su := { s.su with marks := upd s.su.marks p (fun _ => m) } }

def State.onMains (s : State) (f : Mains → Mains) : State :=
  { s with hu := { s.hu with mains := f s.hu.mains } }

def State.onChannel (s : State) (ch : Channel) (f : HouseChannel → HouseChannel) : State :=
  { s with hu := { s.hu with channels := upd s.hu.channels ch f } }

def State.onShutter (s : State) (k : Shutter) (f : ShutterRecord → ShutterRecord) : State :=
  { s with fu := { s.fu with shutters := upd s.fu.shutters k f } }

def State.setFire (s : State) (x : FireState) : State :=
  { s with fu := { s.fu with state := x } }

def State.setCauses (s : State) (l : List Cause) : State :=
  { s with fu := { s.fu with causes := l } }

def State.setUnderTest (s : State) (k : Option Shutter) : State :=
  { s with fu := { s.fu with underTest := k } }

def State.onPort (s : State) (n : Port) (f : PortRecord → PortRecord) : State :=
  { s with pu := { s.pu with ports := upd s.pu.ports n f } }

/-! ### The input filter (R2, R126, R140) -/

/-- One sample `x` of an input whose accepted level is `accepted`: the accepted level and sample run after
it, and whether the level was accepted at this sample. -/
def filterSample {α : Type} [DecidableEq α] (accepted : α) (run : Nat) (x : α) : α × Nat × Bool :=
  if x = accepted then (accepted, 0, false)
  else if Config.filterSamples ≤ run + 1 then (x, 0, true)
  else (accepted, run + 1, false)

/-! ### Timers in the microsecond clock (log 16) -/

/-- One microsecond of a timer that counts down in units of `unit` microseconds and holds at 0. -/
def Timer.down (unit : Nat) (t : Timer) : Timer :=
  if unit ≤ t.sub + 1 then ⟨t.value - 1, 0⟩ else ⟨t.value, t.sub + 1⟩

/-- One microsecond of a count that rises in units of `unit` microseconds and holds at `top`. -/
def Timer.up (unit top : Nat) (t : Timer) : Timer :=
  if unit ≤ t.sub + 1 then ⟨min (t.value + 1) top, 0⟩ else ⟨t.value, t.sub + 1⟩

end Sys2Proof.Machine
end

