-- ==== Sys2Proof/Machine/Flags.lean ====
section
/-! DEFINITION. The part's flags towards its units: notices, pending sets, masks and attention lines
(spec/09 section 9.4, spec/10 section 10.2). -/

namespace Sys2Proof.Machine

/-! ### The notice numbers (R165, R171) -/

def noticeFireTrip : Notice := 0
def noticeFireShut : Notice := 1
def noticeShutterJam : Notice := 2
def noticeFireRearmed : Notice := 3
def noticeShutterTestDone : Notice := 4
def noticeStationLost : Notice := 5
def noticeStationPresent : Notice := 6
def noticeMainsLost : Notice := 7
def noticeMainsRestored : Notice := 8
def noticeTripCauseAdded : Notice := 9
/-- The `k`-th of the eight notices of screen `sc`. -/
def screenNotice (sc : Screen) (k : Fin 8) : Notice := ⟨16 + 8 * sc.val + k.val, by omega⟩
def noticeCueFired (sc : Screen) : Notice := screenNotice sc 0
def noticeChangeoverDone (sc : Screen) : Notice := screenNotice sc 1
def noticeChangeoverWaiting (sc : Screen) : Notice := screenNotice sc 2
def noticeScreenDark (sc : Screen) : Notice := screenNotice sc 3
def noticeMarkIrregular (sc : Screen) : Notice := screenNotice sc 4
def noticeArmWithdrawn (sc : Screen) : Notice := screenNotice sc 5
def noticeShowEnded (sc : Screen) : Notice := screenNotice sc 6
def noticeHouseFadeDone (sc : Screen) : Notice := screenNotice sc 7
def noticeLampAttention (p : Projector) : Notice := ⟨48 + p.val, by omega⟩
def noticeProjectorAttention (p : Projector) : Notice := ⟨56 + p.val, by omega⟩

/-! ### Sets of notices -/

def noticeBit (n : Notice) : NoticeSet := BitVec.ofNat 64 (2 ^ n.val)

/-- The notices a port can see: pending and not hidden by its mask (R166). -/
def PortRecord.visible (r : PortRecord) : NoticeSet := r.pendingSet &&& ~~~r.maskSet

/-- The lowest notice of a set (R167). -/
def lowestNotice (m : NoticeSet) : Option Notice := (List.finRange 64).find? (fun n => m.getLsbD n.val)

/-- The attention line set afresh (R166). -/
def PortRecord.refresh (r : PortRecord) : PortRecord :=
  { r with attention := r.pendingSet &&& ~~~r.maskSet != 0 }

/-- A port's pending set replaced, and its attention line with it (R166). -/
def PortRecord.setPending (r : PortRecord) (m : NoticeSet) : PortRecord :=
  { r with pendingSet := m }.refresh

/-- A port's mask set replaced, and its attention line with it (R166, R168). -/
def PortRecord.setMask (r : PortRecord) (m : NoticeSet) : PortRecord :=
  { r with maskSet := m }.refresh

/-- Notice `n` raised by an owner: pending on every port of its route entry (R165). -/
def State.raise (s : State) (n : Notice) : State :=
  { s with pu := { s.pu with
      ports := updEach s.pu.ports (fun i r =>
        if (s.route n).getLsbD i.val then r.setPending (r.pendingSet ||| noticeBit n) else r) } }

/-- PROJECTOR_ATTENTION p with its cause, whoever raises it (R16). -/
def State.projectorAttention (s : State) (p : Projector) (c : MotionCause) : State :=
  (s.onMotion p (fun m => { m with cause := c })).raise (noticeProjectorAttention p)

/-- LAMP_ATTENTION p with its cause (R44). -/
def State.lampAttention (s : State) (p : Projector) (c : LampCause) : State :=
  (s.onLamp p (fun l => { l with cause := c })).raise (noticeLampAttention p)

end Sys2Proof.Machine
end

