-- ==== Sys2Proof/Machine/Operands.lean ====
section
/-! DEFINITION. Operand forms: which thing a number names (spec/00 section 1.6), the argument ranges and
rights of the console commands (spec/09 R162, R164), how a command is ruled on and answered (R163), and
how values are coded into response bytes (spec/10 R171). -/

namespace Sys2Proof.Machine

open Host (Outcome)

/-! ### Screens, projectors and sides (spec/00 section 1.6) -/

/-- The screen a projector feeds. -/
def screenOf (p : Projector) : Screen := ⟨p.val / 2, by omega⟩
/-- The side of its screen a projector is. -/
def sideOf (p : Projector) : Side := if p.val % 2 = 0 then .a else .b
/-- The projector on a side of a screen. -/
def projectorOf (sc : Screen) : Side → Projector
  | .a => ⟨2 * sc.val, by omega⟩
  | .b => ⟨2 * sc.val + 1, by omega⟩
/-- The other projector of the same screen. -/
def partner (p : Projector) : Projector :=
  match sideOf p with
  | .a => projectorOf (screenOf p) .b
  | .b => projectorOf (screenOf p) .a
/-- The projection shutter of a projector. -/
def portShutter (p : Projector) : Shutter := ⟨p.val, by omega⟩
/-- The projector of a projection shutter; none for an observation shutter. -/
def shutterProjector (k : Shutter) : Option Projector := if h : k.val < 8 then some ⟨k.val, h⟩ else none

/-! ### Rights and ranges of console commands -/

inductive Right where
  | safety | setup
  deriving DecidableEq, Repr

/-- The right a command needs (R162, R164). -/
def rightNeeded : Instr → Option Right
  | .fireRearm _ | .shutterTest _ _ => some .safety
  | .lampSet _ _ _ | .noticeRoute _ _ _ | .lineReset _ | .boothSet _ _ => some .setup
  | _ => none

/-- Whether a port's straps grant what a command needs (R164). -/
def PortRecord.grants (r : PortRecord) : Option Right → Bool
  | none => true
  | some .safety => r.safety
  | some .setup => r.setup

/-- `k` is one of 1 to `n`. -/
def oneTo (n k : Nat) : Bool := 1 ≤ k && k ≤ n

/-- The port unit's range test of a command's arguments (R162). -/
def inRange : Instr → Bool
  | .readScreen _ s => oneTo 4 s
  | .readProjector _ p => oneTo 8 p
  | .readLamp _ p => oneTo 8 p
  | .readStation _ p => p ≤ 8
  | .readShutter _ k => oneTo 12 k
  | .readHouse _ ch => ch ≤ 4
  | .readReel _ s reel => oneTo 4 s && oneTo 12 reel
  | .readCue _ x => x < 128
  | .readList _ s => s ≤ 4
  | .cueNew _ s _ => oneTo 4 s
  | .cueNewBefore _ s _ x => oneTo 4 s && x < 128
  | .cueNewAfter _ s _ x => oneTo 4 s && x < 128
  | .cueMoveBefore _ s _ x y => oneTo 4 s && x < 128 && y < 128
  | .cueMoveAfter _ s _ x y => oneTo 4 s && x < 128 && y < 128
  | .cueWrite _ s _ x _ => oneTo 4 s && x < 128
  | .cueFree _ s _ x => oneTo 4 s && x < 128
  | .reelSet _ s _ reel _ _ => oneTo 4 s && oneTo 12 reel
  | .reelThreaded _ s reel => oneTo 4 s && oneTo 12 reel
  | .reelUnthread _ s reel => oneTo 4 s && oneTo 12 reel
  | .showStart _ s => oneTo 4 s
  | .go _ s => oneTo 4 s
  | .showStop _ s => oneTo 4 s
  | .showRewind _ s => oneTo 4 s
  | .showClear _ s _ => oneTo 4 s
  | .projMotor _ p a => oneTo 8 p && a ≤ 1
  | .projDouser _ p a => oneTo 8 p && a ≤ 1
  | .lampStrike _ p => oneTo 8 p
  | .lampOff _ p => oneTo 8 p
  | .lampSet _ p _ => oneTo 8 p
  | .lampRecarbon _ p _ => oneTo 8 p
  | .houseFade _ ch _ _ => oneTo 4 ch
  | .shutterTest _ k => oneTo 12 k
  | .noticeRoute _ notice ports => (notice ≤ 9 || (16 ≤ notice && notice ≤ 63)) && ports < 8
  | _ => true

/-! ### Ruling and answering (R163) -/

/-- An owner's ruling: the status and data of its answer, and the part after it. -/
structure Ruling where
  status : Status
  data : List Byte
  state : State

/-- A ruling that changes nothing. -/
def refuse (s : State) (st : Status) : Ruling := ⟨st, [], s⟩

/-- The frame that `c` from port `n` came in, oldest first (log 25). -/
def isFrameOf (n : Port) (c : Instr) (f : Passed) : Bool := f.port = n && f.command = c

/-- The owner's answer to `c` from port `n` sets out, tied to the frame it answers (R160, R163). -/
def State.answer (s : State) (n : Port) (c : Instr) (st : Status) (data : List Byte) : State :=
  { s with pu := { s.pu with
      passed := s.pu.passed.eraseP (isFrameOf n c)
      answers := s.pu.answers ++ [⟨n, (s.pu.passed.find? (isFrameOf n c)).map (·.tag), st, data⟩] } }

/-- A console command from port `n`: the port unit's checks of rights and ranges (R161, steps 4 and 5), then
the owner's rule, then the answer. -/
def console (n : Port) (c : Instr) (s : State) (rule : State → Ruling) :
    Outcome State Fault Refusal :=
  if !(s.port n).grants (rightNeeded c) then .next (s.answer n c .denied [])
  else if !inRange c then .next (s.answer n c .range [])
  else .next ((rule s).state.answer n c (rule s).status (rule s).data)

/-- The owner's rule on the thing a number names among `m` things numbered from 1. -/
def onNumber {m : Nat} (k : Nat) (s : State) (rule : Fin m → Ruling) : Ruling :=
  match numbered m k with
  | some i => rule i
  | none => refuse s .range

/-- The owner's rule on the cue record a number names. -/
def onCueIx (x : Nat) (s : State) (rule : CueIx → Ruling) : Ruling :=
  if h : x < 128 then rule ⟨x, h⟩ else refuse s .range

/-! ### Codes of named values: the place in the spec's list, counted from 0 (R171) -/

def yesNo (b : Bool) : List Byte := byte1 (if b then 1 else 0)

def Status.code : Status → Byte
  | .ok => 0 | .check => 1 | .unknown => 2 | .length => 3 | .range => 4 | .denied => 5
  | .state => 6 | .stale => 7 | .live => 8 | .empty => 9 | .trip => 10

def levelCode : Level → Nat | .low => 0 | .high => 1
def activityCode : Activity → Nat | .active => 0 | .inactive => 1
def sideCode : Side → Nat | .a => 0 | .b => 1
def Gate.code : Gate → Nat | .opened => 0 | .closed => 1
def Speed.code : Speed → Nat | .stopped => 0 | .runningUp => 1 | .atSpeed => 2 | .offSpeed => 3
def MotionCause.code : MotionCause → Nat
  | .none => 0 | .offSpeed => 1 | .slowStart => 2 | .silentStop => 3 | .runOutUnseen => 4
  | .bladeUnconfirmed => 5
def Presence.code : Presence → Nat | .absent => 0 | .present => 1 | .lost => 2
def MotorCommand.code : MotorCommand → Nat | .run => 0 | .stop => 1
def MotorReport.code : MotorReport → Nat | .running => 0 | .stopped => 1
def Opening.code : Opening → Nat | .opened => 0 | .closed => 1
def Switch.code : Switch → Nat | .on => 0 | .off => 1
def Sensor.code : Sensor → Nat | .set => 0 | .clear => 1
def LampState.code : LampState → Nat
  | .cold => 0 | .striking => 1 | .burning => 2 | .out => 3 | .fault => 4
def LampFault.code : LampFault → Nat
  | .none => 0 | .strikeFailed => 1 | .carbonExhausted => 2 | .stationLost => 3 | .arcOut => 4
def LampCause.code : LampCause → Nat
  | .none => 0 | .strikeStarted => 1 | .struck => 2 | .strikeFailed => 3 | .arcOut => 4 | .off => 5
  | .lineReset => 6 | .stationLost => 7 | .carbonExhausted => 8 | .trim => 9
def CueKind.code : CueKind → Nat
  | .strike => 0 | .motor => 1 | .change => 2 | .douser _ => 3 | .house _ _ => 4 | .end_ => 5
def Trigger.code : Trigger → Nat | .frames _ => 0 | .mark _ _ => 1 | .after _ => 2 | .go => 3
def CueState.code : CueState → Nat | .pending => 0 | .fired => 1 | .skipped => 2
def DouserTarget.code : DouserTarget → Nat
  | .incomingOpen => 0 | .incomingClose => 1 | .outgoingOpen => 2 | .outgoingClose => 3
def ReelState.code : ReelState → Nat | .listed => 1 | .loaded => 2 | .running => 3 | .done => 4
def ScreenState.code : ScreenState → Nat
  | .idle => 0 | .dark => 1 | .running => 2 | .waiting => 3 | .ended => 4 | .stopped => 5
def ChangeoverState.code : ChangeoverState → Nat
  | .none => 0 | .waitingReady => 1 | .queued => 2 | .sent => 3 | .done => 4 | .aborted => 5
def Role.code : Role → Nat
  | .idle => 0 | .armed => 1 | .starting => 2 | .standby => 3 | .onScreen => 4 | .tail => 5
def MainsPhase.code : MainsPhase → Nat | .awaiting => 0 | .timing => 1
def MainsState.code : MainsState → Nat | .invalid => 0 | .valid => 1
def Direction.code : Direction → Nat | .up => 0 | .down => 1 | .none => 2
def FireState.code : FireState → Nat | .clear => 0 | .tripped => 1 | .shut => 2
def ShutterState.code : ShutterState → Nat
  | .opened => 0 | .dropping => 1 | .closed => 2 | .jammed => 3 | .raising => 4
def Hold.code : Hold → Nat | .energized => 0 | .released => 1
def TestResult.code : TestResult → Nat | .none => 0 | .pass => 1 | .fail => 2
/-- The source number of a cause in a trip entry (R171). -/
def Cause.code : Cause → Nat
  | .powerOn => 0 | .alarmLine => 1 | .gateFlame p => 2 + p.val | .manual n => 10 + n.val
  | .shutterFall k => 13 + k.val

/-- A number or "none" in one byte, and in two: none is all ones (R171). -/
def maybe1 : Option Nat → List Byte
  | some k => byte1 k
  | none => byte1 255
def maybe2 : Option Nat → List Byte
  | some k => byte2 k
  | none => byte2 65535

/-- A thing of a numbered kind, by its number from 1. -/
def numberOf {m : Nat} (i : Fin m) : Nat := i.val + 1

end Sys2Proof.Machine
end

