-- ==== Sys2Proof/Machine/LineCoding.lean ====
section
/-! DEFINITION. The booth line's frames: biphase-mark coding (spec/02 R20), frames and markers (R21), the
judging of a received frame (R22), and the byte layouts and CRC (spec/10 R172). A signal is the list of
holds between the line's transitions, in half cells of 8 us; polarity plays no part in it. -/

namespace Sys2Proof.Machine

/-! ### The CRC (R21, R172) -/

/-- One bit through the generator x^16 + x^12 + x^5 + 1. -/
def crcBit (reg : BitVec 16) (bit : Bool) : BitVec 16 :=
  if reg.msb != bit then (reg <<< 1) ^^^ 0x1021 else reg <<< 1

/-- The bits of a byte, most significant first (R20). -/
def byteBits (b : Byte) : List Bool := (List.range 8).map (fun i => b.getLsbD (7 - i))

def bitsOf (bytes : List Byte) : List Bool := bytes.flatMap byteBits

/-- The CRC of a frame's header and payload. -/
def crc (bytes : List Byte) : BitVec 16 := (bitsOf bytes).foldl crcBit 0xFFFF

/-- The CRC's two bytes, most significant first. -/
def crcBytes (bytes : List Byte) : List Byte :=
  [(crc bytes).extractLsb' 8 8, (crc bytes).extractLsb' 0 8]

/-! ### Frames (R21) -/

inductive Marker where
  | poll | reply | burst | lineReset
  deriving DecidableEq, Repr

/-- A start-marker symbol: J is held 1.5 cells, K 2 cells. -/
inductive LineSymbol where
  | j | k
  deriving DecidableEq, Repr

def Marker.symbols : Marker → List LineSymbol
  | .poll => [.j, .j, .j, .k]
  | .reply => [.j, .j, .k, .k]
  | .burst => [.j, .k, .j, .k]
  | .lineReset => [.k, .k, .k, .k]

/-- A frame on the line: its marker, and its header and payload bytes. -/
structure LineFrame where
  marker : Marker
  body : List Byte
  deriving DecidableEq, Repr

/-! ### Sending and receiving cells (R20) -/

/-- The holds of one bit cell: a 1 has a transition at mid-cell. -/
def cellHolds (bit : Bool) : List Nat := if bit then [1, 1] else [2]
def symbolHolds : LineSymbol → List Nat | .j => [3] | .k => [4]
/-- The preamble: 16 cells alternating 1 and 0, beginning with 1 (R21). -/
def preambleHolds : List Nat := (List.replicate 8 [true, false]).flatten.flatMap cellHolds

/-- The hold that ends a frame: the line idle for 3 cells. -/
def idleHold : Nat := 6

/-- The holds of a whole frame, up to its last cell's end. -/
def LineFrame.holds (f : LineFrame) : List Nat :=
  preambleHolds ++ f.marker.symbols.flatMap symbolHolds
    ++ (bitsOf (f.body ++ crcBytes f.body)).flatMap cellHolds

/-- The signal of a frame as a receiver sees it: the last hold runs on into the idle line. -/
def LineFrame.signal (f : LineFrame) : List Nat := f.holds.dropLast ++ [idleHold]

/-- The time a frame occupies the line, in us (section 2.2). -/
def LineFrame.time (f : LineFrame) : Nat := 8 * f.holds.sum

/-- The holds of a received frame before its last one: the idle line is the frame's end, whatever transitions come after
it, and the frame's last hold is the one that runs on into it (R20). -/
def frameHolds (signal : List Nat) : List Nat := signal.dropLast.takeWhile (fun h => h < idleHold)

/-- The time from a received frame's first transition to the end of its last cell, in us: the frame ends with the cell
that its last hold began in or begins. -/
def signalTime (signal : List Nat) : Nat := 16 * ((frameHolds signal).sum / 2 + 1)

/-- A marker symbol read from a hold. -/
def readSymbol : Nat → Option LineSymbol
  | 3 => some .j
  | 4 => some .k
  | _ => none

/-- The bits of the cells after the marker, up to the idle line (R20); none if a hold is no part of a cell. R22 does not
name such a hold among its discards: that the frame is discarded whole is a DESIGN CHOICE, log 38. -/
def readCells : List Nat → Option (List Bool)
  | [] => some []
  | 2 :: rest => (readCells rest).map (false :: ·)
  | 1 :: 1 :: rest => (readCells rest).map (true :: ·)
  | 1 :: h :: _ => if idleHold ≤ h then some [true] else none
  | h :: _ => if idleHold ≤ h then some [false] else none

/-- The marker whose symbols these are. -/
def markerOf (l : List LineSymbol) : Option Marker :=
  [Marker.poll, .reply, .burst, .lineReset].find? (fun m => m.symbols = l)

/-- What a receiver makes of a signal: the marker and the bits after it. R22 names no test of the preamble: any holds shorter
than a marker symbol's are passed over before the marker, be they the 16 cells of R21 or not: DESIGN CHOICE, log 38. -/
def receive (signal : List Nat) : Option (Marker × List Bool) :=
  let afterPreamble := signal.dropWhile (fun h => h < 3)
  match (afterPreamble.take 4).mapM readSymbol, readCells (afterPreamble.drop 4) with
  | some symbols, some bits => (markerOf symbols).map (fun m => (m, bits))
  | _, _ => none

/-! ### Bytes of a received frame -/

def bitsToByte (bits : List Bool) : Byte :=
  BitVec.ofNat 8 (bits.foldl (fun v b => 2 * v + (if b then 1 else 0)) 0)

/-- Cut bits into bytes; none where they are not whole bytes (R22). -/
def bytesOf : List Bool → Option (List Byte)
  | [] => some []
  | a :: b :: c :: d :: e :: f :: g :: h :: rest =>
      (bytesOf rest).map (bitsToByte [a, b, c, d, e, f, g, h] :: ·)
  | _ => none

/-- Header fields (spec/10 section 10.3): address in bits 7 to 4, toggle bit 3, command-present bit 2. -/
def headerByte (address : Nat) (toggle commandPresent : Bool) : Byte :=
  BitVec.ofNat 8 (address * 16 + (if toggle then 8 else 0) + (if commandPresent then 4 else 0))
def headerAddress (h : Byte) : Nat := h.toNat / 16
def headerToggle (h : Byte) : Bool := h.getLsbD 3
def headerCommand (h : Byte) : Bool := h.getLsbD 2

/-- The payload length a marker and the command-present bit fix (R21); none for a form R21 does not list. -/
def payloadLength : Marker → Bool → Option Nat
  | .poll, true => some 1
  | .reply, true => some 10
  | .reply, false => some 0
  | .burst, true => some 1
  | .lineReset, false => some 0
  | _, _ => none

/-- The header and payload of a received frame that R22 does not discard; only a REPLY can be one. -/
def judge (signal : List Nat) : Option (Byte × List Byte) :=
  match receive signal with
  | some (.reply, bits) =>
    match bytesOf bits with
    | some bytes =>
      let body := bytes.take (bytes.length - 2)
      match body with
      | header :: payload =>
        if payloadLength .reply (headerCommand header) = some payload.length
            && bytes.drop (bytes.length - 2) = crcBytes body
        then some (header, payload) else none
      | [] => none
    | none => none
  | _ => none

/-! ### Report bytes (spec/10 section 10.3, R172; byte order of two-byte fields: log 14) -/

def reportOf : List Byte → Option Report
  | [b0, marks, v1, v0, i1, i0, temp, _, _, _] =>
    some {
      motor := if b0.getLsbD 0 then .running else .stopped
      douser := if b0.getLsbD 1 then .opened else .closed
      blade := if b0.getLsbD 2 then .opened else .closed
      arc := if b0.getLsbD 3 then .on else .off
      filmBreak := if b0.getLsbD 4 then .set else .clear
      gateFlame := if b0.getLsbD 5 then .set else .clear
      marks := marks.toNat
      volts := word v1 v0 % 1024
      amps := word i1 i0 % 2048
      temperature := temp.toNat }
  | _ => none

/-- A reply read by its fields. -/
structure Reply where
  address : Nat
  toggle : Bool
  report : Option Report
  deriving DecidableEq, Repr

/-- A received signal as a reply, where R22 does not discard it. -/
def replyOf (signal : List Nat) : Option Reply :=
  (judge signal).map (fun f => ⟨headerAddress f.1, headerToggle f.1, reportOf f.2⟩)

/-! ### Frames the part sends (R24, R25, R172) -/

def pollPayload (d : Desired) : Byte :=
  BitVec.ofNat 8 ((if d.motor = .run then 1 else 0) + (if d.douser = .opened then 2 else 0)
    + (if d.blade = .opened then 4 else 0) + (if d.arc = .on then 8 else 0))

def burstPayload : Burst → Byte
  | .trip => 0x80
  | .changeover sc side => BitVec.ofNat 8 ((if side = .b then 8 else 0) + numberOf sc)

/-- The frame on the line while the part sends. -/
def Sending.frame : Sending → Option LineFrame
  | .nothing => none
  | .lineReset => some ⟨.lineReset, [headerByte 0 false false]⟩
  | .burst b => some ⟨.burst, [headerByte 0 false true, burstPayload b]⟩
  | .poll p d => some ⟨.poll, [headerByte (numberOf p) false true, pollPayload d]⟩

end Sys2Proof.Machine
end

