-- ==== Sys2Proof/Machine/House.lean ====
section
/-! DEFINITION. The house light unit: the mains, the lamp law, firing, fades and the fire override (spec/07
R125 to R138). -/

namespace Sys2Proof.Machine

/-- Conduction point k of the lamp law (R128). -/
def lawPoint (k : Nat) : Nat := Config.lampLaw.getD k 0

/-- The conduction of level `v`, in 1/1024 of a half-cycle (R128). -/
def conduction (v : Nat) : Nat :=
  let k := if 240 ≤ v then 15 else v / 16
  let span := if k = 15 then 15 else 16
  lawPoint k + (lawPoint (k + 1) - lawPoint k) * (v - 16 * k) / span

/-- The firing delay of level `v` in a half-cycle of length `h`; none where the channel does not fire (R129). -/
def firingDelay (h v : Nat) : Option Nat :=
  if v = 0 then none
  else
    let d := max Config.firingLow (h * (1024 - conduction v) / 1024)
    if h - Config.firingGuard < d then none else some d

/-- A channel's level: the fine level over 256, rounded down (R131). -/
def HouseChannel.level (c : HouseChannel) : Nat := c.fine / 256

/-- A running fade (R131). -/
def HouseChannel.fading (c : HouseChannel) : Bool := c.direction ≠ .none

/-- A fade ended at its target (R133, R134). -/
def HouseChannel.arrive (c : HouseChannel) (target : Nat) : HouseChannel :=
  { c with fine := target * 256, target := target, step := 0, direction := .none }

/-- Half-cycles in a time of `t` tenths of a second (R133). -/
def halfCycles (t h : Nat) : Nat := t * 100000 / h

/-- The distance of a fade in 1/256 of a level (R133). -/
def HouseChannel.distance (c : HouseChannel) (target : Nat) : Nat :=
  (c.fine - target * 256) + (target * 256 - c.fine)

/-- Whether a fade is done at once (R133). -/
def HouseChannel.atOnce (c : HouseChannel) (target t h : Nat) : Bool :=
  halfCycles t h = 0 || c.distance target = 0

/-- A fade set running, the step rounded up (R133). -/
def HouseChannel.startFade (c : HouseChannel) (target t h : Nat) : HouseChannel :=
  { c with
    target := target
    step := (c.distance target + halfCycles t h - 1) / halfCycles t h
    direction := if c.fine < target * 256 then .up else .down }

/-- A fade started on a channel (R133, R135). -/
def State.fade (s : State) (ch : Channel) (target t : Nat) : State :=
  if (s.channel ch).atOnce target t s.hu.mains.h then
    (s.onChannel ch (fun c => c.arrive target)).raise (noticeHouseFadeDone ch)
  else s.onChannel ch (fun c => c.startFade target t s.hu.mains.h)

/-- A fade asked for by HOUSE_FADE or by a HOUSE cue: refused with TRIP while the override is ON (R132). -/
def State.askFade (s : State) (ch : Channel) (target t : Nat) : Status × State :=
  if (s.channel ch).override = .on then (.trip, s) else (.ok, s.fade ch target (min t Config.delayMax))

/-- Whether a running fade's next step reaches its target (R134). -/
def HouseChannel.reaches (c : HouseChannel) : Bool :=
  match c.direction with
  | .up => c.target * 256 ≤ c.fine + c.step
  | .down => c.fine ≤ c.target * 256 + c.step
  | .none => false

/-- One step of a running fade (R134). -/
def HouseChannel.stepFade (c : HouseChannel) : HouseChannel :=
  if c.reaches then c.arrive c.target
  else
    match c.direction with
    | .up => { c with fine := c.fine + c.step }
    | .down => { c with fine := c.fine - c.step }
    | .none => c

/-- A channel's firing set up for the half-cycle that begins (R129, R130). -/
def HouseChannel.setFiring (h : Nat) (c : HouseChannel) : HouseChannel :=
  { c with lastDelay := firingDelay h c.level, firing := firingDelay h c.level }

/-- A channel at a valid crossing: the pending firing cancelled, the fade stepped, the firing set up (R130). -/
def HouseChannel.cross (h : Nat) (c : HouseChannel) : HouseChannel := c.stepFade.setFiring h

/-- A valid crossing on one channel, with HOUSE_FADE_DONE where its fade arrives (R130, R134). -/
def State.crossChannel (s : State) (ch : Channel) : State :=
  let s1 := s.onChannel ch (HouseChannel.cross s.hu.mains.h)
  if (s.channel ch).reaches then s1.raise (noticeHouseFadeDone ch) else s1

/-- A valid crossing (R130). -/
def State.validCrossing (s : State) : State := (List.finRange 4).foldl State.crossChannel s

/-- Every pending firing cancelled (R127, R129). -/
def State.cancelFirings (s : State) : State :=
  { s with hu := { s.hu with channels := updAll s.hu.channels (fun c => { c with firing := none }) } }

/-- A half-cycle judged valid (R127). R125 says that the power-on value of H is replaced by the first valid half-cycle
measured, R127 that H is left as it was until the fourth while the mains is INVALID: R127 is followed, DEDUCED, log 39. -/
def State.goodHalfCycle (s : State) (length : Nat) : State :=
  match s.hu.mains.state with
  | .valid => (s.onMains (fun m => { m with h := length })).validCrossing
  | .invalid =>
    if s.hu.mains.validRun + 1 < Config.validRuns then
      s.onMains (fun m => { m with validRun := m.validRun + 1 })
    else
      ((s.onMains (fun m => { m with state := .valid, validRun := 0, h := length })).raise
        noticeMainsRestored).validCrossing

/-- A half-cycle judged invalid (R127). -/
def State.badHalfCycle (s : State) : State :=
  match s.hu.mains.state with
  | .valid => ((s.onMains (fun m => { m with state := .invalid, validRun := 0 })).raise noticeMainsLost).cancelFirings
  | .invalid => s.onMains (fun m => { m with validRun := 0 })

/-- A valid length of a half-cycle ended by a crossing (R127). -/
def validLength (length : Nat) : Bool := Config.halfCycleLow ≤ length && length ≤ Config.halfCycleHigh

/-- A crossing of the mains: the filter's level changed, and the half-cycle begun or ended (R126, R127). The
firing pending from the half-cycle it ends is cancelled first (R129). -/
def State.crossing (s : State) : State :=
  let length := s.hu.mains.runningCount
  let level : Level := if s.hu.mains.accepted = .low then .high else .low
  let s1 := { s with pins := { s.pins with zeroCross := level } }
  match s.hu.mains.phase with
  | .awaiting =>
    s1.onMains (fun m => { m with accepted := level, sampleRun := 0, phase := .timing, runningCount := 0 })
  | .timing =>
    let s2 := (s1.onMains (fun m =>
      { m with accepted := level, sampleRun := 0, lastHalf := length, runningCount := 0 })).cancelFirings
    if validLength length then s2.goodHalfCycle length else s2.badHalfCycle

/-- An overrun: 12,000 written, judged invalid, timing ended (R126). MAINS_OVERRUN is the moment of the overrun in any
half-cycle being timed, whatever its running count, also right behind a crossing: DESIGN CHOICE, log 40. -/
def State.overrun (s : State) : State :=
  match s.hu.mains.phase with
  | .awaiting => s
  | .timing =>
    (s.onMains (fun m =>
      { m with lastHalf := Config.overrunCount, phase := .awaiting, runningCount := 0 })).badHalfCycle

/-- A channel's firing pulse begins, where a firing is pending: DIMMER_FIRING is the moment of that firing, whatever is
left of its delay (R129, logs 2 and 40). -/
def HouseChannel.fire (c : HouseChannel) : HouseChannel :=
  match c.firing with
  | none => c
  | some _ => { c with firing := none, pulse := Config.firingPulse }

/-- A channel under the trip: full, no fade running, override ON; a firing already set up is kept (R136). -/
def HouseChannel.trip (c : HouseChannel) : HouseChannel :=
  { c with override := .on, fine := Config.fullFine, target := 255, step := 0, direction := .none }

/-- The house light unit takes the trip (R136). -/
def State.houseTrip (s : State) : State :=
  { s with hu := { s.hu with channels := updAll s.hu.channels HouseChannel.trip } }

/-- The house light unit takes the rearm (R137). -/
def State.houseRearm (s : State) : State :=
  { s with hu := { s.hu with channels := updAll s.hu.channels (fun c => { c with override := .off }) } }

end Sys2Proof.Machine
end

