-- ==== Sys2Proof/Machine/Desired.lean ====
section
/-! DEFINITION. The line controller's rulings that reach no other block: requests for douser, blade and
arc (spec/02 R32, R33), and the burst queue (R36, R115). A request for the motor field, which the motion
unit's gate follows, is in Machine/Motion.lean. -/

namespace Sys2Proof.Machine

/-- The ruling on a request by R32: an energizing value is refused with TRIP while a trip is in force. -/
def State.energizingRuling (s : State) (energizing : Bool) : Status :=
  if energizing && s.lc.tripInForce then .trip else .ok

/-- A request to set the desired douser of station `p` (R32). -/
def State.askDouser (s : State) (p : Projector) (v : Opening) : Status × State :=
  match s.energizingRuling (v = .opened) with
  | .ok => (.ok, s.onDesired p (fun d => { d with douser := v }))
  | st => (st, s)

/-- A request to set the desired arc of station `p` (R32). -/
def State.askArc (s : State) (p : Projector) (v : Switch) : Status × State :=
  match s.energizingRuling (v = .on) with
  | .ok => (.ok, s.onDesired p (fun d => { d with arc := v }))
  | st => (st, s)

/-- The ruling on a request for a blade (R32, R33: blade OPEN is refused with STATE while the partner's
desired blade is OPEN). -/
def State.bladeRuling (s : State) (p : Projector) (v : Opening) : Status :=
  match s.energizingRuling (v = .opened) with
  | .ok => if v = .opened && (s.station (partner p)).desired.blade = .opened then .state else .ok
  | st => st

/-- A request to set the desired blade of station `p` (R32, R33). -/
def State.askBlade (s : State) (p : Projector) (v : Opening) : Status × State :=
  match s.bladeRuling p v with
  | .ok => (.ok, s.onDesired p (fun d => { d with blade := v }))
  | st => (st, s)

/-- Safe requests, taken at all times (R32). -/
def State.closeDouser (s : State) (p : Projector) : State := (s.askDouser p .closed).2
def State.closeBlade (s : State) (p : Projector) : State := (s.askBlade p .closed).2
def State.arcOff (s : State) (p : Projector) : State := (s.askArc p .off).2

/-- Whether a queue entry or a frame is a changeover burst of screen `sc`. -/
def Burst.isOf (sc : Screen) : Burst → Bool
  | .changeover s _ => s = sc
  | .trip => false
def Burst.isChangeover : Burst → Bool
  | .changeover _ _ => true
  | .trip => false
def Sending.isOf (sc : Screen) : Sending → Bool
  | .burst b => b.isOf sc
  | _ => false

/-- The ruling on a changeover burst request for screen `sc` (R36). -/
def State.burstRuling (s : State) (sc : Screen) : Status :=
  if s.lc.tripInForce then .trip
  else if s.lc.burstQueue.any (Burst.isOf sc) || s.lc.sending.isOf sc || s.watch sc != .closed then .state
  else .ok

/-- A changeover burst request for screen `sc`, opening `side` (R36). -/
def State.askBurst (s : State) (sc : Screen) (side : Side) : Status × State :=
  match s.burstRuling sc with
  | .ok => (.ok, s.setQueue (s.lc.burstQueue ++ [.changeover sc side]))
  | st => (st, s)

/-- A request to withdraw the changeover burst of screen `sc` (R115): whether there was one in the queue. -/
def State.askWithdraw (s : State) (sc : Screen) : Bool × State :=
  if s.lc.burstQueue.any (Burst.isOf sc) then
    (true, s.setQueue (s.lc.burstQueue.filter (fun b => !b.isOf sc)))
  else (false, s)

end Sys2Proof.Machine
end

