-- ==== Sys2Proof/Machine/Reels.lean ====
section
/-! DEFINITION. The reel table and the next reel (spec/04 R82), the reel that goes with a role (spec/05
R89), and the incoming of a screen (spec/06 R112). -/

namespace Sys2Proof.Machine

/-- An entry that is neither DONE nor RUNNING (R82). -/
def ReelEntry.isOpen : ReelEntry → Bool
  | .reel .done _ _ | .reel .running _ _ => false
  | _ => true

/-- The next reel of a screen: its lowest entry neither DONE nor RUNNING (R82). -/
def State.nextReel (s : State) (sc : Screen) : Option ReelIx :=
  (List.finRange 12).find? (fun r => (s.reel sc r).isOpen)

def ReelEntry.withState (st : ReelState) : ReelEntry → ReelEntry
  | .empty => .empty
  | .reel _ length side => .reel st length side

def ReelEntry.isAt (st : ReelState) (side : Side) : ReelEntry → Bool
  | .reel x _ y => x = st && y = side
  | .empty => false

/-- The reel of projector `p` that stands in state `st`: the lowest such entry on its side (log 23). -/
def State.reelOf (s : State) (p : Projector) (st : ReelState) : Option ReelIx :=
  (List.finRange 12).find? (fun r => (s.reel (screenOf p) r).isAt st (sideOf p))

/-- Move the reel of projector `p` from one state to another, length and side kept. -/
def State.moveReel (s : State) (p : Projector) (old new : ReelState) : State :=
  match s.reelOf p old with
  | some r => s.setReel (screenOf p) r ((s.reel (screenOf p) r).withState new)
  | none => s

/-- A role that is past IDLE and not yet on screen. -/
def Role.isReadying : Role → Bool
  | .armed | .starting | .standby => true
  | _ => false

/-- A role past arming: STARTING, STANDBY, ON_SCREEN or TAIL. -/
def Role.isPastArming : Role → Bool
  | .starting | .standby | .onScreen | .tail => true
  | _ => false

/-- The incoming of a screen: the projector of the next reel's side, when that reel is LOADED and the
projector is ARMED, STARTING or STANDBY (R112). -/
def State.incomingOf (s : State) (sc : Screen) : Option Projector :=
  match s.nextReel sc with
  | none => none
  | some r =>
    match s.reel sc r with
    | .reel .loaded _ side =>
      if (s.role (projectorOf sc side)).isReadying then some (projectorOf sc side) else none
    | _ => none

/-- The ON_SCREEN projector of a screen, if it has one. -/
def State.onScreenOf (s : State) (sc : Screen) : Option Projector :=
  if s.role (projectorOf sc .a) = .onScreen then some (projectorOf sc .a)
  else if s.role (projectorOf sc .b) = .onScreen then some (projectorOf sc .b)
  else none

/-- A performing screen: DARK, RUNNING or WAITING (section 5.4). -/
def ScreenState.performing : ScreenState → Bool
  | .dark | .running | .waiting => true
  | _ => false

end Sys2Proof.Machine
end

