-- ==== Sys2Proof/Machine/Changeover.lean ====
section
/-! DEFINITION. The changeover record and readiness (spec/06 R110 to R115), and what the show unit does on
a speed change and a lamp-state change (spec/05 R93). -/

namespace Sys2Proof.Machine

/-- A changeover in flight: WAITING_READY, QUEUED or SENT (R110). -/
def ChangeoverState.inFlight : ChangeoverState → Bool
  | .waitingReady | .queued | .sent => true
  | _ => false

/-- A changeover whose incoming is examined: WAITING_READY or QUEUED (R113). -/
def ChangeoverState.examined : ChangeoverState → Bool
  | .waitingReady | .queued => true
  | _ => false

/-- Whether the station's last report shows the douser OPEN. -/
def Station.reportsDouserOpen (r : Station) : Bool :=
  match r.lastReport with
  | some x => x.douser = .opened
  | none => false

/-- The five conditions of readiness (R112); an absent incoming is not ready. -/
def State.ready (s : State) : Option Projector → Bool
  | none => false
  | some p =>
    s.role p = .standby && (s.lamp p).state = .burning && (s.station p).reportsDouserOpen
      && (s.shutter (portShutter p)).state = .opened && (s.station p).presence = .present

/-- The burst requested for a ready incoming; the record becomes QUEUED if the line takes it (R114). -/
def State.requestBurst (s : State) (sc : Screen) (p : Projector) : State :=
  match s.askBurst sc (sideOf p) with
  | (.ok, s1) => s1.onChangeover sc (fun c => { c with state := .queued })
  | (_, s1) => s1

/-- The burst withdrawn because the incoming is no longer ready (R115). -/
def State.withdrawBurst (s : State) (sc : Screen) : State :=
  match s.askWithdraw sc with
  | (true, s1) =>
    (s1.onChangeover sc (fun c => { c with state := .waitingReady })).raise (noticeChangeoverWaiting sc)
  | (false, s1) => s1

/-- The burst requested if the incoming is ready (R114). -/
def State.requestIfReady (s : State) (sc : Screen) (inc : Option Projector) : State :=
  match inc with
  | some p => if s.ready inc then s.requestBurst sc p else s
  | none => s

/-- The incoming examined afresh, while the record is WAITING_READY or QUEUED (R113). -/
def State.examine (s : State) (sc : Screen) : State :=
  let inc := s.incomingOf sc
  let s1 := s.onChangeover sc (fun c => { c with incoming := inc })
  match (s.screen sc).changeover.state with
  | .waitingReady => s1.requestIfReady sc inc
  | .queued => if s.ready inc then s1 else s1.withdrawBurst sc
  | .none | .sent | .done | .aborted => s

/-- The screen waits unless the burst of the changeover just opened is queued (R111). -/
def State.waitUnlessQueued (s : State) (sc : Screen) : State :=
  if (s.screen sc).changeover.state = .queued then s
  else
    (s.raise (noticeChangeoverWaiting sc)).onScreen sc (fun r =>
      { r with state := if r.state = .running then .waiting else r.state })

/-- A CHANGE cue opens the screen's changeover (R111). -/
def State.openChangeover (s : State) (sc : Screen) (x : CueIx) : State :=
  let inc := s.incomingOf sc
  let opened : Changeover := ⟨.waitingReady, s.onScreenOf sc, inc, some x, false, false⟩
  ((s.onChangeover sc (fun _ => opened)).requestIfReady sc inc).waitUnlessQueued sc

/-- Douser OPEN asked for, where the lamp's BURNING calls for it; a refusal is left at that (R93). -/
def State.openDouserIf (s : State) (p : Projector) (wanted : Bool) : State :=
  if wanted then (s.askDouser p .opened).2 else s

/-- A projector becomes STANDBY: douser OPEN is asked if its lamp is BURNING (R93), and the change of role
is an event that examines the incoming (R113). -/
def State.becomeStandby (s : State) (p : Projector) : State :=
  ((s.setRole p .standby).openDouserIf p ((s.lamp p).state = .burning)).examine (screenOf p)

/-- A speed change reported for `p` moves its role (R93). -/
def State.onSpeed (s : State) (p : Projector) (v : Speed) : State :=
  match s.role p, v with
  | .starting, .atSpeed => s.becomeStandby p
  | .standby, .offSpeed => (s.setRole p .starting).examine (screenOf p)
  | .standby, .stopped => (s.setRole p .starting).examine (screenOf p)
  | _, _ => s

/-- A lamp-state change handed on by the lamp unit (R44, R93, R113). -/
def State.onLampState (s : State) (p : Projector) (v : LampState) : State :=
  (s.openDouserIf p (s.role p = .standby && v = .burning)).examine (screenOf p)

end Sys2Proof.Machine
end

