-- ==== Sys2Proof/Machine/Motion.lean ====
section
/-! DEFINITION. The motion unit's gate, counter and period measurement (spec/01 R4 to R16), and requests
for the motor field, which the gate follows (spec/02 R32). -/

namespace Sys2Proof.Machine

/-- The period record reset (R4). -/
def Motion.resetPeriod (m : Motion) : Motion :=
  { m with phase := .awaiting, runningCount := .start 0, periodCurrent := false, inBandRun := 0, outOfBandRun := 0 }

/-- The motion record as the gate opens (R4). -/
def Motion.openGate (m : Motion) : Motion :=
  { m.resetPeriod with
    gate := .opened
    speed := .runningUp
    reachedSpeed := false
    slowStart := some (.start Config.slowStartTime) }

/-- The motion record as the gate closes (R5). -/
def Motion.closeGate (m : Motion) : Motion :=
  { m.resetPeriod with gate := .closed, speed := .stopped, slowStart := none }

/-- A motion record replaced, its change of speed state reported to the show unit (R16). -/
def State.moveMotion (s : State) (p : Projector) (m : Motion) : State :=
  let s1 := s.onMotion p (fun _ => m)
  if m.speed = (s.motion p).speed then s1 else s1.onSpeed p m.speed

/-- The gate follows a change of the desired motor (R4, R5). -/
def State.gateFollows (s : State) (p : Projector) (v : MotorCommand) : State :=
  match v with
  | .run => s.moveMotion p (s.motion p).openGate
  | .stop => s.moveMotion p (s.motion p).closeGate

/-- The desired motor written, the gate following a change (R4, R5, R32). -/
def State.writeMotor (s : State) (p : Projector) (v : MotorCommand) : State :=
  if (s.station p).desired.motor = v then s
  else (s.onDesired p (fun d => { d with motor := v })).gateFollows p v

/-- A request to set the desired motor of station `p` (R32). -/
def State.askMotor (s : State) (p : Projector) (v : MotorCommand) : Status × State :=
  match s.energizingRuling (v = .run) with
  | .ok => (.ok, s.writeMotor p v)
  | st => (st, s)

/-- Motor STOP, taken at all times (R32). -/
def State.stopMotor (s : State) (p : Projector) : State := (s.askMotor p .stop).2

/-! ### The counter and the watch (R6 to R10) -/

/-- The counter loaded (R7). -/
def State.loadCounter (s : State) (p : Projector) (n : Nat) : State :=
  s.onMotion p (fun m => { m with framesRemaining := n, loadedLength := n, watch := none })

/-- The counter cleared (R8). -/
def State.clearCounter (s : State) (p : Projector) : State :=
  s.onMotion p (fun m => { m with framesRemaining := 0, watch := none })

/-- The watch set, or dropped (R9). -/
def State.setFrameWatch (s : State) (p : Projector) (w : Option Nat) : State :=
  s.onMotion p (fun m => { m with watch := w })

/-- Whether the next counted pulse reaches the watch (R9). -/
def Motion.reachesWatch (m : Motion) : Bool :=
  match m.watch with
  | some w => m.framesRemaining - 1 ≤ w
  | none => false

/-- The counting of a pulse taken (R6, R9): the record after it. -/
def Motion.count (m : Motion) : Motion :=
  if m.framesRemaining = 0 then m
  else { m with
    framesRemaining := m.framesRemaining - 1
    watch := if m.reachesWatch then none else m.watch }

/-! ### Period measurement (R11, R13, R14) -/

def inBand (period : Nat) : Bool := Config.inBandLow ≤ period && period ≤ Config.inBandHigh

/-- A period judged in the states that wait for speed (R13). -/
def Motion.judgeForSpeed (m : Motion) (period : Nat) : Motion :=
  if !inBand period then { m with inBandRun := 0 }
  else if m.inBandRun + 1 < Config.inBandRuns then { m with inBandRun := m.inBandRun + 1 }
  else { m with speed := .atSpeed, inBandRun := 0, outOfBandRun := 0, reachedSpeed := true, slowStart := none }

/-- A period judged while AT_SPEED (R14). -/
def Motion.judgeAtSpeed (m : Motion) (period : Nat) : Motion :=
  if inBand period then { m with outOfBandRun := 0 }
  else if m.outOfBandRun + 1 < Config.outOfBandRuns then { m with outOfBandRun := m.outOfBandRun + 1 }
  else { m with speed := .offSpeed, inBandRun := 0, outOfBandRun := 0 }

/-- A period judged by the speed state (R13, R14). -/
def Motion.judge (m : Motion) (period : Nat) : Motion :=
  match m.speed with
  | .runningUp | .offSpeed => m.judgeForSpeed period
  | .atSpeed => m.judgeAtSpeed period
  | .stopped => m

/-- The period record advanced by a pulse taken (R11). -/
def Motion.time (m : Motion) : Motion :=
  match m.phase with
  | .awaiting =>
    { m with
      runningCount := .start 0
      phase := .discarding
      speed := if m.speed = .stopped then .runningUp else m.speed }
  | .discarding => { m with runningCount := .start 0, phase := .judging }
  | .judging =>
    ({ m with lastPeriod := m.runningCount.value, periodCurrent := true, runningCount := .start 0 } : Motion).judge
      m.runningCount.value

/-- Whether the period is being timed, so that a silence can come: the gate OPEN, the phase past AWAITING (R11,
R12). -/
def Motion.timed (m : Motion) : Bool := m.gate = .opened && m.phase ≠ .awaiting

/-- The motion record a silence leaves (R12). -/
def Motion.silent (m : Motion) : Motion := { m.resetPeriod with speed := .stopped }

/-- Whether a silence is a SILENT_STOP (R12). -/
def Motion.silentStop (m : Motion) : Bool :=
  m.speed = .atSpeed || m.speed = .offSpeed || (m.speed = .runningUp && m.reachedSpeed)

/-- The filter's fields after an accepted pulse (R2). -/
def Motion.acceptHigh (m : Motion) : Motion := { m with accepted := .high, sampleRun := 0 }

/-- The reports a pulse has made, in R10's order being watch, zero, speed (log 29). -/
structure PulseReports where
  watch : Bool
  zero : Bool
  speed : Option Speed
  deriving DecidableEq, Repr

def Motion.pulseReports (m : Motion) : PulseReports where
  watch := m.framesRemaining ≠ 0 && m.reachesWatch
  zero := m.framesRemaining = 1
  speed := if m.count.time.speed = m.speed then none else some m.count.time.speed

/-- The motion unit's own act on a pulse taken while the gate is OPEN: counted, then timed (R3), with
OFF_SPEED's notice (R14). -/
def State.takePulse (s : State) (p : Projector) : State :=
  let m := s.motion p
  let m1 := m.count.time
  let s1 := s.onMotion p (fun _ => m1)
  if m1.speed = .offSpeed && m.speed ≠ .offSpeed then s1.projectorAttention p .offSpeed else s1

end Sys2Proof.Machine
end

