-- ==== Sys2Proof/Machine/Lamp.lean ====
section
/-! DEFINITION. The arc lamp unit: striking, putting out, feed regulation, the feed timer, carbon, station
loss, trip, settings and life (spec/03 R44 to R67). -/

namespace Sys2Proof.Machine

/-! ### The feed (R52, R54, R55) -/

/-- The feed timer set from a feed rate (R54, R55). -/
def setFeedTimer (t : Option FeedTimer) (f : Nat) : Option FeedTimer :=
  if f = 0 then none
  else
    let period := Config.feedMinute / f
    match t with
    | none => some ⟨period, .start period⟩
    | some r => some { r with reload := period }

/-- The feed rate set (R54, R55). -/
def Lamp.setFeed (l : Lamp) (f : Nat) : Lamp :=
  { l with feedRate := f, feedTimer := setFeedTimer l.feedTimer f }

/-- The sum of regulation's two terms: floor(B I / Ir), and G (V - Vs) / 10 toward zero (R52). -/
def Lamp.feedSum (l : Lamp) (volts amps : Nat) : Int :=
  ((l.b * amps / l.ir : Nat) : Int) + Int.tdiv ((l.g : Int) * ((volts : Int) - (l.vs : Int))) 10

/-- The feed rate regulation sets: the sum clamped to 0 and Fmax, and 0 when no carbon remains (R52). -/
def Lamp.regulated (l : Lamp) (volts amps : Nat) : Nat :=
  if l.carbon = 0 then 0 else min (l.feedSum volts amps).toNat l.fmax

def Lamp.regulate (l : Lamp) (volts amps : Nat) : Lamp := l.setFeed (l.regulated volts amps)

/-! ### State changes, handed to the show unit before the notice (R44) -/

/-- The lamp put out: COLD with the feed, timers and counts stopped (R50, R61, R62). -/
def Lamp.putOut (l : Lamp) : Lamp :=
  { l.setFeed 0 with
    state := .cold
    strikeTimer := none
    holdTimer := none
    strikeCount := 0
    outCount := 0 }

/-- A lamp record replaced and its new state handed to the show unit (R44). -/
def State.handLamp (s : State) (p : Projector) (l : Lamp) : State :=
  (s.onLamp p (fun _ => l)).onLampState p l.state

/-- The lamp put out at a request of the show unit or by LAMP_OFF (R50, R51). -/
def State.extinguish (s : State) (p : Projector) : State :=
  if (s.lamp p).state = .cold then s
  else ((s.arcOff p).handLamp p (s.lamp p).putOut).lampAttention p .off

/-- The first failing condition of a strike (R45). -/
def State.strikeRuling (s : State) (p : Projector) : Status :=
  if s.lu.tripInForce then .trip
  else if (s.lamp p).state = .striking || (s.lamp p).state = .burning then .state
  else if (s.lamp p).carbon = 0 then .state
  else if (s.station p).presence ≠ .present then .state
  else .ok

/-- A lamp as a taken strike leaves it (R45). -/
def Lamp.strike (l : Lamp) : Lamp :=
  { l with
    state := .striking
    strikeCount := 0
    outCount := 0
    strikeTimer := some (.start Config.strikeTime) }

/-- A strike asked by LAMP_STRIKE or by a STRIKE cue (R45, R46). -/
def State.strike (s : State) (p : Projector) : Status × State :=
  match s.strikeRuling p with
  | .ok =>
    match s.askArc p .on with
    | (.ok, s1) => (.ok, (s1.handLamp p (s1.lamp p).strike).lampAttention p .strikeStarted)
    | (st, _) => (st, s)
  | st => (st, s)

/-! ### Fresh samples (R47, R49, R52, R53) -/

/-- A fresh sample of a STRIKING lamp (R47). -/
def State.sampleStriking (s : State) (p : Projector) (volts amps : Nat) : State :=
  let l := s.lamp p
  if 2 * amps < l.ir then s.onLamp p (fun l => { l with strikeCount := 0 })
  else if l.strikeCount + 1 < Config.strikeSamples then
    s.onLamp p (fun l => { l with strikeCount := l.strikeCount + 1 })
  else
    (s.handLamp p
      (Lamp.regulate { l with state := .burning, strikeTimer := none, strikeCount := 0, outCount := 0 }
        volts amps)).lampAttention p .struck

/-- A fresh sample of a BURNING lamp: the arc-out test, then regulation (R49, R52). -/
def State.sampleBurning (s : State) (p : Projector) (volts amps : Nat) : State :=
  let l := s.lamp p
  if l.ir ≤ 4 * amps then s.onLamp p (fun l => ({ l with outCount := 0 } : Lamp).regulate volts amps)
  else if l.outCount + 1 < Config.arcOutSamples then
    s.onLamp p (fun l => ({ l with outCount := l.outCount + 1 } : Lamp).regulate volts amps)
  else
    ((s.arcOff p).handLamp p { l.setFeed 0 with state := .out, fault := .arcOut, outCount := 0 }).lampAttention p
      .arcOut

/-- A fresh sample handed to the lamp unit (R47, R49, R53). -/
def State.sample (s : State) (p : Projector) (volts amps : Nat) : State :=
  match (s.lamp p).state with
  | .striking => s.sampleStriking p volts amps
  | .burning => s.sampleBurning p volts amps
  | .cold | .out | .fault => s

/-! ### Steps of the feed (R56 to R58) -/

/-- The lamp as a feed step leaves it: the pulse begun, the carbon one less, the counter reloaded (R56). -/
def Lamp.stepFeed (l : Lamp) (t : FeedTimer) : Lamp :=
  { l with
    carbon := l.carbon - 1
    stepPulse := Config.stepPulse
    feedTimer := some { t with counter := .start t.reload } }

/-- The trim test after a step (R58). -/
def State.trimTest (s : State) (p : Projector) : State :=
  if (s.lamp p).carbon ≤ (s.lamp p).trim && !(s.lamp p).trimNoticed then
    (s.onLamp p (fun l => { l with trimNoticed := true })).lampAttention p .trim
  else s

/-- The carbon spent (R57). -/
def State.exhaust (s : State) (p : Projector) : State :=
  (s.onLamp p (fun l => { l.setFeed 0 with fault := .carbonExhausted })).lampAttention p .carbonExhausted

/-- The carbon spent, if this step spent it (R57). -/
def State.exhaustIf (s : State) (p : Projector) (spent : Bool) : State := if spent then s.exhaust p else s

/-- A step of the feed: trim notice first, exhaustion second (R56 to R58). -/
def State.feedStep (s : State) (p : Projector) : State :=
  match (s.lamp p).feedTimer with
  | none => s
  | some t =>
    ((s.onLamp p (fun l => l.stepFeed t)).trimTest p).exhaustIf p ((s.lamp p).carbon = 1)

/-! ### Station loss, line reset and timers (R48, R59 to R61) -/

/-- A change of presence from `old` to `new` handed to the lamp unit (R59). -/
def State.lampPresence (s : State) (p : Projector) (old new : Presence) : State :=
  if new = .present then s.onLamp p (fun l => { l with holdTimer := none })
  else if old = .present && (s.lamp p).state = .burning then
    s.onLamp p (fun l => { l with holdTimer := some (.start Config.holdTime) })
  else s

/-- The strike timer has run out (R48). -/
def State.strikeFailed (s : State) (p : Projector) : State :=
  let l := s.lamp p
  ((s.arcOff p).handLamp p
    { l with state := .fault, fault := .strikeFailed, strikeCount := 0, strikeTimer := none }).lampAttention p
    .strikeFailed

/-- The hold timer has run out (R60). -/
def State.holdEnded (s : State) (p : Projector) : State :=
  let l := s.lamp p
  ((s.arcOff p).handLamp p
    { l.setFeed 0 with state := .fault, fault := .stationLost, outCount := 0, holdTimer := none }).lampAttention p
    .stationLost

/-- A line reset has taken the arc of station `p` from ON to OFF (R61). -/
def State.lampLineReset (s : State) (p : Projector) : State :=
  (s.handLamp p (s.lamp p).putOut).lampAttention p .lineReset

/-- The trip as lamp `p` takes it (R62): no notice, the cause kept. -/
def State.lampTrip (s : State) (p : Projector) : State :=
  if (s.lamp p).state = .cold then s else s.handLamp p (s.lamp p).putOut

/-- The lamp unit takes the trip (R62). -/
def State.lampUnitTrip (s : State) : State :=
  (List.finRange 8).foldl State.lampTrip { s with lu := { s.lu with tripInForce := true } }

/-- The lamp unit takes the rearm (R63). -/
def State.lampUnitRearm (s : State) : State := { s with lu := { s.lu with tripInForce := false } }

/-! ### Settings and life (R64 to R66) -/

def clamp (low high k : Nat) : Nat := max low (min high k)

/-- The six settings clamped and written (R64). -/
def Lamp.withSettings (l : Lamp) (f : LampFields) : Lamp :=
  let b := clamp 20 600 f.b
  { l with
    vs := clamp 400 800 f.vs
    ir := clamp 300 1500 f.ir
    b := b
    g := clamp 0 63 f.g
    fmax := max b (clamp 20 600 f.fmax)
    trim := clamp 0 2000 f.trim }

/-- A new carbon entered (R65). -/
def Lamp.recarbon (l : Lamp) (length : Nat) : Lamp :=
  { l with
    carbon := min length Config.carbonMax
    trimNoticed := false
    fault := if l.fault = .carbonExhausted then .none else l.fault }

/-- The rate a life projection reckons with (R66). -/
def Lamp.lifeRate (l : Lamp) : Nat := if l.state = .burning then max l.b l.feedRate else l.b

/-- The life projection in frames (R66). -/
def Lamp.life (l : Lamp) : Nat := l.carbon * Config.framesPerMinute / l.lifeRate

end Sys2Proof.Machine
end

