-- ==== Sys2Proof/Machine/Show.lean ====
section
/-! DEFINITION. The show unit at work: withdrawal, run-out, cues and their triggers, the changeover's
sending and settling, the trip and the rearm (spec/05 R92 to R108, spec/06 R116 to R124). Where a rule has
the show unit ask another block in the course of an act of its own, its own records are written first, so
that what the other block hands back finds the act done (log 6). -/

namespace Sys2Proof.Machine

/-! ### Withdrawal and run-out -/

/-- Projector `p` withdrawn from ARMED, STARTING or STANDBY (R95). -/
def State.withdraw (s : State) (p : Projector) : State :=
  let s1 := (s.moveReel p .loaded .listed).setRole p .idle
  let s2 := ((s1.stopMotor p).closeDouser p).clearCounter p
  (s2.raise (noticeArmWithdrawn (screenOf p))).examine (screenOf p)

/-- Projector `p` withdrawn if what its role needs is lost (R95). -/
def State.withdrawIf (s : State) (p : Projector) (lost : Bool) : State :=
  if lost && (s.role p).isReadying then s.withdraw p else s

/-- A projection shutter's change of state handed to the show unit (R95, R113, R149). -/
def State.showShutter (s : State) (p : Projector) (v : ShutterState) : State :=
  (s.withdrawIf p (v ≠ .opened)).examine (screenOf p)

/-- The last fresh mark count forgotten on a change of presence to PRESENT (R103). -/
def State.forgetMark (s : State) (p : Projector) (v : Presence) : State :=
  if v = .present then s.setMark p none else s

/-- A change of presence handed to the show unit (R95, R103, R113). -/
def State.showPresence (s : State) (p : Projector) (v : Presence) : State :=
  ((s.forgetMark p v).withdrawIf p (v ≠ .present)).examine (screenOf p)

/-- A run-out of the outgoing makes the changeover late (R120). -/
def Changeover.runOut (p : Projector) (c : Changeover) : Changeover :=
  if c.state.examined && c.outgoing = some p then { c with outgoing := none, late := true } else c

/-- The reel of projector `p` run out, and its role IDLE (R94). -/
def State.reelDone (s : State) (p : Projector) (old : ReelState) : State :=
  (s.moveReel p old .done).setRole p .idle

/-- The screen record as its ON_SCREEN projector `p` runs out (R94, R120). -/
def ScreenRecord.runDark (p : Projector) (r : ScreenRecord) : ScreenRecord :=
  { r with
    state := if r.state = .running || r.state = .waiting then .dark else r.state
    changeover := r.changeover.runOut p }

/-- The run-out of an ON_SCREEN projector (R94). -/
def State.runOutOnScreen (s : State) (p : Projector) : State :=
  let s1 := (s.reelDone p .running).onScreen (screenOf p) (ScreenRecord.runDark p)
  let s2 := (((s1.closeDouser p).closeBlade p).stopMotor p).extinguish p
  (s2.raise (noticeScreenDark (screenOf p))).examine (screenOf p)

/-- The run-out of a projector that never reached the screen (R94). -/
def State.runOutUnseen (s : State) (p : Projector) : State :=
  ((((s.reelDone p .loaded).stopMotor p).closeDouser p).projectorAttention p .runOutUnseen).examine (screenOf p)

/-- A COUNTER_ZERO acted on by the projector's role (R94, R120). -/
def State.onCounterZero (s : State) (p : Projector) : State :=
  match s.role p with
  | .idle => s
  | .tail => ((s.reelDone p .running).stopMotor p).examine (screenOf p)
  | .onScreen => s.runOutOnScreen p
  | .armed | .starting | .standby => s.runOutUnseen p

/-! ### The MOTOR action (R92) -/

/-- STANDBY at once, where the motor is already at speed (R92). -/
def State.standbyIf (s : State) (p : Projector) (atSpeed : Bool) : State :=
  if atSpeed then s.becomeStandby p else s

/-- The MOTOR action on an ARMED projector, and whether the line controller took it (R92). -/
def State.motorAction (s : State) (p : Projector) : Bool × State :=
  match s.askMotor p .run with
  | (.ok, s1) =>
    (true, ((s1.setRole p .starting).examine (screenOf p)).standbyIf p ((s1.motion p).speed = .atSpeed))
  | (_, _) => (false, s)

/-! ### Actions of cues (R105, R106): each answers whether the action was done -/

/-- STRIKE: the lamp of the next reel's side (R105). -/
def State.strikeCue (s : State) (sc : Screen) : Bool × State :=
  match s.nextReel sc with
  | none => (false, s)
  | some r =>
    match s.reel sc r with
    | .empty => (false, s)
    | .reel _ _ side =>
      match s.strike (projectorOf sc side) with
      | (.ok, s1) => (true, s1)
      | (_, s1) => (false, s1)

/-- The next reel's projector, when the reel is LOADED and the projector ARMED (R105). -/
def State.armedNext (s : State) (sc : Screen) : Option Projector :=
  match s.incomingOf sc with
  | some p => if s.role p = .armed then some p else none
  | none => none

/-- MOTOR: the MOTOR action on the next reel's projector, or the motor owed (R105). -/
def State.motorCue (s : State) (sc : Screen) : Bool × State :=
  match s.armedNext sc with
  | some p => s.motorAction p
  | none => (false, s.onScreen sc (fun r => { r with motorOwed := true }))

/-- The projector and opening a DOUSER target names (R105). -/
def State.douserOf (s : State) (sc : Screen) : DouserTarget → Option Projector × Opening
  | .incomingOpen => (s.incomingOf sc, .opened)
  | .incomingClose => (s.incomingOf sc, .closed)
  | .outgoingOpen => (s.onScreenOf sc, .opened)
  | .outgoingClose => (s.onScreenOf sc, .closed)

/-- DOUSER (R105). -/
def State.douserCue (s : State) (sc : Screen) (t : DouserTarget) : Bool × State :=
  match s.douserOf sc t with
  | (none, _) => (false, s)
  | (some p, v) =>
    match s.askDouser p v with
    | (.ok, s1) => (true, s1)
    | (_, s1) => (false, s1)

/-- HOUSE (R106, R132). -/
def State.houseCue (s : State) (sc : Screen) (level time : Nat) : Bool × State :=
  match s.askFade sc level time with
  | (.ok, s1) => (true, s1)
  | (_, s1) => (false, s1)

/-- END (R106). -/
def State.endCue (s : State) (sc : Screen) : State :=
  (s.onScreen sc (fun r => { r with state := .ended, afterTimer := none, motorOwed := false })).raise
    (noticeShowEnded sc)

/-- The action of cue `x` of screen `sc` (R105, R106). -/
def State.cueAction (s : State) (sc : Screen) (x : CueIx) : Bool × State :=
  match (s.cue x).kind with
  | .strike => s.strikeCue sc
  | .motor => s.motorCue sc
  | .change => (true, s.openChangeover sc x)
  | .douser t => s.douserCue sc t
  | .house level time => s.houseCue sc level time
  | .end_ => (true, s.endCue sc)

/-! ### Firing (R102, R104) -/

/-- The record after `x` in a list. -/
def nextIn (x : CueIx) : List CueIx → Option CueIx
  | [] => none
  | a :: rest => if a = x then rest.head? else nextIn x rest

/-- The watch set for a cue dropped from the ON_SCREEN projector (R104). -/
def State.dropCueWatch (s : State) (sc : Screen) (x : CueIx) : State :=
  match (s.cue x).trigger, s.onScreenOf sc with
  | .frames _, some p => s.setFrameWatch p none
  | .mark _ _, some p => s.setFrameWatch p none
  | _, _ => s

/-- The pointer moved past `x`, the AFTER timer set to 0 (R104); a stopped timer stays stopped. -/
def ScreenRecord.advance (x : CueIx) (r : ScreenRecord) : ScreenRecord :=
  { r with next := nextIn x r.list, afterTimer := r.afterTimer.map (fun _ => .start 0) }

/-- Cue `x` fired: steps 1 to 5 of R104. -/
def State.fireCue (s : State) (sc : Screen) (x : CueIx) : State :=
  let s1 := s.dropCueWatch sc x
  let a := s1.cueAction sc x
  let s2 := a.2.onCue x (fun c => { c with state := if a.1 then .fired else .skipped })
  (s2.raise (noticeCueFired sc)).onScreen sc (ScreenRecord.advance x)

/-- Whether cue `x` is a CHANGE that must be held (R104). -/
def State.mustHold (s : State) (sc : Screen) (x : CueIx) : Bool :=
  (s.cue x).kind = .change && (s.screen sc).changeover.state.inFlight

/-- A CHANGE cue held until the changeover settles (R104). -/
def State.holdChange (s : State) (sc : Screen) (x : CueIx) : State :=
  (s.dropCueWatch sc x).onScreen sc (fun r => { r with changeHeld := true })

/-- The next cue evaluated on becoming the next cue: whether it is met, with the watch set where its trigger
needs one (R102). -/
def State.evaluate (s : State) (sc : Screen) (x : CueIx) : Bool × State :=
  match (s.cue x).trigger with
  | .go => (false, s)
  | .after d =>
    (match (s.screen sc).afterTimer with
      | some t => d ≤ t.value
      | none => false, s)
  | .frames v =>
    match s.onScreenOf sc with
    | none => (false, s)
    | some p =>
      if (s.motion p).framesRemaining ≤ v then (true, s) else (false, s.setFrameWatch p (some v))
  | .mark lo _ =>
    match s.onScreenOf sc with
    | none => (false, s)
    | some p =>
      if (s.motion p).framesRemaining ≤ lo then (true, s) else (false, s.setFrameWatch p (some lo))

/-- The next cue of a performing screen evaluated, and the cues that fire one after another (R104, step 6);
`fuel` bounds the firings, a list holding at most 128 records. -/
def State.runCues : Nat → Screen → State → State
  | 0, _, s => s
  | fuel + 1, sc, s =>
    if !(s.screen sc).state.performing then s
    else
      match (s.screen sc).next with
      | none => s
      | some x =>
        match s.evaluate sc x with
        | (false, s1) => s1
        | (true, s1) =>
          if s1.mustHold sc x then s1.holdChange sc x else State.runCues fuel sc (s1.fireCue sc x)

/-- Firings that one event can make at most. -/
def cueFuel : Nat := 129

/-- Cue `x`, the next cue, taken because its trigger is met, and the cues after it (R104). -/
def State.takeCue (s : State) (sc : Screen) (x : CueIx) : State :=
  if s.mustHold sc x then s.holdChange sc x else (s.fireCue sc x).runCues cueFuel sc

/-- The next cue of a performing screen, held or not. -/
def State.nextCue (s : State) (sc : Screen) : Option CueIx :=
  if (s.screen sc).state.performing then (s.screen sc).next else none

/-- The next cue of a performing screen that still waits for its AFTER timer: a held CHANGE has met its trigger
and waits no more (R97, log 10). -/
def State.awaitedCue (s : State) (sc : Screen) : Option CueIx :=
  if (s.screen sc).changeHeld then none else s.nextCue sc

/-- WATCH_REACHED reported for `p` (R102, R103). -/
def State.onWatchReached (s : State) (p : Projector) : State :=
  let sc := screenOf p
  if s.role p ≠ .onScreen then s
  else
    match s.nextCue sc with
    | none => s
    | some x =>
      match (s.cue x).trigger with
      | .frames _ => s.takeCue sc x
      | .mark _ _ => (s.raise (noticeMarkIrregular sc)).takeCue sc x
      | .after _ | .go => s

/-- A mark event of `p` (R103). A CHANGE that is held is still the next cue: a mark outside its window is
reported all the same, and taking it again leaves it held (log 10). -/
def State.onMark (s : State) (p : Projector) : State :=
  let sc := screenOf p
  if s.role p ≠ .onScreen then s
  else
    match s.nextCue sc with
    | none => s
    | some x =>
      match (s.cue x).trigger with
      | .mark lo hi =>
        let c := (s.motion p).framesRemaining
        if hi < c then s.raise (noticeMarkIrregular sc)
        else if lo < c then s.takeCue sc x
        else (s.raise (noticeMarkIrregular sc)).takeCue sc x
      | .frames _ | .after _ | .go => s

/-- A fresh mark count of station `p` (R103). -/
def State.onMarkCount (s : State) (p : Projector) (k : Nat) : State :=
  match s.mark p with
  | none => s.setMark p (some k)
  | some old => if old = k then s else (s.setMark p (some k)).onMark p

/-! ### The changeover sent and settled -/

/-- The outgoing taken off screen (R116, step 3). -/
def State.toTail (s : State) (p : Projector) : State :=
  (((s.setRole p .tail).setFrameWatch p none).closeDouser p).extinguish p

/-- The next cue evaluated again against the new ON_SCREEN projector, if it has a FRAMES or MARK trigger
(R116, step 5). -/
def State.reevaluate (s : State) (sc : Screen) : State :=
  match (s.screen sc).next with
  | none => s
  | some x =>
    match (s.cue x).trigger with
    | .frames _ | .mark _ _ => s.runCues cueFuel sc
    | .after _ | .go => s

/-- The outgoing, if there is one, taken off screen (R116, step 3). -/
def State.takeOff (s : State) (outgoing : Option Projector) : State :=
  match outgoing with
  | some q => s.toTail q
  | none => s

/-- The screen with its picture up (R116, step 4). -/
def ScreenRecord.picture (r : ScreenRecord) : ScreenRecord :=
  { r with state := if r.state = .dark || r.state = .waiting then .running else r.state }

/-- The incoming `p` put ON_SCREEN, its record SENT (R116, steps 1 and 2). -/
def State.putOn (s : State) (sc : Screen) (p : Projector) : State :=
  ((s.onChangeover sc (fun c => { c with state := .sent, incoming := some p })).moveReel p .loaded .running).setRole
    p .onScreen

/-- The changeover has happened on the screen: incoming `p` is ON_SCREEN (R116). -/
def State.changeoverDone (s : State) (sc : Screen) (p : Projector) : State :=
  (((s.putOn sc p).takeOff (s.screen sc).changeover.outgoing).onScreen sc ScreenRecord.picture).reevaluate sc

/-- The outgoing's blade, if there is an outgoing, asked OPEN again (R117). -/
def State.reopenBlade (s : State) (outgoing : Option Projector) : State :=
  match outgoing with
  | some q => (s.askBlade q .opened).2
  | none => s

/-- A burst of screen `sc` that opened `side` undone, its incoming not ready (R117, first case). Where no incoming is left,
or the one found at the sending stands on the other side, the blade closed is that of the side the burst opened:
DESIGN CHOICE, log 12. -/
def State.undoBurst (s : State) (sc : Screen) (side : Side) : State :=
  let s1 := s.onChangeover sc (fun c => { c with state := .waitingReady, incoming := s.incomingOf sc })
  ((s1.closeBlade (projectorOf sc side)).reopenBlade (s.screen sc).changeover.outgoing).raise
    (noticeChangeoverWaiting sc)

/-- The line controller's message that the changeover burst of screen `sc` has been sent (R116, R117). Where the incoming
found at the sending is ready but stands on the other side than the one the burst opened, R116 is applied to it as found,
the blades as the burst wrote them: DESIGN CHOICE, log 12. -/
def State.onBurstSent (s : State) (sc : Screen) (side : Side) : State :=
  match (s.screen sc).changeover.state, s.incomingOf sc with
  | .queued, some p => if s.ready (some p) then s.changeoverDone sc p else s.undoBurst sc side
  | .queued, none => s.undoBurst sc side
  | _, _ => (s.closeBlade (projectorOf sc .a)).closeBlade (projectorOf sc .b)

/-- A station of the screen whose blade was not confirmed (R118, step 2). -/
def State.notConfirmed (s : State) (p : Projector) : State :=
  (s.onChangeover (screenOf p) (fun c => { c with unconfirmed := true })).projectorAttention p .bladeUnconfirmed

/-- A station of the screen judged by its outcome (R118, step 2). -/
def State.confirm (s : State) (p : Projector) (confirmed : Bool) : State :=
  if confirmed then s else s.notConfirmed p

/-- The held CHANGE cue fired once the record has settled (R118, step 4). -/
def State.fireHeld (s : State) (sc : Screen) : State :=
  if (s.screen sc).changeHeld && (s.screen sc).state.performing then
    let s1 := s.onScreen sc (fun r => { r with changeHeld := false })
    match (s.screen sc).next with
    | some x => (s1.fireCue sc x).runCues cueFuel sc
    | none => s1
  else s

/-- The outcome of the confirmation watch of screen `sc`: whether side A's and side B's stations were
confirmed (R118, R119). -/
def State.onOutcome (s : State) (sc : Screen) (a b : Bool) : State :=
  if (s.screen sc).changeover.state = .sent then
    let s1 := s.onChangeover sc (fun c => { c with state := .done })
    (((s1.confirm (projectorOf sc .a) a).confirm (projectorOf sc .b) b).raise (noticeChangeoverDone sc)).fireHeld sc
  else s.examine sc

/-! ### Abort, trip and rearm -/

/-- A changeover in flight aborted (R122, R123). -/
def Changeover.abort (c : Changeover) : Changeover :=
  if c.state.inFlight then { c with state := .aborted } else c

/-- The line controller's message that the burst of screen `sc` was dropped (R123). -/
def State.onBurstDropped (s : State) (sc : Screen) : State := s.onChangeover sc Changeover.abort

/-- A performance cut off: the record aborted, nothing owed or held, a performing screen STOPPED (R107). -/
def ScreenRecord.trip (r : ScreenRecord) : ScreenRecord :=
  { r with
    changeover := r.changeover.abort
    motorOwed := false
    changeHeld := false
    state := if r.state.performing then .stopped else r.state
    afterTimer := if r.state.performing then none else r.afterTimer }

/-- SHOW_ENDED, if the trip stopped a performance (R107). -/
def State.endedIf (s : State) (sc : Screen) (stopped : Bool) : State :=
  if stopped then s.raise (noticeShowEnded sc) else s

/-- The trip on one screen (R107). -/
def State.screenTrip (s : State) (sc : Screen) : State :=
  let a := projectorOf sc .a
  let b := projectorOf sc .b
  (((((s.setRole a .idle).setRole b .idle).clearCounter a).clearCounter b).onScreen sc ScreenRecord.trip).endedIf sc
    (s.screen sc).state.performing

/-- The show unit takes the trip (R107). -/
def State.showTrip (s : State) : State :=
  (List.finRange 4).foldl State.screenTrip { s with su := { s.su with tripInForce := true } }

/-- The show unit takes the rearm (R108). -/
def State.showRearm (s : State) : State := { s with su := { s.su with tripInForce := false } }

end Sys2Proof.Machine
end

