-- ==== Sys2Proof/Machine/Line.lean ====
section
/-! DEFINITION. The line controller: presence, confirmation watches, trip and rearm, bursts sent, line reset
(spec/02 R27, R34 to R40). -/

namespace Sys2Proof.Machine

/-! ### Presence (R27) -/

/-- A change of presence of station `p` from `old`, handed to the lamp unit and the show unit (R27). -/
def State.handPresence (s : State) (p : Projector) (old : Presence) : State :=
  (s.lampPresence p old (s.station p).presence).showPresence p (s.station p).presence

/-- A station record after a good reply, presence alone (R27). -/
def Station.goodReply (r : Station) : Station :=
  match r.presence with
  | .present => { r with missRun := 0 }
  | .absent | .lost =>
    if r.goodRun + 1 < Config.repliesToPresent then { r with goodRun := r.goodRun + 1 }
    else { r with presence := .present, goodRun := 0, missRun := 0 }

/-- A station record after a miss (R27). -/
def Station.miss (r : Station) : Station :=
  match r.presence with
  | .present =>
    if r.missRun + 1 < Config.missesToLose then { r with missRun := r.missRun + 1 }
    else { r with
      presence := .lost
      missRun := 0
      goodRun := 0
      rareCountdown := Config.rareCycles
      reportOld := true }
  | .absent | .lost => { r with goodRun := 0 }

/-- A good reply moves presence, and the change is handed on (R27). -/
def State.goodReply (s : State) (p : Projector) : State :=
  let s1 := s.onStation p Station.goodReply
  if (s1.station p).presence = (s.station p).presence then s1
  else (s1.raise noticeStationPresent).handPresence p (s.station p).presence

/-- A miss moves presence, and the change is handed on (R27). -/
def State.miss (s : State) (p : Projector) : State :=
  let s1 := s.onStation p Station.miss
  if (s1.station p).presence = (s.station p).presence then s1
  else (s1.raise noticeStationLost).handPresence p (s.station p).presence

/-! ### The poll's last cell (R24, R26) -/

/-- The line record as the last cell of a poll goes out: the line is free, and the poll's reply window opens. -/
def LineControl.pollSent (l : LineControl) : LineControl :=
  match l.sending with
  | .poll p _ => { l with sending := .nothing, window := .opened p .awaiting }
  | .nothing | .lineReset | .burst _ => l

/-- The poll being sent, if there is one, has gone out whole (R26). -/
def State.pollSent (s : State) : State := { s with lc := s.lc.pollSent }

/-! ### Confirmation watches (R39) -/

/-- One watched station after a poll of it: `blade` is the reported blade, where the poll brought one (R39). -/
def WatchStation.judge (w : WatchStation) (blade : Option Opening) : WatchStation :=
  match w.status with
  | .waiting left =>
    if blade = some w.commanded then { w with status := .confirmed }
    else if left ≤ 1 then { w with status := .unconfirmed }
    else { w with status := .waiting (left - 1) }
  | .confirmed | .unconfirmed => w

/-- A station that is CONFIRMED or UNCONFIRMED. -/
def WatchStation.settled (w : WatchStation) : Bool :=
  match w.status with
  | .waiting _ => false
  | .confirmed | .unconfirmed => true

/-- A watch after a poll of the station on `side` (R39). -/
def Watch.judge (side : Side) (blade : Option Opening) : Watch → Watch
  | .closed => .closed
  | .opened a b =>
    match side with
    | .a => .opened (a.judge blade) b
    | .b => .opened a (b.judge blade)

/-- The watch of station `p`'s screen judges a poll of `p` and closes when both stations are settled (R39). -/
def State.judgePoll (s : State) (p : Projector) (blade : Option Opening) : State :=
  let sc := screenOf p
  match (s.watch sc).judge (sideOf p) blade with
  | .closed => s
  | .opened a b =>
    if a.settled && b.settled then
      (s.setWatch sc .closed).onOutcome sc (a.status = .confirmed) (b.status = .confirmed)
    else s.setWatch sc (.opened a b)

/-- An open reply window ends: a miss moves presence, and the watch judges the poll (R26, R27, R39). -/
def State.judgeWindow (s : State) : State :=
  match s.lc.window with
  | .closed => s
  | .opened p (.good blade) => (s.setWindow .closed).judgePoll p blade
  | .opened p .awaiting => ((s.setWindow .closed).miss p).judgePoll p none
  | .opened p .bad => ((s.setWindow .closed).miss p).judgePoll p none

/-- The end of a poll's reply window; a poll still being sent then is taken as sent (R26; log 24). -/
def State.endWindow (s : State) : State := s.pollSent.judgeWindow

/-! ### Frames sent (R37, R38, R40) -/

/-- A changeover burst sent: both blades written in one act, the watch opened, the show unit told (R37). -/
def State.changeoverSent (s : State) (sc : Screen) (side : Side) : State :=
  let blade (x : Side) : Opening := if x = side then .opened else .closed
  let watched (x : Side) : WatchStation := ⟨blade x, .waiting Config.watchPolls⟩
  let s1 := s.onDesired (projectorOf sc .a) (fun d => { d with blade := blade .a })
  let s2 := s1.onDesired (projectorOf sc .b) (fun d => { d with blade := blade .b })
  ((s2.setWatch sc (.opened (watched .a) (watched .b))).setSending .nothing).onBurstSent sc side

/-- The last cell of the line reset frame has gone out (R40). -/
def State.lineResetSent (s : State) : State :=
  { s with lc := { s.lc with resetPending := false, sending := .nothing } }

/-- The frame being sent has gone out whole. -/
def State.frameSent (s : State) : State :=
  match s.lc.sending with
  | .nothing => s
  | .lineReset => s.lineResetSent
  | .burst .trip => s.setSending .nothing
  | .burst (.changeover sc side) => s.changeoverSent sc side
  | .poll _ _ => s.pollSent

/-! ### Trip and rearm (R34, R35) -/

/-- The screens of the changeover bursts a trip drops: the one in transmission, then the queued ones (R34). -/
def LineControl.dropped (l : LineControl) : List Screen :=
  let ofBurst (b : Burst) : List Screen := match b with | .changeover sc _ => [sc] | .trip => []
  (match l.sending with | .burst b => ofBurst b | _ => []) ++ l.burstQueue.flatMap ofBurst

/-- The line controller's own records under the trip (R34). -/
def LineControl.trip (l : LineControl) : LineControl :=
  { l with
    tripInForce := true
    stations := updAll l.stations (fun r => { r with desired := .safe })
    sending := match l.sending with | .burst (.changeover _ _) => .nothing | x => x
    burstQueue := [.trip]
    watches := updAll l.watches (fun _ => .closed) }

/-- The motion unit told of the desired motors that an act of the line controller turned from RUN to STOP. -/
def State.passStops (s : State) (before : LineControl) : State :=
  (List.finRange 8).foldl
    (fun t p =>
      if before.stations[p].desired.motor = .run && (t.station p).desired.motor = .stop then t.gateFollows p .stop
      else t) s

/-- The line controller takes the trip (R34): its own records, the gates, then the dropped bursts. -/
def State.lineTrip (s : State) : State :=
  let s1 : State := { s with lc := s.lc.trip }
  s.lc.dropped.foldl State.onBurstDropped (s1.passStops s.lc)

/-- The line controller takes the rearm (R35). -/
def State.lineRearm (s : State) : State := { s with lc := { s.lc with tripInForce := false } }

/-! ### Line reset (R40) -/

/-- The line controller's own records at a taken LINE_RESET (R40): a reply window under way is cut short, also one whose
frame has been judged and whose end is not yet taken, so that R39 does not judge that poll: DESIGN CHOICE, log 13. A
poll still being sent goes on, and its window opens when its last cell has gone out (R26). -/
def LineControl.reset (l : LineControl) : LineControl :=
  { l with
    stations := updAll l.stations (fun _ => Station.powerOn)
    resetPending := true
    window := .closed }

/-- A change of presence made by a line reset, handed on (R27, R40). -/
def State.handLost (s : State) (p : Projector) (old : Presence) : State :=
  if old = .absent then s else s.handPresence p old

/-- An arc taken off by a line reset, told to the lamp unit (R40, R61). -/
def State.handArc (s : State) (p : Projector) (old : Switch) : State :=
  if old = .on then s.lampLineReset p else s

/-- What a line reset hands on for station `p` (R40). -/
def State.handReset (before : LineControl) (s : State) (p : Projector) : State :=
  (s.handLost p before.stations[p].presence).handArc p before.stations[p].desired.arc

/-- A taken LINE_RESET (R40). -/
def State.lineReset (s : State) : State :=
  let s1 : State := { s with lc := s.lc.reset }
  (List.finRange 8).foldl (State.handReset s.lc) (s1.passStops s.lc)

/-- Whether any projector is past arming, which refuses LINE_RESET (R40). -/
def State.anyPastArming (s : State) : Bool := (List.finRange 8).any (fun p => (s.role p).isPastArming)

/-! ### The start of a slot (R24, R25) -/

/-- A poll to station `p` goes out with its desired state as it stands (R25); its reply window opens when its last
cell has gone out (R26). -/
def State.sendPoll (s : State) (p : Projector) : State := s.setSending (.poll p (s.station p).desired)

/-- What the slot of station `p` carries (R24). -/
def State.carry (s : State) (p : Projector) : State :=
  if s.lc.resetPending then s.setSending .lineReset
  else
    match s.lc.burstQueue with
    | b :: rest => (s.setQueue rest).setSending (.burst b)
    | [] =>
      if (s.station p).presence = .present then s.sendPoll p
      else if (s.station p).rareCountdown = 0 then
        (s.onStation p (fun r => { r with rareCountdown := Config.rareCycles })).sendPoll p
      else s.onStation p (fun r => { r with rareCountdown := r.rareCountdown - 1 })

/-- The next slot boundary: the slot before it is over, and the next begins (R24; log 24). -/
def State.startSlot (s : State) : State :=
  let s1 := s.frameSent.endWindow
  ({ s1 with lc := { s1.lc with position := s1.lc.position + 1, untilSlot := Config.slotTime } } : State).carry
    s1.lc.position

end Sys2Proof.Machine
end

