-- ==== Sys2Proof/Machine/Fire.lean ====
section
/-! DEFINITION. The fire unit: causes, the trip, the shutters, the SHUT test, the rearm and drop tests (spec/08
R139 to R154). -/

namespace Sys2Proof.Machine

/-! ### Shutters (R143 to R149) -/

/-- Every shutter CLOSED or JAMMED (R146). -/
def FireUnit.allDown (f : FireUnit) : Bool :=
  f.shutters.toList.all (fun r => r.state = .closed || r.state = .jammed)

/-- The SHUT test (R146). -/
def State.shutTest (s : State) : State :=
  match s.fu.state with
  | .clear => s
  | .tripped => if s.fu.allDown then (s.setFire .shut).raise noticeFireShut else s
  | .shut => if s.fu.allDown then s else s.setFire .tripped

/-- A change of state of shutter `k` handed to the show unit, if it is a projection shutter (R149). -/
def State.handShutter (s : State) (k : Shutter) : State :=
  match shutterProjector k with
  | some p => s.showShutter p (s.shutter k).state
  | none => s

/-- A shutter put in its trip state, its hold released (R143, steps 2 and 3). -/
def ShutterRecord.trip (r : ShutterRecord) : ShutterRecord :=
  let released := { r with hold := .released }
  if r.limit = .active then { released with state := .closed, dropTimer := none }
  else
    match r.state with
    | .opened | .raising | .dropping =>
      { released with state := .dropping, dropTimer := some (.start Config.dropTime) }
    | .jammed | .closed => released

/-- The fire unit's own records on entering a trip with cause `c` (R142, R143, R152). -/
def FireUnit.trip (f : FireUnit) (c : Cause) : FireUnit :=
  { f with
    state := .tripped
    causes := [c]
    underTest := none
    shutters := updAll f.shutters ShutterRecord.trip }

/-- The shutters whose state a trip changed, handed to the show unit (R143, step 6). -/
def State.handTripShutters (s : State) (before : FireUnit) : State :=
  (List.finRange 12).foldl
    (fun t k => if (t.shutter k).state = before.shutters[k].state then t else t.handShutter k) s

/-- The trip signalled to the line controller, the lamp unit, the show unit and the house light unit, in the
order R143 lists them (log 5). -/
def State.signalTrip (s : State) : State := s.lineTrip.lampUnitTrip.showTrip.houseTrip

/-- A trip entered from CLEAR (R143). -/
def State.enterTrip (s : State) (c : Cause) : State :=
  let s1 : State := { s with fu := s.fu.trip c }
  (((s1.raise noticeFireTrip).signalTrip).handTripShutters s.fu).shutTest

/-- A cause taken by the fire state (R142). -/
def State.takeCause (s : State) (c : Cause) : State :=
  match s.fu.state with
  | .clear => s.enterTrip c
  | .tripped | .shut =>
    if c ∈ s.fu.causes then s
    else (s.setCauses (s.fu.causes ++ [c])).raise noticeTripCauseAdded

/-! ### Shutter events (R145, R149, R151) -/

/-- A shutter's record replaced, the change of state handed on where there is one (R149). -/
def State.moveShutter (s : State) (k : Shutter) (r : ShutterRecord) : State :=
  let s1 := s.onShutter k (fun _ => r)
  if r.state = (s.shutter k).state then s1 else s1.handShutter k

/-- A drop test ended with a result: the hold energized, the shutter in `v` (R151). -/
def ShutterRecord.endTest (v : ShutterState) (x : TestResult) (r : ShutterRecord) : ShutterRecord :=
  { r with state := v, hold := .energized, dropTimer := none, lastTest := x }

/-- The drop test of shutter `k` ends (R151). -/
def State.endTest (s : State) (k : Shutter) (v : ShutterState) (x : TestResult) : State :=
  ((s.setUnderTest none).moveShutter k ((s.shutter k).endTest v x)).raise noticeShutterTestDone

/-- The limit of shutter `k` has become active while the booth is CLEAR (R149). -/
def State.limitDownClear (s : State) (k : Shutter) : State :=
  let r := s.shutter k
  match r.state with
  | .opened => if s.fu.underTest = some k then s else s.takeCause (.shutterFall k)
  | .dropping => if s.fu.underTest = some k then s.endTest k .raising .pass else s
  | .jammed => s.moveShutter k { r with state := .raising }
  | .raising | .closed => s

/-- The limit of shutter `k` has become inactive while the booth is CLEAR (R149). -/
def State.limitUpClear (s : State) (k : Shutter) : State :=
  let r := s.shutter k
  match r.state with
  | .raising => s.moveShutter k { r with state := .opened }
  | .opened | .dropping | .closed | .jammed => s

/-- The limit of shutter `k` has become active during a trip (R145). -/
def State.limitDownTrip (s : State) (k : Shutter) : State :=
  let r := s.shutter k
  match r.state with
  | .dropping => (s.moveShutter k { r with state := .closed, dropTimer := none }).shutTest
  | .jammed => (s.moveShutter k { r with state := .closed }).shutTest
  | .closed | .opened | .raising => s

/-- The limit of shutter `k` has become inactive during a trip (R145). -/
def State.limitUpTrip (s : State) (k : Shutter) : State :=
  let r := s.shutter k
  match r.state with
  | .closed =>
    (s.moveShutter k { r with state := .dropping, dropTimer := some (.start Config.dropTime) }).shutTest
  | .opened | .dropping | .jammed | .raising => s

/-- The accepted level of limit `k` becomes `level` (R140, R145, R149). -/
def State.limitChange (s : State) (k : Shutter) (level : Activity) : State :=
  let s0 : State := { s with pins := { s.pins with limits := upd s.pins.limits k (fun _ => level) } }
  let s1 := s0.onShutter k (fun r => { r with limit := level, sampleRun := 0 })
  if (s.shutter k).limit = level then s1
  else
    match s.fu.state, level with
    | .clear, .active => s1.limitDownClear k
    | .clear, .inactive => s1.limitUpClear k
    | .tripped, .active => s1.limitDownTrip k
    | .tripped, .inactive => s1.limitUpTrip k
    | .shut, .active => s1.limitDownTrip k
    | .shut, .inactive => s1.limitUpTrip k

/-- The drop timer of shutter `k` has run out (R145, R149, R151). -/
def State.dropTimeout (s : State) (k : Shutter) : State :=
  let r := s.shutter k
  match r.dropTimer with
  | none => s
  | some _ =>
    match s.fu.state, r.state with
    | .clear, .dropping =>
      if s.fu.underTest = some k then s.endTest k .jammed .fail
      else s.onShutter k (fun r => { r with dropTimer := none })
    | .tripped, .dropping =>
      ((s.moveShutter k { r with state := .jammed, dropTimer := none }).raise noticeShutterJam).shutTest
    | .shut, .dropping =>
      ((s.moveShutter k { r with state := .jammed, dropTimer := none }).raise noticeShutterJam).shutTest
    | _, _ => s.onShutter k (fun r => { r with dropTimer := none })

/-- The alarm's accepted level becomes `level` (R140, R141). -/
def State.alarmChange (s : State) (level : Activity) : State :=
  let s1 : State :=
    { s with fu := { s.fu with alarm := level, alarmRun := 0 }, pins := { s.pins with alarm := level } }
  if level = .active && s.fu.alarm = .inactive then s1.takeCause .alarmLine else s1

/-- A gate flame flag handed to the fire unit (R141). -/
def State.flameFlag (s : State) (p : Projector) (flag : Sensor) : State :=
  if flag = .set then s.takeCause (.gateFlame p) else s

/-! ### Rearm (R147, R148) -/

/-- Whether a recorded cause is clear at this moment (R147). -/
def State.causeClear (s : State) : Cause → Bool
  | .powerOn | .manual _ | .shutterFall _ => true
  | .alarmLine => s.fu.alarm = .inactive
  | .gateFlame p =>
    match (s.station p).lastReport with
    | some r => (s.station p).presence = .present && r.gateFlame = .clear
    | none => false

/-- Whether the fire unit takes a FIRE_REARM (R148). -/
def State.mayRearm (s : State) : Bool :=
  s.fu.state = .shut && s.fu.shutters.toList.all (fun r => r.state = .closed) && s.fu.causes.all s.causeClear

/-- The fire unit's own records at the rearm (R148). -/
def FireUnit.rearm (f : FireUnit) : FireUnit :=
  { f with
    state := .clear
    causes := []
    shutters := updAll f.shutters (fun r => { r with state := .raising, hold := .energized, dropTimer := none }) }

/-- The rearm handed to the show unit for the projection shutters, whose states it changed (R149). -/
def State.handRearmShutters (s : State) : State :=
  (List.finRange 12).foldl State.handShutter s

/-- A taken FIRE_REARM (R148). -/
def State.rearm (s : State) : State :=
  let s1 : State := { s with fu := s.fu.rearm }
  (s1.raise noticeFireRearmed).lineRearm.lampUnitRearm.showRearm.houseRearm.handRearmShutters

/-! ### Drop tests (R150) -/

/-- Whether the fire unit takes a SHUTTER_TEST of shutter `k` (R150). -/
def State.mayTest (s : State) (k : Shutter) : Bool :=
  s.fu.state = .clear && s.fu.underTest.isNone && (s.shutter k).state = .opened
    && (match shutterProjector k with
        | some p => s.role p = .idle
        | none => true)

/-- A taken SHUTTER_TEST (R150). -/
def State.startTest (s : State) (k : Shutter) : State :=
  (s.setUnderTest (some k)).moveShutter k
    { s.shutter k with state := .dropping, hold := .released, dropTimer := some (.start Config.dropTime) }

/-! ### Power-on (R154) -/

/-- Every record at its power-on value for what the pins show, then the alarm's cause and the SHUT test (R140,
R144, R154, R164). -/
def powerOnState (p : PowerOnPins) : State :=
  let s : State := State.reset
  let s1 : State :=
    { s with
      fu := { s.fu with alarm := p.alarm, shutters := updEach s.fu.shutters (fun k _ => .powerOn p.limits[k]) }
      pu := { s.pu with ports := updEach s.pu.ports (fun n _ => .powerOn p.straps[n]) }
      pins := { s.pins with alarm := p.alarm, limits := p.limits } }
  let s2 := if p.alarm = .active then s1.takeCause .alarmLine else s1
  s2.shutTest

end Sys2Proof.Machine
end

