-- ==== Sys2Proof/Machine/Reply.lean ====
section
/-! DEFINITION. A frame received on the booth line: whether it is the poll's good reply, what its report
updates, and what is handed on (spec/02 R22, R26 to R31). -/

namespace Sys2Proof.Machine

/-- The live states a stale report replaces (R30). -/
def Report.withLive (old new : Report) : Report :=
  { old with
    motor := new.motor
    douser := new.douser
    blade := new.blade
    arc := new.arc
    gateFlame := new.gateFlame }

/-- The report a stale first reply fills: measured values zero, film break CLEAR (R30). -/
def Report.unmeasured (new : Report) : Report :=
  { new with filmBreak := .clear, marks := 0, volts := 0, amps := 0, temperature := 0 }

/-- A station record after a report from it while PRESENT, fresh or stale (R29, R30). -/
def Station.takeReport (r : Station) (fresh : Bool) (x : Report) : Station :=
  if fresh then
    { r with lastReport := some x, reportOld := false, expectedToggle := !r.expectedToggle }
  else
    { r with
      lastReport := some (match r.lastReport with | some old => old.withLive x | none => x.unmeasured) }

/-- The measured values of a fresh report handed on: the sample to the lamp unit, the mark count to the show
unit (R31); a stale report hands none. -/
def State.handMeasured (s : State) (p : Projector) (fresh : Bool) (x : Report) : State :=
  if fresh then (s.sample p x.volts x.amps).onMarkCount p x.marks else s

/-- A report taken from a PRESENT station: the last report updated and its parts handed on, the sample to the
lamp unit, the marks and the states to the show unit, the flame flag to the fire unit (R29 to R31, log 5). -/
def State.takeReport (s : State) (p : Projector) (toggle : Bool) (x : Report) : State :=
  let fresh : Bool := toggle = (s.station p).expectedToggle
  (((s.onStation p (fun r => r.takeReport fresh x)).handMeasured p fresh x).examine (screenOf p)).flameFlag p
    x.gateFlame

/-- A good reply of station `p` processed: presence first, then the report by the presence it then has
(R27, R28); and what the reply's window will show the watch (R39). -/
def State.takeReply (s : State) (p : Projector) (r : Reply) : State :=
  let s1 := s.goodReply p
  match r.report, (s1.station p).presence with
  | some x, .present => (s1.setWindow (.opened p (.good (some x.blade)))).takeReport p r.toggle x
  | some x, .absent => (s1.setWindow (.opened p (.good none))).flameFlag p x.gateFlame
  | some x, .lost => (s1.setWindow (.opened p (.good none))).flameFlag p x.gateFlame
  | none, _ => s1.setWindow (.opened p (.good none))

/-- A received signal as a good reply of a poll to station `p` (R26): its marker and form pass R22, and its address is
the polled station's. -/
def goodReplyOf (p : Projector) (signal : List Nat) : Option Reply :=
  match replyOf signal with
  | some r => if r.address = numberOf p then some r else none
  | none => none

/-- The reply window at a frame of its slot whose first transition comes `begun` us into the slot: the first frame begun
within the window is judged, and any other is outside a window and discarded (R22, R26). -/
def State.judgeFrame (s : State) (begun : Nat) (signal : List Nat) : State :=
  match s.lc.window with
  | .opened p .awaiting =>
    if Config.pollTime + Config.replyStart < begun then s
    else
      match goodReplyOf p signal with
      | some r => s.takeReply p r
      | none => s.setWindow (.opened p .bad)
  | _ => s

/-- Whether a frame whose first transition comes `begun` us into a slot has ended by the end of that slot (R26). -/
def endsInSlot (begun : Nat) (signal : List Nat) : Bool := begun + signalTime signal ≤ Config.slotTime

/-- A frame received on the line, its first transition `begun` us into its slot (R22, R26). No window is open before
the end of a poll's last cell; a frame begun from then on finds the poll sent, whatever the clock shows (log 13). A
frame that has not ended by the end of its slot comes to its end in a later slot, outside any window: it is discarded,
and the window it began in has ended as a miss with its own slot. -/
def State.receiveFrame (s : State) (begun : Nat) (signal : List Nat) : State :=
  if begun < Config.pollTime then s
  else if endsInSlot begun signal then s.pollSent.judgeFrame begun signal
  else s

end Sys2Proof.Machine
end

