-- ==== Sys2Proof/Machine/Lists.lean ====
section
/-! DEFINITION. Cue lists and their edits: the generation, the live region, taking, placing, unlinking and
returning records, and the append that gives a pointer its record (spec/04 R69 to R84). -/

namespace Sys2Proof.Machine

/-! ### Places in a list (R70) -/

/-- `new` placed just before `y`. -/
def placeBefore (y new : CueIx) : List CueIx → List CueIx
  | [] => []
  | a :: rest => if a = y then new :: a :: rest else a :: placeBefore y new rest

/-- `new` placed just after `y`. -/
def placeAfter (y new : CueIx) : List CueIx → List CueIx
  | [] => []
  | a :: rest => if a = y then a :: new :: rest else a :: placeAfter y new rest

/-- The records from the head up to and including `c`. -/
def upTo (c : CueIx) : List CueIx → List CueIx
  | [] => []
  | a :: rest => if a = c then [a] else a :: upTo c rest

/-- The record before `x` in a list (R69). -/
def previousIn (x : CueIx) : List CueIx → Option CueIx
  | a :: b :: rest => if b = x then some a else previousIn x (b :: rest)
  | _ => none

/-! ### The live region (R73) -/

/-- The live region of a screen's list (R73). -/
def ScreenRecord.liveRegion (r : ScreenRecord) : List CueIx :=
  if r.state.performing then
    match r.next with
    | some c => upTo c r.list
    | none => r.list
  else []

def ScreenRecord.isLive (r : ScreenRecord) (x : CueIx) : Bool := x ∈ r.liveRegion

/-- Whether the place just after `x` has a live record after it (R73). -/
def ScreenRecord.liveAfter (r : ScreenRecord) (x : CueIx) : Bool :=
  match nextIn x r.list with
  | some z => r.isLive z
  | none => false

/-! ### Operations on lists (R70, R71, R81) -/

/-- The generation raised by one (R71). -/
def State.raiseGeneration (s : State) (sc : Screen) : State :=
  s.onScreen sc (fun r => { r with generation := (r.generation + 1) % Config.generations })

def State.onList (s : State) (sc : Screen) (f : List CueIx → List CueIx) : State :=
  s.onScreen sc (fun r => { r with list := f r.list })

/-- The free list's head taken, written fresh, and placed by `place` in the list of `sc` (R70). -/
def State.takeAndPlace (s : State) (sc : Screen) (place : CueIx → List CueIx → List CueIx) : State :=
  match s.su.free with
  | [] => s
  | x :: rest => ((s.setFree rest).onCue x (fun _ => Cue.fresh)).onList sc (place x)

/-- A record unlinked from its screen list and returned to the tail of the free list (R70, R78). -/
def State.giveBack (s : State) (sc : Screen) (x : CueIx) : State :=
  (s.onList sc (fun l => l.erase x)).setFree (s.su.free ++ [x])

/-- The whole list returned to the tail of the free list, and the generation raised (R81). -/
def State.clearList (s : State) (sc : Screen) : State :=
  ((s.setFree (s.su.free ++ (s.screen sc).list)).onList sc (fun _ => [])).raiseGeneration sc

/-- An append while a performing screen's pointer names no record gives the pointer the new record, which is
then evaluated (R80; log 8). -/
def State.pointToAppended (s : State) (sc : Screen) (x : CueIx) : State :=
  if (s.screen sc).state.performing && (s.screen sc).next.isNone && (s.screen sc).list.getLast? = some x then
    (s.onScreen sc (fun r => { r with next := some x })).runCues cueFuel sc
  else s

/-! ### Edits (R72) -/

/-- The tests of an edit in the order of R72: what fails, if anything. -/
structure EditTests where
  outOfRange : Bool
  live : Bool
  needsFree : Bool
  deriving DecidableEq, Repr

/-- An edit of screen `sc` carrying generation `gen`: the tests, then the act with the generation raised, and
the answer with the index and the new generation (R71, R72). -/
def edit (s : State) (sc : Screen) (gen : Nat) (tests : EditTests) (index : Nat) (act : State → State) : Ruling :=
  if gen ≠ (s.screen sc).generation then ⟨.stale, byte2 (s.screen sc).generation, s⟩
  else if tests.outOfRange then refuse s .range
  else if tests.live then refuse s .live
  else if tests.needsFree && s.su.free.isEmpty then refuse s .empty
  else
    ⟨.ok, byte1 index ++ byte2 ((gen + 1) % Config.generations), (act s).raiseGeneration sc⟩

/-- The index the next record taken will have. -/
def State.freeHead (s : State) : CueIx := s.su.free.headD 0

/-- What an append does after the edit itself (R79, R80), if the edit was taken. -/
def Ruling.thenAppended (r : Ruling) (sc : Screen) (x : CueIx) : Ruling :=
  if r.status = .ok then { r with state := r.state.pointToAppended sc x } else r

/-- CUE_NEW (R74). -/
def cueNewRule (s : State) (sc : Screen) (gen : Nat) : Ruling :=
  (edit s sc gen ⟨false, false, true⟩ s.freeHead.val
    (fun s => s.takeAndPlace sc (fun x l => l ++ [x]))).thenAppended sc s.freeHead

/-- CUE_NEW_BEFORE (R75). -/
def cueNewBeforeRule (s : State) (sc : Screen) (gen : Nat) (x : CueIx) : Ruling :=
  let r := s.screen sc
  edit s sc gen ⟨x ∉ r.list, r.isLive x, true⟩ s.freeHead.val
    (fun s => s.takeAndPlace sc (fun new l => placeBefore x new l))

/-- CUE_NEW_AFTER (R75). -/
def cueNewAfterRule (s : State) (sc : Screen) (gen : Nat) (x : CueIx) : Ruling :=
  let r := s.screen sc
  (edit s sc gen ⟨x ∉ r.list, r.liveAfter x, true⟩ s.freeHead.val
    (fun s => s.takeAndPlace sc (fun new l => placeAfter x new l))).thenAppended sc s.freeHead

/-- CUE_MOVE_BEFORE (R76): the same record twice moves nothing. -/
def cueMoveBeforeRule (s : State) (sc : Screen) (gen : Nat) (x y : CueIx) : Ruling :=
  let r := s.screen sc
  edit s sc gen ⟨x ∉ r.list || y ∉ r.list, r.isLive x || r.isLive y, false⟩ x.val
    (fun s => if x = y then s else s.onList sc (fun l => placeBefore y x (l.erase x)))

/-- CUE_MOVE_AFTER (R76): the same record twice moves nothing. -/
def cueMoveAfterRule (s : State) (sc : Screen) (gen : Nat) (x y : CueIx) : Ruling :=
  let r := s.screen sc
  edit s sc gen ⟨x ∉ r.list || y ∉ r.list, r.isLive x || r.liveAfter y, false⟩ x.val
    (fun s => if x = y then s else s.onList sc (fun l => placeAfter y x (l.erase x)))

/-- CUE_FREE (R78). -/
def cueFreeRule (s : State) (sc : Screen) (gen : Nat) (x : CueIx) : Ruling :=
  let r := s.screen sc
  edit s sc gen ⟨x ∉ r.list, r.isLive x, false⟩ x.val (fun s => s.giveBack sc x)

/-! ### CUE_WRITE's fields (R77, R171) -/

/-- A two-byte and a one-byte argument as the frame holds them. -/
def wordArg (k : Nat) : Nat := k % 65536
def byteArg (k : Nat) : Nat := k % 256

def targetOf : Nat → Option DouserTarget
  | 0 => some .incomingOpen
  | 1 => some .incomingClose
  | 2 => some .outgoingOpen
  | 3 => some .outgoingClose
  | _ => none

/-- The kind the fields give, with the fields that kind has (R77). -/
def cueKindOf (c : CueFields) : Option CueKind :=
  match c.kind with
  | 0 => some .strike
  | 1 => some .motor
  | 2 => some .change
  | 3 => (targetOf c.target).map .douser
  | 4 => some (.house (byteArg c.level) (min (wordArg c.time) Config.delayMax))
  | 5 => some .end_
  | _ => none

/-- The trigger the fields give, with the values that trigger keeps (R77). -/
def cueTriggerOf (c : CueFields) : Option Trigger :=
  match c.trigger with
  | 0 => some (.frames (wordArg c.first))
  | 1 => if wordArg c.first < wordArg c.second then some (.mark (wordArg c.first) (wordArg c.second)) else none
  | 2 => some (.after (min (wordArg c.first) Config.delayMax))
  | 3 => some .go
  | _ => none

/-- The contents the fields give a record in state `st`; none where a field is refused (R77). -/
def cueContents (c : CueFields) (st : CueState) : Option Cue :=
  if Config.labelMax < c.label then none
  else
    match cueKindOf c, cueTriggerOf c with
    | some k, some t => some ⟨c.label, k, t, st⟩
    | _, _ => none

/-- CUE_WRITE (R77). -/
def cueWriteRule (s : State) (sc : Screen) (gen : Nat) (x : CueIx) (fields : CueFields) : Ruling :=
  let r := s.screen sc
  edit s sc gen ⟨x ∉ r.list || (cueContents fields .pending).isNone, r.isLive x, false⟩ x.val
    (fun s => s.onCue x (fun c => (cueContents fields c.state).getD c))

/-! ### The reel table's edit and its undoing (R83, R84) -/

def sideOfCode : Nat → Option Side
  | 0 => some .a
  | 1 => some .b
  | _ => none

/-- An EMPTY or LISTED entry, which REEL_SET may change (R83). -/
def ReelEntry.settable : ReelEntry → Bool
  | .empty => true
  | .reel st _ _ => st = .listed

/-- REEL_SET (R83). -/
def reelSetRule (s : State) (sc : Screen) (gen : Nat) (r : ReelIx) (length side : Nat) : Ruling :=
  edit s sc gen ⟨!oneTo Config.reelMax length || (sideOfCode side).isNone, !(s.reel sc r).settable, false⟩
    (numberOf r) (fun s => s.setReel sc r (.reel .listed length ((sideOfCode side).getD .a)))

/-- REEL_UNTHREAD (R84). -/
def reelUnthreadRule (s : State) (sc : Screen) (r : ReelIx) : Ruling :=
  match s.reel sc r with
  | .reel .loaded length side =>
    let p := projectorOf sc side
    if s.role p = .armed then
      ⟨.ok, [], (((s.setReel sc r (.reel .listed length side)).setRole p .idle).clearCounter p).examine sc⟩
    else refuse s .state
  | _ => refuse s .state

end Sys2Proof.Machine
end

