-- ==== Sys2Proof/Machine/Shows.lean ====
section
/-! DEFINITION. The show commands' rules: arming, starting, GO, stopping, rewinding and clearing (spec/05 R90
to R101), and the manual projector commands (spec/01 R17, R18). -/

namespace Sys2Proof.Machine

/-! ### Arming (R90, R91) -/

/-- The reason byte of the first arming test that fails; none when all six pass (R90). -/
def State.armingFault (s : State) (sc : Screen) (r : ReelIx) : Option Nat :=
  match s.reel sc r with
  | .reel .listed length side =>
    let p := projectorOf sc side
    if s.nextReel sc ≠ some r then some 1
    else if s.role p ≠ .idle then some 2
    else if (s.shutter (portShutter p)).state ≠ .opened then some 3
    else if (s.station p).presence ≠ .present then some 4
    else if (s.lamp p).state = .fault || (s.lamp p).carbon = 0 then some 5
    else if (s.lamp p).life < length + s.su.margin then some 6
    else none
  | _ => some 1

/-- A motor owed paid by the MOTOR action on the projector just armed (R91). -/
def State.payMotor (s : State) (sc : Screen) (p : Projector) : State :=
  if (s.screen sc).motorOwed then (s.motorAction p).2.onScreen sc (fun x => { x with motorOwed := false }) else s

/-- A reel armed on projector `p`, and a motor owed paid (R91). -/
def State.arm (s : State) (sc : Screen) (r : ReelIx) (length : Nat) (side : Side) : State :=
  let p := projectorOf sc side
  ((((s.setReel sc r (.reel .loaded length side)).setRole p .armed).loadCounter p length).examine sc).payMotor sc p

/-- REEL_THREADED (R90, R91). -/
def reelThreadedRule (s : State) (sc : Screen) (r : ReelIx) : Ruling :=
  if s.su.tripInForce then refuse s .trip
  else
    match s.armingFault sc r, s.reel sc r with
    | none, .reel _ length side => ⟨.ok, [], s.arm sc r length side⟩
    | some reason, _ => ⟨.state, byte1 reason, s⟩
    | none, .empty => ⟨.state, byte1 1, s⟩

/-! ### Performances (R96 to R100) -/

/-- Every record of a screen's list set to PENDING (R96, R99). -/
def State.resetCues (s : State) (sc : Screen) : State :=
  { s with su := { s.su with
      cues := updEach s.su.cues (fun x c => if x ∈ (s.screen sc).list then { c with state := .pending } else c) } }

/-- SHOW_START (R96). -/
def showStartRule (s : State) (sc : Screen) : Ruling :=
  let r := s.screen sc
  if s.su.tripInForce then refuse s .trip
  else if r.state ≠ .idle then refuse s .state
  else if r.list.isEmpty then refuse s .state
  else
    let s1 := (s.resetCues sc).onScreen sc (fun r =>
      { r with
        next := r.list.head?
        motorOwed := false
        changeHeld := false
        changeover := Changeover.blank
        afterTimer := some (.start 0)
        state := .dark })
    ⟨.ok, [], s1.runCues cueFuel sc⟩

/-- GO (R97). -/
def goRule (s : State) (sc : Screen) : Ruling :=
  let r := s.screen sc
  if s.su.tripInForce then refuse s .trip
  else if !r.state.performing then refuse s .state
  else
    match r.next with
    | none => refuse s .state
    | some x =>
      ⟨.ok, byte1 x.val, if (s.cue x).kind = .change && r.changeHeld then s else s.takeCue sc x⟩

/-- One projector of a stopped screen made safe (R98). -/
def State.makeSafe (s : State) (p : Projector) : State :=
  ((((s.stopMotor p).closeDouser p).closeBlade p).extinguish p).clearCounter p

/-- A queued burst of the screen withdrawn (R115, R122). -/
def State.withdrawQueued (s : State) (sc : Screen) : State :=
  if (s.screen sc).changeover.state = .queued then (s.askWithdraw sc).2 else s

/-- The changeover record aborted, a queued burst withdrawn (R122). -/
def State.abortChangeover (s : State) (sc : Screen) : State :=
  (s.withdrawQueued sc).onChangeover sc Changeover.abort

/-- SHOW_STOP (R98, R122): the show unit's own records, then its requests (log 6). -/
def showStopRule (s : State) (sc : Screen) : Ruling :=
  let r := s.screen sc
  if !(r.state.performing || r.state = .ended) then refuse s .state
  else
    let a := projectorOf sc .a
    let b := projectorOf sc .b
    let s1 := (((s.abortChangeover sc).setRole a .idle).setRole b .idle).onScreen sc (fun r =>
      { r with motorOwed := false, changeHeld := false, afterTimer := none, state := .stopped })
    ⟨.ok, [], (((s1.makeSafe a).makeSafe b).raise (noticeShowEnded sc))⟩

/-- Whether a projector of the screen is past arming (R99, R100). -/
def State.screenPastArming (s : State) (sc : Screen) : Bool :=
  (s.role (projectorOf sc .a)).isPastArming || (s.role (projectorOf sc .b)).isPastArming

/-- An ARMED projector given up at a rewind or a clear: role IDLE, lamp put out (R99). -/
def State.giveUp (s : State) (p : Projector) : State :=
  if s.role p = .armed then (s.setRole p .idle).extinguish p else s

/-- The screen record made ready to run again, or for the next programme (R99, R100). -/
def ScreenRecord.rest (r : ScreenRecord) : ScreenRecord :=
  { r with motorOwed := false, changeHeld := false, changeover := Changeover.blank, state := .idle }

/-- What a rewind and a clear do to the screen's projectors (R99, R100). -/
def State.restProjectors (s : State) (sc : Screen) : State :=
  let a := projectorOf sc .a
  let b := projectorOf sc .b
  (((s.giveUp a).giveUp b).clearCounter a).clearCounter b

/-- SHOW_REWIND (R99). -/
def showRewindRule (s : State) (sc : Screen) : Ruling :=
  let r := s.screen sc
  if !(r.state = .ended || r.state = .stopped) || s.screenPastArming sc then refuse s .state
  else
    let s1 := (s.resetCues sc).onScreen sc (fun r =>
      { r.rest with next := r.list.head?, reels := updAll r.reels (ReelEntry.withState .listed) })
    ⟨.ok, [], s1.restProjectors sc⟩

/-- SHOW_CLEAR (R100). -/
def showClearRule (s : State) (sc : Screen) (gen : Nat) : Ruling :=
  let r := s.screen sc
  if gen ≠ r.generation then ⟨.stale, byte2 r.generation, s⟩
  else if !(r.state = .idle || r.state = .ended || r.state = .stopped) || s.screenPastArming sc then
    refuse s .state
  else
    let s1 := (s.clearList sc).onScreen sc (fun r =>
      { r.rest with next := none, reels := Vector.replicate 12 .empty })
    ⟨.ok, byte2 ((gen + 1) % Config.generations), s1.restProjectors sc⟩

/-- BOOTH_SET (R101). -/
def boothSetRule (s : State) (margin : Nat) : Ruling :=
  ⟨.ok, [], { s with su := { s.su with margin := min margin Config.marginMax } }⟩

/-! ### Manual projector commands (R17, R18) -/

/-- PROJ_MOTOR (R17). -/
def projMotorRule (s : State) (a : Nat) (p : Projector) : Ruling :=
  if s.role p ≠ .idle then refuse s .state
  else
    let r := s.askMotor p (if a = 1 then .run else .stop)
    ⟨r.1, [], r.2⟩

/-- PROJ_DOUSER (R18). -/
def projDouserRule (s : State) (a : Nat) (p : Projector) : Ruling :=
  if s.role p ≠ .idle then refuse s .state
  else
    let r := s.askDouser p (if a = 1 then .opened else .closed)
    ⟨r.1, [], r.2⟩

/-! ### Lamp, house and fire commands -/

/-- LAMP_STRIKE (R45). -/
def lampStrikeRule (s : State) (p : Projector) : Ruling :=
  let r := s.strike p
  ⟨r.1, [], r.2⟩

/-- LAMP_OFF (R50). -/
def lampOffRule (s : State) (p : Projector) : Ruling :=
  if s.role p = .onScreen then refuse s .state else ⟨.ok, [], s.extinguish p⟩

/-- LAMP_SET (R64). -/
def lampSetRule (s : State) (f : LampFields) (p : Projector) : Ruling :=
  if (s.lamp p).state ≠ .cold then refuse s .state
  else ⟨.ok, [], s.onLamp p (fun l => l.withSettings f)⟩

/-- LAMP_RECARBON (R65). -/
def lampRecarbonRule (s : State) (length : Nat) (p : Projector) : Ruling :=
  if (s.lamp p).state ≠ .cold then refuse s .state
  else ⟨.ok, [], s.onLamp p (fun l => l.recarbon length)⟩

/-- HOUSE_FADE (R132). -/
def houseFadeRule (s : State) (level time : Nat) (ch : Channel) : Ruling :=
  let r := s.askFade ch (byteArg level) time
  ⟨r.1, [], r.2⟩

/-- FIRE_TRIP (R153). -/
def fireTripRule (s : State) (n : Port) : Ruling := ⟨.ok, [], s.takeCause (.manual n)⟩

/-- FIRE_REARM (R148). -/
def fireRearmRule (s : State) : Ruling := if s.mayRearm then ⟨.ok, [], s.rearm⟩ else refuse s .state

/-- SHUTTER_TEST (R150). -/
def shutterTestRule (s : State) (k : Shutter) : Ruling :=
  if s.mayTest k then ⟨.ok, [], s.startTest k⟩ else refuse s .state

/-- LINE_RESET (R40). -/
def lineResetRule (s : State) : Ruling := if s.anyPastArming then refuse s .state else ⟨.ok, [], s.lineReset⟩

end Sys2Proof.Machine
end

