-- ==== Sys2Proof/Machine/Ports.lean ====
section
/-! DEFINITION. The console port unit: bytes written and read, the checking of a frame, the passing of a
command, the response, the clear line and the gap timer (spec/09 R157 to R163). -/

namespace Sys2Proof.Machine

/-! ### Responses (R159, R163) -/

/-- The response of a status and its data; the check byte brings the sum of the frame to 0 (R163). -/
def Response.build (st : Status) (data : List Byte) : Response :=
  ⟨st.code, data, checkByte (st.code :: BitVec.ofNat 8 data.length :: data)⟩

/-- The bytes of a response in the order they are read (spec/10 section 10.1). -/
def Response.bytes (r : Response) : List Byte :=
  r.status :: BitVec.ofNat 8 r.data.length :: r.data ++ [r.check]

/-- A strobe with the direction line at `d`: it ends the acknowledge and the byte of the strobe before it. `turn` is the
time in us from it to the unit's turn of the line to write, if there is one before the port's next strobe (R158,
log 17). -/
def PortRecord.strobed (r : PortRecord) (d : PortDirection) (turn : Option Nat) : PortRecord :=
  { r with direction := d, untilWrite := turn, acknowledged := false, driven := none }

/-- The direction line turned to write: the port drives its data lines no more (R158). -/
def PortRecord.turnToWrite (r : PortRecord) : PortRecord :=
  { r with direction := .write, untilWrite := none, driven := none }

/-- A byte on the data lines, which the port drives only while the direction line says read (R158). -/
def PortRecord.drive (r : PortRecord) (b : Option Byte) : PortRecord :=
  match r.direction with
  | .read => { r with driven := b }
  | .write => { r with driven := none }

/-- The byte at the read position given and acknowledged; after the check byte the port is IDLE (R159). -/
def PortRecord.give (r : PortRecord) : PortRecord :=
  match r.response with
  | none => r
  | some x =>
    let g := { r.drive x.bytes[r.readPosition]? with acknowledged := true, readWaiting := false }
    if r.readPosition + 1 < x.bytes.length then { g with readPosition := r.readPosition + 1 }
    else { g with response := none, readPosition := 0, frameState := .idle }

/-- A response made: the port is REPLYING, and a read strobe that waits is given its first byte (R159). -/
def PortRecord.reply (r : PortRecord) (x : Response) : PortRecord :=
  let g := { r with response := some x, readPosition := 0, answerOwed := false, frameState := .replying }
  if r.readWaiting then g.give else g

/-! ### Bytes of a frame (R158) -/

/-- A written byte acknowledged: the port drives nothing, and a read strobe that waited is ended (R158; log 17). -/
def PortRecord.acknowledge (r : PortRecord) : PortRecord :=
  { r with acknowledged := true, driven := none, readWaiting := false }

/-- A byte taken as the code of a new frame (R158, IDLE). -/
def PortRecord.takeCode (r : PortRecord) (b : Byte) : PortRecord :=
  { r.acknowledge with
    frameState := .receiving
    code := some b
    statedCount := none
    arguments := []
    runningSum := b
    gapTimer := some (.start Config.gapTime) }

/-- A byte acknowledged and summed within a frame, the gap timer restarted (R158, RECEIVING). -/
def PortRecord.sumByte (r : PortRecord) (b : Byte) : PortRecord :=
  { r.acknowledge with runningSum := r.runningSum + b, gapTimer := some (.start Config.gapTime) }

/-- A response abandoned (R159). -/
def PortRecord.abandon (r : PortRecord) : PortRecord := { r with response := none, readPosition := 0 }

/-- A complete frame stands EXECUTING, its gap timer stopped (R158). -/
def PortRecord.complete (r : PortRecord) : PortRecord :=
  { r with gapTimer := none, frameState := .executing }

/-! ### The checks (R161) -/

/-- What the port unit makes of a complete frame: a command to pass, or the status of the first check that
fails (R161). -/
inductive Verdict where
  | pass (c : Instr)
  | fail (st : Status)
  deriving DecidableEq, Repr

/-- Rights, then ranges, of a decoded command (R161, checks 4 and 5). -/
def PortRecord.passes (r : PortRecord) (c : Instr) : Verdict :=
  if !r.grants (rightNeeded c) then .fail .denied
  else if !inRange c then .fail .range
  else .pass c

/-- Code and length, then rights and ranges (R161, checks 2 to 5). -/
def PortRecord.checkFrame (r : PortRecord) (n : Port) (code count : Byte) (args : List Byte) : Verdict :=
  match argumentCount code with
  | none => .fail .unknown
  | some k =>
    if count.toNat ≠ k then .fail .length
    else
      match decodeCommand n code args with
      | none => .fail .unknown
      | some c => r.passes c

/-- The verdict on the complete frame a port holds (R161). -/
def PortRecord.verdict (r : PortRecord) (n : Port) : Verdict :=
  if r.runningSum ≠ 0 then .fail .check
  else
    match r.code, r.statedCount with
    | some code, some count => r.checkFrame n code count r.arguments
    | _, _ => .fail .check

/-- A command passed to its owner: an answer is owed, tied to this frame (R160, R163; log 25). -/
def State.pass (s : State) (n : Port) (c : Instr) : State :=
  let t := s.onPort n (fun r => { r with answerOwed := true, frameTag := r.frameTag + 1 })
  { t with pu := { t.pu with passed := t.pu.passed ++ [⟨n, (t.port n).frameTag, c⟩] } }

/-- A complete frame checked: passed on, or answered at once with the failed check's status (R161; log 19). -/
def State.checkFrame (s : State) (n : Port) : State :=
  match (s.port n).verdict n with
  | .pass c => s.pass n c
  | .fail st => s.onPort n (fun r => r.reply (Response.build st []))

/-! ### Strobes (R158, R159) -/

/-- A write strobe on a RECEIVING port (R158). -/
def State.receiveByte (s : State) (n : Port) (b : Byte) : State :=
  let r := (s.port n).sumByte b
  match r.statedCount with
  | none => s.onPort n (fun _ => { r with statedCount := some b })
  | some count =>
    if r.arguments.length < count.toNat then
      s.onPort n (fun _ => { r with arguments := r.arguments ++ [b] })
    else (s.onPort n (fun _ => r.complete)).checkFrame n

/-- A write strobe of byte `b` on port `n` (R158, R160). Under a held clear line the strobe is not acknowledged and is
forgotten: DESIGN CHOICE, log 18. -/
def State.writeByte (s : State) (n : Port) (b : Byte) : State :=
  let t := s.onPort n (fun r => r.strobed .write none)
  if (s.port n).clearHeld then t
  else
    match (s.port n).frameState with
    | .idle => t.onPort n (fun r => r.takeCode b)
    | .receiving => t.receiveByte n b
    | .executing => t.onPort n (fun r => { r with writeHeld := some b, readWaiting := false })
    | .replying => t.onPort n (fun r => r.abandon.takeCode b)

/-- A read strobe on a port (R159, R160). Under a held clear line the strobe is not acknowledged and is forgotten: DESIGN
CHOICE, log 18. A read strobe given while one waits already takes its place, and one byte is given for both: DESIGN
CHOICE, log 17. -/
def PortRecord.readByte (r : PortRecord) (turn : Option Nat) : PortRecord :=
  let g := r.strobed .read turn
  if r.clearHeld then g
  else
    match r.frameState with
    | .replying => g.give
    | .idle => { g with readWaiting := true }
    | .receiving => { g with readWaiting := true }
    | .executing => { g with readWaiting := true }

/-! ### Answers, clear and gap -/

/-- The answer of status and data made the port's response; a held write then acts at once (R159). Where a read strobe
waits as well, it is given the first byte before the held write abandons the response: DESIGN CHOICE, log 17. -/
def PortRecord.takeAnswer (r : PortRecord) (st : Status) (data : List Byte) : PortRecord :=
  let g := r.reply (Response.build st data)
  match r.writeHeld with
  | none => g
  | some b => { g.abandon.takeCode b with writeHeld := none }

/-- Whether an answer is to the frame a port is EXECUTING (R159, R160). -/
def PortRecord.awaits (r : PortRecord) (a : Answer) : Bool :=
  r.frameState = .executing && r.answerOwed && a.tag = some r.frameTag

/-- An owner's answer arrives at port `n`: the oldest one set out for it, delivered or discarded (R159, R160). -/
def State.deliver (s : State) (n : Port) : State :=
  match s.pu.answers.find? (fun a => a.port = n) with
  | none => s
  | some a =>
    let t : State := { s with pu := { s.pu with answers := s.pu.answers.eraseP (fun a => a.port = n) } }
    if (s.port n).awaits a then t.onPort n (fun r => r.takeAnswer a.status a.data) else t

/-- A pulse on the clear line of a port; `held` says whether the line stays asserted (R157, R160; log 18). That it also
ends a read strobe that waits, the driven byte and the acknowledge is the model's choice: log 18. The direction line is
the unit's and stays. -/
def PortRecord.clear (r : PortRecord) (held : Bool) : PortRecord :=
  { r with
    frameState := .idle
    code := none
    statedCount := none
    arguments := []
    runningSum := 0
    gapTimer := none
    response := none
    readPosition := 0
    writeHeld := none
    answerOwed := false
    clearHeld := held
    readWaiting := false
    driven := none
    acknowledged := false }

/-- The gap timer has run out: a RECEIVING port discards its frame (R158). -/
def PortRecord.gapOut (r : PortRecord) : PortRecord :=
  match r.frameState with
  | .receiving =>
    { r with
      frameState := .idle
      code := none
      statedCount := none
      arguments := []
      runningSum := 0
      gapTimer := none }
  | .idle | .executing | .replying => r

/-! ### The PU's own commands (R167 to R169) -/

/-- NOTICE_NEXT (R167). -/
def noticeNextRule (s : State) (n : Port) : Ruling :=
  match lowestNotice (s.port n).visible with
  | some k => ⟨.ok, byte1 k.val, s.onPort n (fun r => r.setPending (r.pendingSet &&& ~~~noticeBit k))⟩
  | none => ⟨.ok, byte1 255, s⟩

/-- NOTICE_MASK (R168). -/
def noticeMaskRule (s : State) (n : Port) (hidden : NoticeSet) : Ruling :=
  ⟨.ok, [], s.onPort n (fun r => r.setMask hidden)⟩

/-- NOTICE_ROUTE (R169). -/
def noticeRouteRule (s : State) (ports : Nat) (k : Notice) : Ruling :=
  ⟨.ok, [], { s with pu := { s.pu with routes := upd s.pu.routes k (fun _ => BitVec.ofNat 3 ports) } }⟩

/-- NOTICE_FLUSH (R168). -/
def noticeFlushRule (s : State) (n : Port) : Ruling := ⟨.ok, [], s.onPort n (fun r => r.setPending 0)⟩

end Sys2Proof.Machine
end

