-- ==== Sys2Proof/Machine/Reads.lean ====
section
/-! DEFINITION. The data of the ten READ commands, byte by byte (spec/10 R171 and section 10.4; the layouts
of READ_REEL and READ_LIST, which have no table there: log 20). -/

namespace Sys2Proof.Machine

/-! ### Values that may be absent or stopped (R171) -/

/-- A thing numbered from 1, or FFh. -/
def maybeNumber {m : Nat} (i : Option (Fin m)) : List Byte := maybe1 (i.map numberOf)
/-- A cue record's index, or FFh. -/
def maybeIndex (x : Option CueIx) : List Byte := maybe1 (x.map (·.val))
/-- A timer of one byte, or FFh while stopped; and one of two bytes, or FFFFh. -/
def timer1 (t : Option Timer) : List Byte := maybe1 (t.map (·.value))
def timer2 (t : Option Timer) : List Byte := maybe2 (t.map (·.value))

/-! ### READ_SCREEN (R109) -/

def changeoverBytes (c : Changeover) : List Byte :=
  byte1 c.state.code ++ maybeNumber c.outgoing ++ maybeNumber c.incoming ++ maybeIndex c.cue
    ++ yesNo c.late ++ yesNo c.unconfirmed

def screenBytes (s : State) (sc : Screen) : List Byte :=
  let r := s.screen sc
  byte1 r.state.code ++ maybeIndex r.next ++ timer2 r.afterTimer ++ yesNo r.motorOwed ++ yesNo r.changeHeld
    ++ maybeNumber (s.nextReel sc) ++ byte1 (s.role (projectorOf sc .a)).code
    ++ byte1 (s.role (projectorOf sc .b)).code ++ changeoverBytes r.changeover ++ byte2 s.su.margin
    ++ yesNo s.su.tripInForce

/-! ### READ_PROJECTOR (R19) -/

def projectorBytes (s : State) (p : Projector) : List Byte :=
  let m := s.motion p
  byte1 (s.role p).code ++ byte1 m.speed.code ++ byte1 m.gate.code ++ byte2 m.framesRemaining
    ++ byte2 m.loadedLength ++ yesNo m.watch.isSome ++ maybe2 m.watch ++ byte2 m.lastPeriod
    ++ yesNo m.periodCurrent ++ byte1 (levelCode m.accepted) ++ byte1 m.cause.code
    ++ byte1 (s.station p).desired.motor.code ++ byte1 (s.station p).desired.douser.code

/-! ### READ_LAMP (R67) -/

/-- The feed timer's reload and counter; a stopped timer sends 0 and FFFFFh (R171). -/
def feedTimerBytes : Option FeedTimer → List Byte
  | some t => byte3 t.reload ++ byte3 t.counter.value
  | none => byte3 0 ++ byte3 Config.feedStopped

def lampBytes (s : State) (p : Projector) : List Byte :=
  let l := s.lamp p
  byte1 l.state.code ++ byte2 l.vs ++ byte2 l.ir ++ byte2 l.b ++ byte1 l.g ++ byte2 l.fmax ++ byte2 l.trim
    ++ byte2 l.carbon ++ byte2 l.feedRate ++ feedTimerBytes l.feedTimer ++ byte1 l.strikeCount
    ++ byte1 l.outCount ++ timer1 l.strikeTimer ++ timer1 l.holdTimer ++ byte1 l.fault.code
    ++ yesNo l.trimNoticed ++ byte1 l.cause.code ++ byte3 l.life

/-! ### READ_STATION (R42) -/

/-- A report's twelve bytes; FFh in each for none. -/
def reportBytes : Option Report → List Byte
  | none => List.replicate 12 255
  | some r =>
    byte1 r.motor.code ++ byte1 r.douser.code ++ byte1 r.blade.code ++ byte1 r.arc.code
      ++ byte1 r.filmBreak.code ++ byte1 r.gateFlame.code ++ byte1 r.marks ++ byte2 r.volts ++ byte2 r.amps
      ++ byte1 r.temperature

def stationBytes (s : State) (p : Projector) : List Byte :=
  let r := s.station p
  byte1 r.presence.code ++ byte1 r.missRun ++ byte1 r.goodRun ++ byte1 r.rareCountdown
    ++ byte1 (if r.expectedToggle then 1 else 0) ++ reportBytes r.lastReport ++ yesNo r.reportOld
    ++ byte1 r.desired.motor.code ++ byte1 r.desired.douser.code ++ byte1 r.desired.blade.code
    ++ byte1 r.desired.arc.code

/-- A watch station's byte: commanded OPEN in bit 7, status in bits 5 and 4, polls left in bits 1 and 0 (R171).
The polls left of a CONFIRMED station, and bits 6, 3 and 2, are sent 0: DESIGN CHOICE, log 34. -/
def WatchStation.byte (w : WatchStation) : Byte :=
  let commanded := if w.commanded = .opened then 128 else 0
  match w.status with
  | .waiting left => BitVec.ofNat 8 (commanded + left)
  | .confirmed => BitVec.ofNat 8 (commanded + 16)
  | .unconfirmed => BitVec.ofNat 8 (commanded + 32)

/-- A confirmation watch's two bytes, side A first; FFh twice while closed (R171). -/
def Watch.bytes : Watch → List Byte
  | .closed => [255, 255]
  | .opened a b => [a.byte, b.byte]

def lineBytes (s : State) : List Byte :=
  yesNo s.lc.tripInForce ++ yesNo s.lc.resetPending ++ s.lc.burstQueue.map burstPayload
    ++ (List.finRange 4).flatMap (fun sc => (s.watch sc).bytes)

/-! ### READ_FIRE, READ_SHUTTER (R155, R156) -/

/-- A trip entry: bit 7 set when the cause is clear, the source number in bits 4 to 0 (R171); bits 6 and 5
are sent 0: DESIGN CHOICE, log 34. -/
def tripEntry (s : State) (c : Cause) : Byte := BitVec.ofNat 8 ((if s.causeClear c then 128 else 0) + c.code)

def fireBytes (s : State) : List Byte :=
  byte1 s.fu.state.code ++ s.fu.causes.map (tripEntry s) ++ byte1 s.fu.causes.length
    ++ maybeNumber s.fu.underTest ++ byte1 (activityCode s.fu.alarm)

def shutterBytes (s : State) (k : Shutter) : List Byte :=
  let r := s.shutter k
  byte1 r.state.code ++ byte1 r.hold.code ++ byte1 (activityCode r.limit) ++ timer2 r.dropTimer ++ byte1 r.lastTest.code
    ++ yesNo (s.fu.underTest = some k)

/-! ### READ_HOUSE (R138) -/

def channelBytes (s : State) (ch : Channel) : List Byte :=
  let c := s.channel ch
  byte1 c.level ++ byte2 c.fine ++ byte1 c.target ++ byte2 c.step ++ byte1 c.direction.code
    ++ byte1 c.override.code ++ maybe2 c.lastDelay ++ byte1 s.hu.mains.state.code ++ byte2 s.hu.mains.h

def mainsBytes (s : State) : List Byte :=
  let m := s.hu.mains
  byte1 m.state.code ++ byte1 m.phase.code ++ byte2 m.lastHalf ++ byte2 m.h ++ byte1 m.validRun

/-! ### READ_REEL, READ_CUE, READ_LIST (R85 to R87) -/

def reelBytes (s : State) (sc : Screen) (r : ReelIx) : List Byte :=
  (match s.reel sc r with
    | .empty => byte1 0 ++ byte2 65535 ++ byte1 255
    | .reel st length side => byte1 st.code ++ byte2 length ++ byte1 (sideCode side))
    ++ yesNo (s.nextReel sc = some r)

/-- The list that holds record `x`, as its code and its records: 0 for FREE, 1 to 4 for a screen (R69). -/
def State.listOf (s : State) (x : CueIx) : Nat × List CueIx :=
  match (List.finRange 4).find? (fun sc => x ∈ (s.screen sc).list) with
  | some sc => (numberOf sc, (s.screen sc).list)
  | none => (0, s.su.free)

def triggerBytes : Trigger → List Byte
  | .frames v => byte2 v
  | .mark lo hi => byte2 lo ++ byte2 hi
  | .after d => byte2 d
  | .go => []

def kindBytes : CueKind → List Byte
  | .douser t => byte1 t.code
  | .house level time => byte1 level ++ byte2 time
  | .strike | .motor | .change | .end_ => []

def cueBytes (s : State) (x : CueIx) : List Byte :=
  let c := s.cue x
  let l := s.listOf x
  byte1 x.val ++ byte1 l.1 ++ maybeIndex (previousIn x l.2) ++ maybeIndex (nextIn x l.2) ++ byte2 c.label
    ++ byte1 c.kind.code ++ byte1 c.trigger.code ++ triggerBytes c.trigger ++ byte1 c.state.code
    ++ kindBytes c.kind

def listBytes (l : List CueIx) (generation : Nat) : List Byte :=
  maybeIndex l.head? ++ maybeIndex l.getLast? ++ byte1 l.length ++ byte2 generation

/-! ### The rulings of the READ commands: they change no record (R19, R42, R67, R85 to R87, R109, R138, R155,
R156) -/

def readRule (s : State) (data : List Byte) : Ruling := ⟨.ok, data, s⟩

/-- READ_STATION: a station, or the line record for 0 (R42). -/
def readStationRule (s : State) (p : Nat) : Ruling :=
  if p = 0 then readRule s (lineBytes s) else onNumber p s (fun i => readRule s (stationBytes s i))

/-- READ_HOUSE: a channel, or the mains record for 0 (R138). -/
def readHouseRule (s : State) (ch : Nat) : Ruling :=
  if ch = 0 then readRule s (mainsBytes s) else onNumber ch s (fun i => readRule s (channelBytes s i))

/-- READ_LIST: a screen's list, or the free list for 0 (R86). -/
def readListRule (s : State) (sc : Nat) : Ruling :=
  if sc = 0 then readRule s (listBytes s.su.free 0)
  else onNumber sc s (fun i => readRule s (listBytes (s.screen i).list (s.screen i).generation))

end Sys2Proof.Machine
end

