-- ==== Sys2Proof/Machine/Clock.lean ====
section
/-! DEFINITION. One microsecond of the part's clock, which an idle queue lets pass: every running count and timer
moves, and the events that then fall due are queued (log 1, log 16, log 27). -/

namespace Sys2Proof.Machine

/-! ### Counts and timers in one microsecond -/

/-- One microsecond of a timer in units of 0.1 s, of 0.1 ms, and of 1 ms. -/
def tenthDown (t : Option Timer) : Option Timer := t.map (Timer.down 100000)
def milliDown (t : Option Timer) : Option Timer := t.map (Timer.down 1000)

/-- Whether a timer stands at 0. -/
def runOut (t : Option Timer) : Bool := t.any (fun x => x.value = 0)

/-- A motion record (R11, R15). -/
def Motion.tick (m : Motion) : Motion :=
  { m with
    runningCount := if m.timed then m.runningCount.up 100 Config.silenceCount else m.runningCount
    slowStart := tenthDown m.slowStart }

/-- A lamp record (R48, R54, R56, R60). -/
def Lamp.tick (l : Lamp) : Lamp :=
  { l with
    strikeTimer := tenthDown l.strikeTimer
    holdTimer := tenthDown l.holdTimer
    feedTimer := l.feedTimer.map (fun t => { t with counter := t.counter.down 100 })
    stepPulse := l.stepPulse - 1 }

/-- A screen record: the AFTER timer holds at 6,000 (R88). -/
def ScreenRecord.tick (r : ScreenRecord) : ScreenRecord :=
  { r with afterTimer := r.afterTimer.map (Timer.up 100000 Config.delayMax) }

/-- The mains record (R126). -/
def Mains.tick (m : Mains) : Mains :=
  match m.phase with
  | .awaiting => m
  | .timing => { m with runningCount := min (m.runningCount + 1) Config.overrunCount }

/-- A house channel (R129). -/
def HouseChannel.tick (c : HouseChannel) : HouseChannel :=
  { c with firing := c.firing.map (· - 1), pulse := c.pulse - 1 }

/-- A shutter record (R143, R145). -/
def ShutterRecord.tick (r : ShutterRecord) : ShutterRecord := { r with dropTimer := milliDown r.dropTimer }

/-- A port record: the gap timer, and the unit's turn of the direction line, which ends what the port drives (R158). -/
def PortRecord.tick (r : PortRecord) : PortRecord :=
  let g := { r with gapTimer := milliDown r.gapTimer, untilWrite := r.untilWrite.map (· - 1) }
  if g.untilWrite = some 0 then g.turnToWrite else g

/-- Microseconds since the slot began (R24). -/
def LineControl.elapsed (l : LineControl) : Nat := Config.slotTime - l.untilSlot

/-- The line record: a poll's last cell goes out 872 us into its slot, and its reply window opens (R24, R26). -/
def LineControl.tick (l : LineControl) : LineControl :=
  let t := { l with untilSlot := l.untilSlot - 1 }
  if Config.pollTime ≤ t.elapsed then t.pollSent else t

/-- The sampling clock, which comes round every 50 us (R2, R126, R140). -/
def Pins.tick (p : Pins) : Pins :=
  { p with sinceSample := if Config.samplePeriod ≤ p.sinceSample + 1 then 0 else p.sinceSample + 1 }

/-- Every count and timer moved on by one microsecond. -/
def State.advance (s : State) : State :=
  { s with
    mu := updAll s.mu Motion.tick
    lc := s.lc.tick
    lu := { s.lu with lamps := updAll s.lu.lamps Lamp.tick }
    su := { s.su with screens := updAll s.su.screens ScreenRecord.tick }
    hu := { mains := s.hu.mains.tick, channels := updAll s.hu.channels HouseChannel.tick }
    fu := { s.fu with shutters := updAll s.fu.shutters ShutterRecord.tick }
    pu := { s.pu with ports := updAll s.pu.ports PortRecord.tick }
    pins := s.pins.tick }

/-! ### The filters of the zero-cross, alarm and limit inputs (R126, R140) -/

/-- Whether this microsecond samples the inputs. -/
def State.sampling (s : State) : Bool := s.pins.sinceSample = 0

/-- Whether a sample `x` would be accepted as the new level. -/
def accepts {α : Type} [DecidableEq α] (accepted : α) (run : Nat) (x : α) : Bool :=
  (filterSample accepted run x).2.2

/-- The sample run after a sample that is not accepted; an acceptance is its event's act. -/
def runAfter {α : Type} [DecidableEq α] (accepted : α) (run : Nat) (x : α) : Nat :=
  if accepts accepted run x then run else (filterSample accepted run x).2.1

/-- The sample runs of the zero-cross, alarm and limit inputs moved on. -/
def State.takeSamples (s : State) : State :=
  { s with
    hu := { s.hu with mains := { s.hu.mains with
      sampleRun := runAfter s.hu.mains.accepted s.hu.mains.sampleRun s.pins.zeroCross } }
    fu := { s.fu with
      alarmRun := runAfter s.fu.alarm s.fu.alarmRun s.pins.alarm
      shutters := updEach s.fu.shutters (fun k r =>
        { r with sampleRun := runAfter r.limit r.sampleRun s.pins.limits[k] }) } }

/-! ### The events due -/

/-- The command `c` if it is due. -/
def dueIf (b : Bool) (c : Instr) : List Instr := if b then [c] else []

/-- The commands due among numbered things. -/
def dueEach (n : Nat) (b : Fin n → Bool) (c : Fin n → Instr) : List Instr :=
  (List.finRange n).flatMap (fun i => dueIf (b i) (c i))

/-- The frame being sent, whose last cell has gone out (section 2.2 of spec/02). -/
def LineControl.dueSent (l : LineControl) : List Instr :=
  match l.sending with
  | .burst (.changeover _ _) => dueIf (Config.burstTime ≤ l.elapsed) .changeoverBurstSent
  | .burst .trip => dueIf (Config.burstTime ≤ l.elapsed) .tripBurstSent
  | .lineReset => dueIf (Config.lineResetTime ≤ l.elapsed) .lineResetFrameSent
  | .nothing | .poll _ _ => []

/-- Whether the reply window has ended: its frame has been judged, or the slot is over (R26; log 13). -/
def LineControl.windowEnded (l : LineControl) : Bool :=
  match l.window with
  | .closed => false
  | .opened _ .awaiting => l.untilSlot = 0
  | .opened _ .bad => true
  | .opened _ (.good _) => true

/-- Whether the AFTER timer of a screen meets its next cue (R102). -/
def State.afterDue (s : State) (sc : Screen) : Bool :=
  match s.awaitedCue sc, (s.screen sc).afterTimer with
  | some x, some t =>
    match (s.cue x).trigger with
    | .after d => d ≤ t.value
    | .frames _ | .mark _ _ | .go => false
  | _, _ => false

/-- Whether a zero crossing is accepted at this microsecond (R126). -/
def State.crossingDue (s : State) : Bool :=
  s.sampling && accepts s.hu.mains.accepted s.hu.mains.sampleRun s.pins.zeroCross

/-- Whether the half-cycle under way has overrun: no crossing comes at that same sample (R126). -/
def State.overrunDue (s : State) : Bool :=
  s.hu.mains.phase = .timing && Config.overrunCount ≤ s.hu.mains.runningCount && !s.crossingDue

/-- Whether a channel's firing comes at this microsecond: a crossing at the same microsecond ends the half-cycle and
cancels the firing still pending in it (R129, log 27). -/
def State.firingDue (s : State) (ch : Channel) : Bool := (s.channel ch).firing = some 0 && !s.crossingDue

/-- The timers and counts that run out at this microsecond. -/
def State.dueTimers (s : State) : List Instr :=
  dueEach 8 (fun p => (s.motion p).timed && Config.silenceCount ≤ (s.motion p).runningCount.value) .silence
    ++ dueEach 8 (fun p => runOut (s.motion p).slowStart) .slowStartTimeout
    ++ dueEach 8 (fun p => runOut (s.lamp p).strikeTimer) .strikeTimeout
    ++ dueEach 8 (fun p => runOut (s.lamp p).holdTimer) .holdTimeout
    ++ dueEach 8 (fun p => runOut ((s.lamp p).feedTimer.map (·.counter))) .feedStep
    ++ dueEach 12 (fun k => runOut (s.shutter k).dropTimer) .shutterDropTimeout
    ++ dueEach 3 (fun n => runOut (s.port n).gapTimer) .gapTimeout
    ++ dueEach 4 s.firingDue .dimmerFiring
    ++ dueIf s.overrunDue .mainsOverrun
    ++ dueEach 4 s.afterDue .afterTimerMet

/-- The events of the booth line at this microsecond. -/
def State.dueLine (s : State) : List Instr :=
  s.lc.dueSent
    ++ dueIf s.lc.windowEnded .replyWindowEnd
    ++ dueIf (s.lc.untilSlot = 0) .slotStart

/-- The events of the filtered inputs at this microsecond. -/
def State.dueInputs (s : State) : List Instr :=
  dueEach 8 (fun _ => s.sampling) (fun p => .sprocketSample p s.pins.sprocket[p])
    ++ dueIf s.crossingDue .mainsCrossing
    ++ dueIf (s.sampling && accepts s.fu.alarm s.fu.alarmRun s.pins.alarm) (.alarmChange s.pins.alarm)
    ++ dueEach 12
        (fun k => s.sampling && accepts (s.shutter k).limit (s.shutter k).sampleRun s.pins.limits[k])
        (fun k => .shutterLimitChange k s.pins.limits[k])

/-- The commands due at this microsecond, in the order they are taken: what runs out comes before what could start
it again (log 27). -/
def State.due (s : State) : List Instr := s.dueTimers ++ s.dueLine ++ s.dueInputs

/-! ### The idle step -/

/-- The commands owners have still to rule on and the answers still to arrive, which pass at once (R163;
log 25). -/
def PortUnit.waiting (u : PortUnit) : List Instr :=
  u.passed.map (·.command) ++ u.answers.map (fun a => .ownerAnswer a.port)

/-- What an idle queue lets happen: owners rule and answers arrive without time passing; otherwise one
microsecond passes and what falls due is queued (log 1). -/
def State.tick (s : State) : State :=
  if s.pu.waiting.isEmpty then
    let a := s.advance
    let b := if a.sampling then a.takeSamples else a
    { b with pending := a.due }
  else { s with pending := s.pu.waiting }

end Sys2Proof.Machine
end

