-- ==== Sys2Proof/Machine/FireCommands.lean ====
section
/-! DEFINITION. POWER_ON and the commands of the fire unit: the alarm, the shutters, FIRE_TRIP, FIRE_REARM,
SHUTTER_TEST and its reads (spec/08). -/

namespace Sys2Proof.Machine

open Host (Outcome)

/-- POWER_ON (R154); the queue of waiting commands is the sender's and stays (log 31). -/
def execPowerOn (pins : PowerOnPins) (s : State) : Outcome State Fault Refusal :=
  .next { powerOnState pins with pending := s.pending }

/-- ALARM_CHANGE (R140, R141). -/
def execAlarmChange (level : Activity) (s : State) : Outcome State Fault Refusal := .next (s.alarmChange level)

/-- SHUTTER_LIMIT_CHANGE (R140, R145, R149, R151). -/
def execShutterLimitChange (k : Shutter) (level : Activity) (s : State) : Outcome State Fault Refusal :=
  .next (s.limitChange k level)

/-- SHUTTER_DROP_TIMEOUT (R145, R151). -/
def execShutterDropTimeout (k : Shutter) (s : State) : Outcome State Fault Refusal := .next (s.dropTimeout k)

/-- READ_FIRE (R155). -/
def execReadFire (n : Port) (s : State) : Outcome State Fault Refusal :=
  console n (.readFire n) s (fun s => readRule s (fireBytes s))

/-- READ_SHUTTER (R156). -/
def execReadShutter (n : Port) (k : Nat) (s : State) : Outcome State Fault Refusal :=
  console n (.readShutter n k) s (fun s => onNumber k s (fun i => readRule s (shutterBytes s i)))

/-- FIRE_TRIP (R153). -/
def execFireTrip (n : Port) (s : State) : Outcome State Fault Refusal :=
  console n (.fireTrip n) s (fun s => fireTripRule s n)

/-- FIRE_REARM (R148). -/
def execFireRearm (n : Port) (s : State) : Outcome State Fault Refusal :=
  console n (.fireRearm n) s fireRearmRule

/-- SHUTTER_TEST (R150). -/
def execShutterTest (n : Port) (k : Nat) (s : State) : Outcome State Fault Refusal :=
  console n (.shutterTest n k) s (fun s => onNumber k s (shutterTestRule s))

end Sys2Proof.Machine
end

