-- ==== Sys2Proof/Machine/HouseCommands.lean ====
section
/-! DEFINITION. The commands of the house light unit: mains events, dimmer firings, READ_HOUSE and HOUSE_FADE
(spec/07). -/

namespace Sys2Proof.Machine

open Host (Outcome)

/-- MAINS_CROSSING (R126, R127, R130). -/
def execMainsCrossing (s : State) : Outcome State Fault Refusal := .next s.crossing

/-- MAINS_OVERRUN (R126, R127). -/
def execMainsOverrun (s : State) : Outcome State Fault Refusal := .next s.overrun

/-- DIMMER_FIRING (R129). -/
def execDimmerFiring (ch : Channel) (s : State) : Outcome State Fault Refusal :=
  .next (s.onChannel ch HouseChannel.fire)

/-- READ_HOUSE (R138). -/
def execReadHouse (n : Port) (ch : Nat) (s : State) : Outcome State Fault Refusal :=
  console n (.readHouse n ch) s (fun s => readHouseRule s ch)

/-- HOUSE_FADE (R132). -/
def execHouseFade (n : Port) (ch level time : Nat) (s : State) : Outcome State Fault Refusal :=
  console n (.houseFade n ch level time) s (fun s => onNumber ch s (houseFadeRule s level time))

end Sys2Proof.Machine
end

