-- ==== Sys2Proof/Machine/LampCommands.lean ====
section
/-! DEFINITION. The commands of the arc lamp unit: its timers, the feed step, READ_LAMP and the lamp commands
(spec/03). -/

namespace Sys2Proof.Machine

open Host (Outcome)

/-- STRIKE_TIMEOUT (R48). -/
def execStrikeTimeout (p : Projector) (s : State) : Outcome State Fault Refusal :=
  .next (if (s.lamp p).strikeTimer.isSome then s.strikeFailed p else s)

/-- HOLD_TIMEOUT (R60). -/
def execHoldTimeout (p : Projector) (s : State) : Outcome State Fault Refusal :=
  .next (if (s.lamp p).holdTimer.isSome then s.holdEnded p else s)

/-- FEED_STEP (R56 to R58). -/
def execFeedStep (p : Projector) (s : State) : Outcome State Fault Refusal := .next (s.feedStep p)

/-- READ_LAMP (R67). -/
def execReadLamp (n : Port) (p : Nat) (s : State) : Outcome State Fault Refusal :=
  console n (.readLamp n p) s (fun s => onNumber p s (fun i => readRule s (lampBytes s i)))

/-- LAMP_STRIKE (R45). -/
def execLampStrike (n : Port) (p : Nat) (s : State) : Outcome State Fault Refusal :=
  console n (.lampStrike n p) s (fun s => onNumber p s (lampStrikeRule s))

/-- LAMP_OFF (R50). -/
def execLampOff (n : Port) (p : Nat) (s : State) : Outcome State Fault Refusal :=
  console n (.lampOff n p) s (fun s => onNumber p s (lampOffRule s))

/-- LAMP_SET (R64). -/
def execLampSet (n : Port) (p : Nat) (fields : LampFields) (s : State) : Outcome State Fault Refusal :=
  console n (.lampSet n p fields) s (fun s => onNumber p s (lampSetRule s fields))

/-- LAMP_RECARBON (R65). -/
def execLampRecarbon (n : Port) (p length : Nat) (s : State) : Outcome State Fault Refusal :=
  console n (.lampRecarbon n p length) s (fun s => onNumber p s (lampRecarbonRule s length))

end Sys2Proof.Machine
end

