-- ==== Sys2Proof/Machine/LineCommands.lean ====
section
/-! DEFINITION. The commands of the line controller: slot boundaries, received frames, window ends, frames sent,
READ_STATION and LINE_RESET (spec/02). -/

namespace Sys2Proof.Machine

open Host (Outcome)

/-- SLOT_START (R24, R25). -/
def execSlotStart (s : State) : Outcome State Fault Refusal := .next s.startSlot

/-- REPLY_RECEIVED (R22, R26 to R31). -/
def execReplyReceived (begun : Nat) (signal : List Nat) (s : State) : Outcome State Fault Refusal :=
  .next (s.receiveFrame begun signal)

/-- REPLY_WINDOW_END (R26, R27, R39). -/
def execReplyWindowEnd (s : State) : Outcome State Fault Refusal := .next s.endWindow

/-- CHANGEOVER_BURST_SENT (R37): the last cell of the changeover burst being sent. -/
def execChangeoverBurstSent (s : State) : Outcome State Fault Refusal :=
  match s.lc.sending with
  | .burst (.changeover sc side) => .next (s.changeoverSent sc side)
  | _ => .next s

/-- TRIP_BURST_SENT (R38). -/
def execTripBurstSent (s : State) : Outcome State Fault Refusal :=
  .next (if s.lc.sending = .burst .trip then s.setSending .nothing else s)

/-- LINE_RESET_FRAME_SENT (R40). -/
def execLineResetFrameSent (s : State) : Outcome State Fault Refusal :=
  .next (if s.lc.sending = .lineReset then s.lineResetSent else s)

/-- READ_STATION (R42). -/
def execReadStation (n : Port) (p : Nat) (s : State) : Outcome State Fault Refusal :=
  console n (.readStation n p) s (fun s => readStationRule s p)

/-- LINE_RESET (R40). -/
def execLineReset (n : Port) (s : State) : Outcome State Fault Refusal :=
  console n (.lineReset n) s lineResetRule

end Sys2Proof.Machine
end

