-- ==== Sys2Proof/Machine/ListCommands.lean ====
section
/-! DEFINITION. The commands on reels and cue lists (spec/04). -/

namespace Sys2Proof.Machine

open Host (Outcome)

/-- READ_REEL (R87). -/
def execReadReel (n : Port) (sc reel : Nat) (s : State) : Outcome State Fault Refusal :=
  console n (.readReel n sc reel) s (fun s =>
    onNumber sc s (fun i => onNumber reel s (fun r => readRule s (reelBytes s i r))))

/-- READ_CUE (R85). -/
def execReadCue (n : Port) (x : Nat) (s : State) : Outcome State Fault Refusal :=
  console n (.readCue n x) s (fun s => onCueIx x s (fun i => readRule s (cueBytes s i)))

/-- READ_LIST (R86). -/
def execReadList (n : Port) (sc : Nat) (s : State) : Outcome State Fault Refusal :=
  console n (.readList n sc) s (fun s => readListRule s sc)

/-- CUE_NEW (R74). -/
def execCueNew (n : Port) (sc gen : Nat) (s : State) : Outcome State Fault Refusal :=
  console n (.cueNew n sc gen) s (fun s => onNumber sc s (fun i => cueNewRule s i gen))

/-- CUE_NEW_BEFORE (R75). -/
def execCueNewBefore (n : Port) (sc gen x : Nat) (s : State) : Outcome State Fault Refusal :=
  console n (.cueNewBefore n sc gen x) s (fun s =>
    onNumber sc s (fun i => onCueIx x s (cueNewBeforeRule s i gen)))

/-- CUE_NEW_AFTER (R75). -/
def execCueNewAfter (n : Port) (sc gen x : Nat) (s : State) : Outcome State Fault Refusal :=
  console n (.cueNewAfter n sc gen x) s (fun s =>
    onNumber sc s (fun i => onCueIx x s (cueNewAfterRule s i gen)))

/-- CUE_MOVE_BEFORE (R76). -/
def execCueMoveBefore (n : Port) (sc gen x y : Nat) (s : State) : Outcome State Fault Refusal :=
  console n (.cueMoveBefore n sc gen x y) s (fun s =>
    onNumber sc s (fun i => onCueIx x s (fun a => onCueIx y s (cueMoveBeforeRule s i gen a))))

/-- CUE_MOVE_AFTER (R76). -/
def execCueMoveAfter (n : Port) (sc gen x y : Nat) (s : State) : Outcome State Fault Refusal :=
  console n (.cueMoveAfter n sc gen x y) s (fun s =>
    onNumber sc s (fun i => onCueIx x s (fun a => onCueIx y s (cueMoveAfterRule s i gen a))))

/-- CUE_WRITE (R77). -/
def execCueWrite (n : Port) (sc gen x : Nat) (cue : CueFields) (s : State) : Outcome State Fault Refusal :=
  console n (.cueWrite n sc gen x cue) s (fun s =>
    onNumber sc s (fun i => onCueIx x s (fun a => cueWriteRule s i gen a cue)))

/-- CUE_FREE (R78). -/
def execCueFree (n : Port) (sc gen x : Nat) (s : State) : Outcome State Fault Refusal :=
  console n (.cueFree n sc gen x) s (fun s => onNumber sc s (fun i => onCueIx x s (cueFreeRule s i gen)))

/-- REEL_SET (R83). -/
def execReelSet (n : Port) (sc gen reel length side : Nat) (s : State) : Outcome State Fault Refusal :=
  console n (.reelSet n sc gen reel length side) s (fun s =>
    onNumber sc s (fun i => onNumber reel s (fun r => reelSetRule s i gen r length side)))

/-- REEL_UNTHREAD (R84). -/
def execReelUnthread (n : Port) (sc reel : Nat) (s : State) : Outcome State Fault Refusal :=
  console n (.reelUnthread n sc reel) s (fun s =>
    onNumber sc s (fun i => onNumber reel s (reelUnthreadRule s i)))

end Sys2Proof.Machine
end

