-- ==== Sys2Proof/Machine/MotionCommands.lean ====
section
/-! DEFINITION. The commands of the motion unit: sprocket events, the slow-start timer and the silence, and the
manual projector commands with READ_PROJECTOR (spec/01). An event stands for the moment it names, and has no
effect where that moment cannot come (log 2). -/

namespace Sys2Proof.Machine

open Host (Outcome)

/-- The reports of a pulse handed on, each if it was made: WATCH_REACHED, COUNTER_ZERO, the speed (R10, R16). -/
def State.reportWatch (s : State) (p : Projector) (made : Bool) : State := if made then s.onWatchReached p else s
def State.reportZero (s : State) (p : Projector) (made : Bool) : State := if made then s.onCounterZero p else s
def State.reportSpeed (s : State) (p : Projector) (v : Option Speed) : State :=
  match v with
  | some v => s.onSpeed p v
  | none => s

/-- What a pulse taken makes the show unit do (R10, R16). -/
def State.handPulse (s : State) (p : Projector) (r : PulseReports) : State :=
  ((s.reportWatch p r.watch).reportZero p r.zero).reportSpeed p r.speed

/-- An accepted pulse: taken while the gate is OPEN, ignored while it is CLOSED (R3). -/
def State.acceptedPulse (s : State) (p : Projector) : State :=
  match (s.motion p).gate with
  | .opened => (s.takePulse p).handPulse p (s.motion p).pulseReports
  | .closed => s

/-- The sprocket input of projector `p` at a level. -/
def State.sprocketAt (s : State) (p : Projector) (level : Level) : State :=
  { s with pins := { s.pins with sprocket := upd s.pins.sprocket p (fun _ => level) } }

/-- One sample of a sprocket input; an acceptance of HIGH is an accepted pulse (R2, R3; log 21). A sample that a sender
gives is one more sample besides the clock's own: DESIGN CHOICE, log 37. -/
def State.sampleSprocket (s : State) (p : Projector) (level : Level) : State :=
  let f := filterSample (s.motion p).accepted (s.motion p).sampleRun level
  let s1 := (s.sprocketAt p level).onMotion p (fun m => { m with accepted := f.1, sampleRun := f.2.1 })
  if f.2.2 && level = .high then s1.acceptedPulse p else s1

/-- The slow-start timer has run out (R15). -/
def State.slowStartOut (s : State) (p : Projector) : State :=
  match (s.motion p).slowStart with
  | none => s
  | some _ => (s.onMotion p (fun m => { m with slowStart := none })).projectorAttention p .slowStart

/-- SILENT_STOP's notice, if the silence is one (R12). -/
def State.silentAttention (s : State) (p : Projector) (made : Bool) : State :=
  if made then s.projectorAttention p .silentStop else s

/-- A silence of projector `p` (R12): the MU's own act with its notice, then the report of the speed (R16). -/
def State.silence (s : State) (p : Projector) : State :=
  if (s.motion p).timed then
    ((s.onMotion p Motion.silent).silentAttention p (s.motion p).silentStop).reportSpeed p
      (if (s.motion p).speed = .stopped then none else some .stopped)
  else s

/-- SPROCKET_PULSE (R3, R6, R9 to R11, R13, R14; log 21). -/
def execSprocketPulse (p : Projector) (s : State) : Outcome State Fault Refusal :=
  .next (((s.sprocketAt p .high).onMotion p Motion.acceptHigh).acceptedPulse p)

/-- SPROCKET_SAMPLE (R2). -/
def execSprocketSample (p : Projector) (level : Level) (s : State) : Outcome State Fault Refusal :=
  .next (s.sampleSprocket p level)

/-- SLOW_START_TIMEOUT (R15). -/
def execSlowStartTimeout (p : Projector) (s : State) : Outcome State Fault Refusal :=
  .next (s.slowStartOut p)

/-- SILENCE (R12). -/
def execSilence (p : Projector) (s : State) : Outcome State Fault Refusal :=
  .next (s.silence p)

/-- READ_PROJECTOR (R19). -/
def execReadProjector (n : Port) (p : Nat) (s : State) : Outcome State Fault Refusal :=
  console n (.readProjector n p) s (fun s => onNumber p s (fun i => readRule s (projectorBytes s i)))

/-- PROJ_MOTOR (R17). -/
def execProjMotor (n : Port) (p a : Nat) (s : State) : Outcome State Fault Refusal :=
  console n (.projMotor n p a) s (fun s => onNumber p s (projMotorRule s a))

/-- PROJ_DOUSER (R18). -/
def execProjDouser (n : Port) (p a : Nat) (s : State) : Outcome State Fault Refusal :=
  console n (.projDouser n p a) s (fun s => onNumber p s (projDouserRule s a))

end Sys2Proof.Machine
end

