-- ==== Sys2Proof/Machine/PortCommands.lean ====
section
/-! DEFINITION. The commands of the console port unit: strobes, clear, gap timer, answers, and the notice
commands (spec/09). -/

namespace Sys2Proof.Machine

open Host (Outcome)

/-- WRITE_STROBE (R158, R161). -/
def execWriteStrobe (n : Port) (byte : Byte) (s : State) : Outcome State Fault Refusal :=
  .next (s.writeByte n byte)

/-- READ_STROBE (R158, R159). -/
def execReadStrobe (strobe : ReadStrobe) (s : State) : Outcome State Fault Refusal :=
  .next (s.onPort strobe.port (fun r => r.readByte strobe.turn))

/-- PORT_CLEAR (R160). -/
def execPortClear (n : Port) (held : Bool) (s : State) : Outcome State Fault Refusal :=
  .next (s.onPort n (fun r => r.clear held))

/-- GAP_TIMEOUT (R158). -/
def execGapTimeout (n : Port) (s : State) : Outcome State Fault Refusal :=
  .next (s.onPort n PortRecord.gapOut)

/-- OWNER_ANSWER (R159, R160). -/
def execOwnerAnswer (n : Port) (s : State) : Outcome State Fault Refusal := .next (s.deliver n)

/-- NOTICE_NEXT (R167). -/
def execNoticeNext (n : Port) (s : State) : Outcome State Fault Refusal :=
  console n (.noticeNext n) s (fun s => noticeNextRule s n)

/-- NOTICE_MASK (R168). -/
def execNoticeMask (n : Port) (hidden : NoticeSet) (s : State) : Outcome State Fault Refusal :=
  console n (.noticeMask n hidden) s (fun s => noticeMaskRule s n hidden)

/-- NOTICE_ROUTE (R169). -/
def execNoticeRoute (n : Port) (notice ports : Nat) (s : State) : Outcome State Fault Refusal :=
  console n (.noticeRoute n notice ports) s (fun s =>
    if h : notice < 64 then noticeRouteRule s ports ⟨notice, h⟩ else refuse s .range)

/-- NOTICE_FLUSH (R168). -/
def execNoticeFlush (n : Port) (s : State) : Outcome State Fault Refusal :=
  console n (.noticeFlush n) s (fun s => noticeFlushRule s n)

end Sys2Proof.Machine
end

