-- ==== Sys2Proof/Machine/ShowCommands.lean ====
section
/-! DEFINITION. The commands of running shows: arming, starting, GO, stopping, rewinding, clearing, the AFTER
timer, READ_SCREEN and BOOTH_SET (spec/05, spec/06). -/

namespace Sys2Proof.Machine

open Host (Outcome)

/-- The AFTER timer brought to the delay it has reached (R88, R102). -/
def ScreenRecord.afterReached (d : Nat) (r : ScreenRecord) : ScreenRecord :=
  { r with afterTimer := r.afterTimer.map (fun t => if t.value < d then .start d else t) }

/-- The AFTER timer of a screen has reached the delay of its next cue, which is then met (R102, R104). -/
def State.afterMet (s : State) (sc : Screen) : State :=
  match s.awaitedCue sc with
  | none => s
  | some x =>
    match (s.cue x).trigger with
    | .after d => (s.onScreen sc (ScreenRecord.afterReached d)).takeCue sc x
    | .frames _ | .mark _ _ | .go => s

/-- AFTER_TIMER_MET (R102). -/
def execAfterTimerMet (sc : Screen) (s : State) : Outcome State Fault Refusal := .next (s.afterMet sc)

/-- READ_SCREEN (R109). -/
def execReadScreen (n : Port) (sc : Nat) (s : State) : Outcome State Fault Refusal :=
  console n (.readScreen n sc) s (fun s => onNumber sc s (fun i => readRule s (screenBytes s i)))

/-- REEL_THREADED (R90, R91). -/
def execReelThreaded (n : Port) (sc reel : Nat) (s : State) : Outcome State Fault Refusal :=
  console n (.reelThreaded n sc reel) s (fun s =>
    onNumber sc s (fun i => onNumber reel s (reelThreadedRule s i)))

/-- SHOW_START (R96). -/
def execShowStart (n : Port) (sc : Nat) (s : State) : Outcome State Fault Refusal :=
  console n (.showStart n sc) s (fun s => onNumber sc s (showStartRule s))

/-- GO (R97). -/
def execGo (n : Port) (sc : Nat) (s : State) : Outcome State Fault Refusal :=
  console n (.go n sc) s (fun s => onNumber sc s (goRule s))

/-- SHOW_STOP (R98). -/
def execShowStop (n : Port) (sc : Nat) (s : State) : Outcome State Fault Refusal :=
  console n (.showStop n sc) s (fun s => onNumber sc s (showStopRule s))

/-- SHOW_REWIND (R99). -/
def execShowRewind (n : Port) (sc : Nat) (s : State) : Outcome State Fault Refusal :=
  console n (.showRewind n sc) s (fun s => onNumber sc s (showRewindRule s))

/-- SHOW_CLEAR (R100). -/
def execShowClear (n : Port) (sc gen : Nat) (s : State) : Outcome State Fault Refusal :=
  console n (.showClear n sc gen) s (fun s => onNumber sc s (fun i => showClearRule s i gen))

/-- BOOTH_SET (R101). -/
def execBoothSet (n : Port) (margin : Nat) (s : State) : Outcome State Fault Refusal :=
  console n (.boothSet n margin) s (fun s => boothSetRule s margin)

end Sys2Proof.Machine
end

