-- ==== Sys2Proof/Machine/Dispatch.lean ====
section
/-! DEFINITION. What each command does: one arm per row of spec/opcode_table.json. -/

namespace Sys2Proof.Machine

open Host (Outcome)

def exec (i : Instr) (s : State) : Host.Outcome State Fault Refusal :=
  match i with
  | .powerOn pins => Sys2Proof.Machine.execPowerOn pins s
  | .sprocketPulse p => Sys2Proof.Machine.execSprocketPulse p s
  | .slowStartTimeout p => Sys2Proof.Machine.execSlowStartTimeout p s
  | .silence p => Sys2Proof.Machine.execSilence p s
  | .slotStart => Sys2Proof.Machine.execSlotStart s
  | .replyReceived begun signal => Sys2Proof.Machine.execReplyReceived begun signal s
  | .replyWindowEnd => Sys2Proof.Machine.execReplyWindowEnd s
  | .changeoverBurstSent => Sys2Proof.Machine.execChangeoverBurstSent s
  | .tripBurstSent => Sys2Proof.Machine.execTripBurstSent s
  | .lineResetFrameSent => Sys2Proof.Machine.execLineResetFrameSent s
  | .strikeTimeout p => Sys2Proof.Machine.execStrikeTimeout p s
  | .holdTimeout p => Sys2Proof.Machine.execHoldTimeout p s
  | .feedStep p => Sys2Proof.Machine.execFeedStep p s
  | .afterTimerMet sc => Sys2Proof.Machine.execAfterTimerMet sc s
  | .mainsCrossing => Sys2Proof.Machine.execMainsCrossing s
  | .mainsOverrun => Sys2Proof.Machine.execMainsOverrun s
  | .dimmerFiring ch => Sys2Proof.Machine.execDimmerFiring ch s
  | .alarmChange level => Sys2Proof.Machine.execAlarmChange level s
  | .shutterLimitChange k level => Sys2Proof.Machine.execShutterLimitChange k level s
  | .shutterDropTimeout k => Sys2Proof.Machine.execShutterDropTimeout k s
  | .writeStrobe n byte => Sys2Proof.Machine.execWriteStrobe n byte s
  | .readStrobe strobe => Sys2Proof.Machine.execReadStrobe strobe s
  | .portClear n held => Sys2Proof.Machine.execPortClear n held s
  | .gapTimeout n => Sys2Proof.Machine.execGapTimeout n s
  | .ownerAnswer n => Sys2Proof.Machine.execOwnerAnswer n s
  | .readScreen n sc => Sys2Proof.Machine.execReadScreen n sc s
  | .readProjector n p => Sys2Proof.Machine.execReadProjector n p s
  | .readLamp n p => Sys2Proof.Machine.execReadLamp n p s
  | .readStation n p => Sys2Proof.Machine.execReadStation n p s
  | .readFire n => Sys2Proof.Machine.execReadFire n s
  | .readShutter n k => Sys2Proof.Machine.execReadShutter n k s
  | .readHouse n ch => Sys2Proof.Machine.execReadHouse n ch s
  | .readReel n sc reel => Sys2Proof.Machine.execReadReel n sc reel s
  | .readCue n x => Sys2Proof.Machine.execReadCue n x s
  | .readList n sc => Sys2Proof.Machine.execReadList n sc s
  | .cueNew n sc gen => Sys2Proof.Machine.execCueNew n sc gen s
  | .cueNewBefore n sc gen x => Sys2Proof.Machine.execCueNewBefore n sc gen x s
  | .cueNewAfter n sc gen x => Sys2Proof.Machine.execCueNewAfter n sc gen x s
  | .cueMoveBefore n sc gen x y => Sys2Proof.Machine.execCueMoveBefore n sc gen x y s
  | .cueMoveAfter n sc gen x y => Sys2Proof.Machine.execCueMoveAfter n sc gen x y s
  | .cueWrite n sc gen x cue => Sys2Proof.Machine.execCueWrite n sc gen x cue s
  | .cueFree n sc gen x => Sys2Proof.Machine.execCueFree n sc gen x s
  | .reelSet n sc gen reel length side => Sys2Proof.Machine.execReelSet n sc gen reel length side s
  | .reelThreaded n sc reel => Sys2Proof.Machine.execReelThreaded n sc reel s
  | .reelUnthread n sc reel => Sys2Proof.Machine.execReelUnthread n sc reel s
  | .showStart n sc => Sys2Proof.Machine.execShowStart n sc s
  | .go n sc => Sys2Proof.Machine.execGo n sc s
  | .showStop n sc => Sys2Proof.Machine.execShowStop n sc s
  | .showRewind n sc => Sys2Proof.Machine.execShowRewind n sc s
  | .showClear n sc gen => Sys2Proof.Machine.execShowClear n sc gen s
  | .projMotor n p a => Sys2Proof.Machine.execProjMotor n p a s
  | .projDouser n p a => Sys2Proof.Machine.execProjDouser n p a s
  | .lampStrike n p => Sys2Proof.Machine.execLampStrike n p s
  | .lampOff n p => Sys2Proof.Machine.execLampOff n p s
  | .lampSet n p fields => Sys2Proof.Machine.execLampSet n p fields s
  | .lampRecarbon n p length => Sys2Proof.Machine.execLampRecarbon n p length s
  | .houseFade n ch level time => Sys2Proof.Machine.execHouseFade n ch level time s
  | .fireTrip n => Sys2Proof.Machine.execFireTrip n s
  | .fireRearm n => Sys2Proof.Machine.execFireRearm n s
  | .shutterTest n k => Sys2Proof.Machine.execShutterTest n k s
  | .lineReset n => Sys2Proof.Machine.execLineReset n s
  | .boothSet n margin => Sys2Proof.Machine.execBoothSet n margin s
  | .noticeNext n => Sys2Proof.Machine.execNoticeNext n s
  | .noticeMask n hidden => Sys2Proof.Machine.execNoticeMask n hidden s
  | .noticeRoute n notice ports => Sys2Proof.Machine.execNoticeRoute n notice ports s
  | .noticeFlush n => Sys2Proof.Machine.execNoticeFlush n s
  | .sprocketSample p level => Sys2Proof.Machine.execSprocketSample p level s

end Sys2Proof.Machine
end

