-- ==== Sys2Proof/Safety.lean ====
section
/-! DEFINITION. The terms in which statements about the part are made: which blocks an act touches, and the laws
of the device that every step keeps. -/

namespace Sys2Proof.Machine

/-! ### Frames -/

/-- The blocks that own records (spec/00 section 1.3), and the pins. -/
inductive Block where
  | mu | lc | lu | su | hu | fu | pu | pins
  deriving DecidableEq, Repr

/-- From `s` to `t` at most the records of the listed blocks differ; the queue does not. -/
def onlyTouches (bs : List Block) (s t : State) : Prop :=
  (.mu ∉ bs → t.mu = s.mu) ∧ (.lc ∉ bs → t.lc = s.lc) ∧ (.lu ∉ bs → t.lu = s.lu) ∧ (.su ∉ bs → t.su = s.su)
    ∧ (.hu ∉ bs → t.hu = s.hu) ∧ (.fu ∉ bs → t.fu = s.fu) ∧ (.pu ∉ bs → t.pu = s.pu)
    ∧ (.pins ∉ bs → t.pins = s.pins) ∧ t.pending = s.pending

/-- The lamp records other than lamp `p`'s, and the lamp unit's trip, are unchanged. -/
def otherLampsKept (p : Projector) (s t : State) : Prop :=
  (∀ q, q ≠ p → t.lamp q = s.lamp q) ∧ t.lu.tripInForce = s.lu.tripInForce

/-- The motion records other than that of projector `p` are unchanged. -/
def otherMotionsKept (p : Projector) (s t : State) : Prop := ∀ q, q ≠ p → t.motion q = s.motion q

/-- The stations other than station `p`, and the rest of the line record, are unchanged. -/
def otherStationsKept (p : Projector) (s t : State) : Prop :=
  (∀ q, q ≠ p → t.station q = s.station q) ∧ t.lc = { s.lc with stations := t.lc.stations }

/-- Of the line record only the stations' records may differ. -/
def onlyStationsTouched (s t : State) : Prop := t.lc = { s.lc with stations := t.lc.stations }

/-- The shutters other than `k` are unchanged. -/
def otherShuttersKept (k : Shutter) (s t : State) : Prop := ∀ j, j ≠ k → t.shutter j = s.shutter j

/-- The ports other than `n`, the routes, the passed frames and the answers are unchanged. -/
def otherPortsKept (n : Port) (s t : State) : Prop :=
  (∀ m, m ≠ n → t.port m = s.port m) ∧ t.pu = { s.pu with ports := t.pu.ports }

/-- The screens other than `sc`, the projectors' roles and marks, and the show unit's own fields are unchanged. -/
def otherScreensKept (sc : Screen) (s t : State) : Prop :=
  (∀ c, c ≠ sc → t.screen c = s.screen c) ∧ t.su.roles = s.su.roles ∧ t.su.marks = s.su.marks
    ∧ t.su.tripInForce = s.su.tripInForce ∧ t.su.margin = s.su.margin

/-- `p` is not on the screen `sc`. -/
def feedsOther (sc : Screen) (p : Projector) : Prop := screenOf p ≠ sc

/-! ### Cues, and frames heard on the line -/

/-- A trigger that the film of the ON_SCREEN projector meets: FRAMES or MARK (R102). -/
def Trigger.ofFilm : Trigger → Bool
  | .frames _ | .mark _ _ => true
  | .after _ | .go => false

/-- A frame whose first transition comes `begun` us into the slot falls in the reply window of a poll to station `p`:
the poll has gone out by then and nothing has been heard, and the frame is begun within 400 us of the poll's last
cell, which goes out 872 us into the slot (R26). -/
def inWindow (p : Projector) (begun : Nat) (s : State) : Prop :=
  s.lc.pollSent.window = .opened p .awaiting ∧ 872 ≤ begun ∧ begun ≤ 1272

/-- A frame in the reply window of station `p` that is its good reply: it ends within the slot and reads as a REPLY with
the station's address, that toggle and that report (R26). -/
def heardReply (p : Projector) (begun : Nat) (signal : List Nat) (toggle : Bool) (report : Option Report)
    (s : State) : Prop :=
  inWindow p begun s ∧ begun + signalTime signal ≤ 5000 ∧ replyOf signal = some ⟨numberOf p, toggle, report⟩

/-! ### Laws of the device -/

/-- Each attention line is asserted exactly while the port's pending set holds a notice that its mask does not
hide (R166). -/
def State.attentionLaw (s : State) : Prop :=
  ∀ n, (s.port n).attention = ((s.port n).pendingSet &&& ~~~(s.port n).maskSet != 0)

/-- A port drives its data lines only while its direction line says read, and a turn of the line to write is to come only
while it says read (R158). -/
def PortRecord.dataLineLaw (r : PortRecord) : Prop :=
  r.direction = .write → r.driven = none ∧ r.untilWrite = none

def State.dataLineLaw (s : State) : Prop := ∀ n, (s.port n).dataLineLaw

/-- The two stations of a screen never both hold desired blade OPEN (R33). -/
def State.bladeLaw (s : State) : Prop :=
  ∀ sc, ¬ ((s.station (projectorOf sc .a)).desired.blade = .opened
    ∧ (s.station (projectorOf sc .b)).desired.blade = .opened)

/-- While a trip is in force at the line controller every desired state is safe (R34), every confirmation watch
is closed, and no changeover burst is queued or being sent (R34 to R36). -/
def State.lineTripLaw (s : State) : Prop :=
  s.lc.tripInForce = true →
    (∀ p, (s.station p).desired = ⟨.stop, .closed, .closed, .off⟩)
      ∧ (∀ sc, s.watch sc = .closed) ∧ (∀ b ∈ s.lc.burstQueue, b = .trip)
      ∧ ∀ sc side, s.lc.sending ≠ .burst (.changeover sc side)

/-- A projector's counter never exceeds the length last loaded on it (R6). -/
def State.counterBound (s : State) : Prop := ∀ p, (s.motion p).framesRemaining ≤ (s.motion p).loadedLength

/-- Projector `p` holds a LOADED or RUNNING reel: an entry of its screen on its side stands so (R82, R89). -/
def State.holdsReel (s : State) (p : Projector) : Prop :=
  ∃ r, (s.reel (screenOf p) r).isAt .loaded (sideOf p) = true ∨ (s.reel (screenOf p) r).isAt .running (sideOf p) = true

/-- A projector that holds no LOADED or RUNNING reel has its counter at 0 (R6). -/
def State.counterFollowsReel (s : State) : Prop := ∀ p, ¬ s.holdsReel p → (s.motion p).framesRemaining = 0

/-- The law of the counters: each within the length last loaded, and 0 with no reel held (R6). -/
def State.counterLaw (s : State) : Prop := s.counterBound ∧ s.counterFollowsReel

/-- Each of the 128 cue records is in exactly one of the five lists (R69). -/
def State.poolLaw (s : State) : Prop :=
  (s.su.free ++ (List.finRange 4).flatMap (fun sc => (s.screen sc).list)).Perm (List.finRange 128)

/-- The AFTER timer of a screen runs exactly while the screen is DARK, RUNNING or WAITING (R88). -/
def State.afterLaw (s : State) : Prop :=
  ∀ sc, (s.screen sc).afterTimer.isSome = true ↔
    ((s.screen sc).state = .dark ∨ (s.screen sc).state = .running ∨ (s.screen sc).state = .waiting)

/-- ARMED, STARTING and STANDBY are held only with the projection shutter OPEN and the station PRESENT (R95). -/
def State.armedLaw (s : State) : Prop :=
  ∀ p, (s.role p = .armed ∨ s.role p = .starting ∨ s.role p = .standby) →
    (s.shutter (portShutter p)).state = .opened ∧ (s.station p).presence = .present

/-- A channel with no fade running stands at its target with step 0, and a running fade has its target still
ahead of it (R131, R134). -/
def HouseChannel.fadeLaw (c : HouseChannel) : Prop :=
  match c.direction with
  | .none => c.step = 0 ∧ c.fine = c.target * 256
  | .up => c.fine < c.target * 256
  | .down => c.target * 256 < c.fine

def State.houseLaw (s : State) : Prop := ∀ ch, (s.channel ch).fadeLaw

/-- A channel whose override is ON, as it is throughout a trip, stands at full with target 255 and no fade running
(R136). -/
def HouseChannel.fullLaw (c : HouseChannel) : Prop :=
  c.override = .on → c.fine = 65280 ∧ c.target = 255 ∧ c.direction = .none

def State.fullLaw (s : State) : Prop := ∀ ch, (s.channel ch).fullLaw

/-- While the booth is CLEAR every hold is energized but that of the shutter under test; from a trip to its
rearm every hold is released and no shutter is under test (R143, R148, R150 to R152). -/
def State.holdLaw (s : State) : Prop :=
  match s.fu.state with
  | .clear => ∀ k, (s.shutter k).hold = if s.fu.underTest = some k then .released else .energized
  | .tripped => s.fu.underTest = none ∧ ∀ k, (s.shutter k).hold = .released
  | .shut => s.fu.underTest = none ∧ ∀ k, (s.shutter k).hold = .released

/-- Every block holds the trip in force exactly while the fire state is not CLEAR (R34, R35, R62, R63, R107,
R108, R136, R137, R143, R148). -/
def State.tripLaw (s : State) : Prop :=
  (s.lc.tripInForce = true ↔ s.fu.state ≠ .clear) ∧ (s.lu.tripInForce = true ↔ s.fu.state ≠ .clear)
    ∧ (s.su.tripInForce = true ↔ s.fu.state ≠ .clear)
    ∧ ∀ ch, (s.channel ch).override = .on ↔ s.fu.state ≠ .clear

/-- Every lamp's feed stays within its bound and runs only in a BURNING lamp with carbon left, its timer running
exactly while the rate is not 0; its carbon stays within 12,000 steps; and the strike timer runs only while STRIKING
(R48, R52, R54 to R57). -/
def Lamp.feedLaw (l : Lamp) : Prop :=
  l.feedRate ≤ l.fmax ∧ (l.state ≠ .burning → l.feedRate = 0) ∧ (l.carbon = 0 → l.feedRate = 0)
    ∧ (l.feedTimer.isSome = true ↔ 0 < l.feedRate) ∧ l.carbon ≤ 12000
    ∧ (l.strikeTimer.isSome = true → l.state = .striking)

/-- The feed law of every lamp; and a hold timer runs only for a BURNING lamp whose station is not PRESENT (R59). -/
def State.lampLaw (s : State) : Prop :=
  ∀ p, (s.lamp p).feedLaw
    ∧ ((s.lamp p).holdTimer.isSome = true → (s.lamp p).state = .burning ∧ (s.station p).presence ≠ .present)

/-! ### Acts in a row, and what they leave -/

open Host (Outcome)

/-- Commands carried out one after another, up to the first that stops. -/
def execAll : List Instr → State → Outcome State Fault Refusal
  | [], s => .next s
  | c :: rest, s =>
    match exec c s with
    | .next t => execAll rest t
    | .fault r => .fault r
    | .refused r => .refused r

/-- Notice `k` stands pending in `t` on every port of the route entry it had in `s` (R165). -/
def noticed (k : Notice) (s t : State) : Prop :=
  ∀ n, (s.route k).getLsbD n.val = true → (t.port n).pendingSet.getLsbD k.val = true

/-- The booth made safe by a trip with cause `c`, from `s` to `t`: what R143 and the blocks' own rules of the trip
leave (R34, R62, R107, R136). A shutter's trip state follows its limit, as accepted in `t`, and the state it had. -/
def madeSafe (c : Cause) (s t : State) : Prop :=
  t.fu.causes = [c] ∧ t.fu.underTest = none
    ∧ (∀ k, (t.shutter k).hold = .released)
    ∧ (∀ k, (t.shutter k).limit = .active → (t.shutter k).state = .closed ∧ (t.shutter k).dropTimer = none)
    ∧ (∀ k, (t.shutter k).limit = .inactive →
        ((s.shutter k).state = .opened ∨ (s.shutter k).state = .raising ∨ (s.shutter k).state = .dropping) →
        (t.shutter k).state = .dropping ∧ (t.shutter k).dropTimer = some ⟨1500, 0⟩)
    ∧ (∀ k, (t.shutter k).limit = .inactive → (s.shutter k).state = .jammed → (t.shutter k).state = .jammed)
    ∧ t.fu.state = (if (∀ k, (t.shutter k).state = .closed ∨ (t.shutter k).state = .jammed) then .shut else .tripped)
    ∧ t.lc.tripInForce = true ∧ t.lc.burstQueue = [.trip]
    ∧ (∀ p, (t.station p).desired = ⟨.stop, .closed, .closed, .off⟩) ∧ (∀ sc, t.watch sc = .closed)
    ∧ (∀ p, (s.station p).desired.motor = .run → (t.motion p).gate = .closed)
    ∧ t.lu.tripInForce = true ∧ (∀ p, (t.lamp p).state = .cold)
    ∧ t.su.tripInForce = true ∧ (∀ p, t.role p = .idle) ∧ (∀ p, (t.motion p).framesRemaining = 0)
    ∧ (∀ sc, (t.screen sc).state ≠ .dark ∧ (t.screen sc).state ≠ .running ∧ (t.screen sc).state ≠ .waiting)
    ∧ (∀ ch, (t.channel ch).override = .on ∧ (t.channel ch).fine = 65280 ∧ (t.channel ch).target = 255
        ∧ (t.channel ch).direction = .none)
    ∧ noticed noticeFireTrip s t

end Sys2Proof.Machine
end

