-- ==== Sys2Proof/Certificates/Slice0/Obligations.lean ====
section
/-! DEFINITION. The statements for the provers, from the spec's rules file by file. -/

section statements

open Sys2Proof Sys2Proof.Machine

/-! ### The machine as a whole -/

/-- A step takes the command at the front of the queue and runs it with the queue's rest. -/
def Obligations.StepTakesTheFrontCommand : Prop :=
  ∀ (c : Instr) (rest : List Instr) (s : State),
    s.pending = c :: rest → step s = exec c { s with pending := rest }

/-- No command stops the block, and none but the step itself touches the queue of waiting commands: every outcome is
a next state with the queue it found. That POWER_ON keeps the queue is the model's choice: log 31. -/
def Obligations.EveryCommandIsTaken : Prop :=
  ∀ (c : Instr) (s : State), ∃ t, exec c s = .next t ∧ t.pending = s.pending

/-- The model's clock (DESIGN CHOICE, logs 1, 10, 13, 16, 17, 21, 25 and 27): on an empty queue the frames passed to
owners and the answers under way are handed over first; with none of them one microsecond passes. Every timer
and running count then moves by it, a port's direction line turns to write where its unit turns it, and the port
then drives nothing (log 17), a poll whose last cell goes out opens its reply window, the inputs are sampled
every 50 us, nothing else of a record changes, and the events then due are queued: each timer's running out, the
frames of the line sent, the window's end, the slot, and what the third sample of an input accepts. A crossing
at that same microsecond leaves no overrun and no firing of the half-cycle it ends. A reply window has ended
once its frame is judged, or at the slot's end (log 13); the AFTER timer of a held CHANGE is due no more (log
10); the clock queues samples of the sprocket inputs and never a pulse of its own (logs 21 and 37), nor any
command but the events named. -/
def Obligations.IdleStepLetsTheClockRun : Prop :=
  ∀ s : State, s.pending = [] →
    (¬ (s.pu.passed = [] ∧ s.pu.answers = []) →
      step s = .next { s with
        pending := s.pu.passed.map (fun f => f.command) ++ s.pu.answers.map (fun a => .ownerAnswer a.port) })
    ∧ (s.pu.passed = [] → s.pu.answers = [] → ∃ t, step s = .next t
        ∧ (let sampled := t.pins.sinceSample = 0
           let crosses := sampled ∧ s.pins.zeroCross ≠ s.hu.mains.accepted ∧ 2 ≤ s.hu.mains.sampleRun
           let run (same : Bool) (k : Nat) : Nat :=
            if t.pins.sinceSample ≠ 0 then k else if same then 0 else if k < 2 then k + 1 else k
           t.pins = { s.pins with sinceSample := if 50 ≤ s.pins.sinceSample + 1 then 0 else s.pins.sinceSample + 1 }
            ∧ (∀ p, t.motion p = { s.motion p with
                runningCount := if (s.motion p).gate = .opened ∧ (s.motion p).phase ≠ .awaiting then
                    (s.motion p).runningCount.up 100 2500 else (s.motion p).runningCount
                slowStart := (s.motion p).slowStart.map (Timer.down 100000) })
            ∧ (∀ p, t.lamp p = { s.lamp p with
                strikeTimer := (s.lamp p).strikeTimer.map (Timer.down 100000)
                holdTimer := (s.lamp p).holdTimer.map (Timer.down 100000)
                feedTimer := (s.lamp p).feedTimer.map (fun x => { x with counter := x.counter.down 100 })
                stepPulse := (s.lamp p).stepPulse - 1 })
            ∧ (∀ sc, t.screen sc = { s.screen sc with
                afterTimer := (s.screen sc).afterTimer.map (Timer.up 100000 6000) })
            ∧ t.hu.mains = { s.hu.mains with
                runningCount := if s.hu.mains.phase = .timing then min (s.hu.mains.runningCount + 1) 12000
                  else s.hu.mains.runningCount
                sampleRun := run (s.pins.zeroCross = s.hu.mains.accepted) s.hu.mains.sampleRun }
            ∧ (∀ ch, t.channel ch = { s.channel ch with
                firing := (s.channel ch).firing.map (fun k => k - 1), pulse := (s.channel ch).pulse - 1 })
            ∧ (∀ k, t.shutter k = { s.shutter k with
                dropTimer := (s.shutter k).dropTimer.map (Timer.down 1000)
                sampleRun := run (s.pins.limits[k] = (s.shutter k).limit) (s.shutter k).sampleRun })
            ∧ (∀ n, let r := s.port n
                let left := r.untilWrite.map (fun k => k - 1)
                let turns : Prop := left = some 0
                t.port n = { r with
                  gapTimer := r.gapTimer.map (Timer.down 1000)
                  direction := if turns then .write else r.direction
                  untilWrite := if turns then none else left
                  driven := if turns then none else r.driven })
            ∧ (∀ q d, s.lc.sending = .poll q d → s.lc.untilSlot ≤ 4129 →
                t.lc.sending = .nothing ∧ t.lc.window = .opened q .awaiting)
            ∧ ((∀ q d, s.lc.sending = .poll q d → 4129 < s.lc.untilSlot) →
                t.lc.sending = s.lc.sending ∧ t.lc.window = s.lc.window)
            ∧ t.lc = { s.lc with
                untilSlot := s.lc.untilSlot - 1, sending := t.lc.sending, window := t.lc.window }
            ∧ t.lu = { s.lu with lamps := t.lu.lamps } ∧ t.su = { s.su with screens := t.su.screens }
            ∧ t.fu = { s.fu with
                alarmRun := run (s.pins.alarm = s.fu.alarm) s.fu.alarmRun, shutters := t.fu.shutters }
            ∧ t.pu = { s.pu with ports := t.pu.ports }
            ∧ (∀ p, (.silence p ∈ t.pending ↔ (s.motion p).gate = .opened ∧ (s.motion p).phase ≠ .awaiting
                  ∧ 2500 ≤ (t.motion p).runningCount.value)
                ∧ (.slowStartTimeout p ∈ t.pending ↔ ∃ x, (t.motion p).slowStart = some x ∧ x.value = 0)
                ∧ (.strikeTimeout p ∈ t.pending ↔ ∃ x, (t.lamp p).strikeTimer = some x ∧ x.value = 0)
                ∧ (.holdTimeout p ∈ t.pending ↔ ∃ x, (t.lamp p).holdTimer = some x ∧ x.value = 0)
                ∧ (.feedStep p ∈ t.pending ↔ ∃ x, (t.lamp p).feedTimer = some x ∧ x.counter.value = 0)
                ∧ (∀ level, (.sprocketSample p level ∈ t.pending ↔ sampled ∧ level = s.pins.sprocket[p])))
            ∧ (.changeoverBurstSent ∈ t.pending ↔
                (∃ sc side, s.lc.sending = .burst (.changeover sc side)) ∧ s.lc.untilSlot ≤ 4121)
            ∧ (.tripBurstSent ∈ t.pending ↔ s.lc.sending = .burst .trip ∧ s.lc.untilSlot ≤ 4121)
            ∧ (.lineResetFrameSent ∈ t.pending ↔ s.lc.sending = .lineReset ∧ s.lc.untilSlot ≤ 4233)
            ∧ (.replyWindowEnd ∈ t.pending ↔
                t.lc.window ≠ .closed ∧ ((∀ q, t.lc.window ≠ .opened q .awaiting) ∨ s.lc.untilSlot ≤ 1))
            ∧ (.slotStart ∈ t.pending ↔ s.lc.untilSlot ≤ 1)
            ∧ (∀ sc, (.afterTimerMet sc ∈ t.pending ↔ (s.screen sc).state.performing = true
                ∧ (s.screen sc).changeHeld = false ∧ ∃ x, (s.screen sc).next = some x
                ∧ ∃ y, (t.screen sc).afterTimer = some y ∧ ∃ d, (s.cue x).trigger = .after d ∧ d ≤ y.value))
            ∧ (.mainsCrossing ∈ t.pending ↔ crosses)
            ∧ (.mainsOverrun ∈ t.pending ↔
                s.hu.mains.phase = .timing ∧ 12000 ≤ t.hu.mains.runningCount ∧ ¬ crosses)
            ∧ (∀ ch, (.dimmerFiring ch ∈ t.pending ↔ (t.channel ch).firing = some 0 ∧ ¬ crosses))
            ∧ (∀ level, (.alarmChange level ∈ t.pending ↔
                sampled ∧ level = s.pins.alarm ∧ level ≠ s.fu.alarm ∧ 2 ≤ s.fu.alarmRun))
            ∧ (∀ k, (.shutterDropTimeout k ∈ t.pending ↔ ∃ x, (t.shutter k).dropTimer = some x ∧ x.value = 0)
                ∧ ∀ level, (.shutterLimitChange k level ∈ t.pending ↔ sampled ∧ level = s.pins.limits[k]
                  ∧ level ≠ (s.shutter k).limit ∧ 2 ≤ (s.shutter k).sampleRun))
            ∧ (∀ n, (.gapTimeout n ∈ t.pending ↔ ∃ x, (t.port n).gapTimer = some x ∧ x.value = 0))
            ∧ (∀ c ∈ t.pending,
                (∃ p : Projector, c = .silence p ∨ c = .slowStartTimeout p ∨ c = .strikeTimeout p ∨ c = .holdTimeout p
                    ∨ c = .feedStep p ∨ c = .sprocketSample p s.pins.sprocket[p])
                  ∨ (∃ sc : Screen, c = .afterTimerMet sc ∨ c = .dimmerFiring sc)
                  ∨ (∃ k : Shutter, c = .shutterDropTimeout k ∨ c = .shutterLimitChange k s.pins.limits[k])
                  ∨ (∃ n : Port, c = .gapTimeout n)
                  ∨ c = .alarmChange s.pins.alarm ∨ c = .changeoverBurstSent ∨ c = .tripBurstSent
                  ∨ c = .lineResetFrameSent ∨ c = .replyWindowEnd ∨ c = .slotStart ∨ c = .mainsCrossing
                  ∨ c = .mainsOverrun)))

/-- POWER_ON leaves every record at its power-on value: the booth tripped with cause POWER_ON (and ALARM_LINE if the
alarm is active at its first sample), each shutter by its limit, SHUT at once if all twelve are down, every
other block at its tripped value, each port's rights from its straps, and FIRE_TRIP pending on every port. That
the waiting commands stay, the inputs taken LOW, the first slot and sampling moments, the outputs of feed step
and firing, and the clear and direction lines, driven byte, acknowledge and waiting read of each port are the
model's choice: logs 4, 15, 31, 35 and 36. -/
def Obligations.PowerOnSetsEveryRecord : Prop :=
  ∀ (pins : PowerOnPins) (s : State), ∃ t, exec (.powerOn pins) s = .next t ∧ t.pending = s.pending
    ∧ t.fu.state = (if (∀ k : Shutter, pins.limits[k] = .active) then .shut else .tripped)
    ∧ t.fu.causes = (if pins.alarm = .active then [.powerOn, .alarmLine] else [.powerOn])
    ∧ t.fu.underTest = none ∧ t.fu.alarm = pins.alarm ∧ t.fu.alarmRun = 0
    ∧ (∀ k : Shutter, t.shutter k =
        (if pins.limits[k] = .active then ⟨.closed, .released, .active, 0, none, .none⟩
          else ⟨.dropping, .released, .inactive, 0, some ⟨1500, 0⟩, .none⟩))
    ∧ t.lc.tripInForce = true ∧ t.lc.resetPending = true ∧ t.lc.burstQueue = [] ∧ t.lc.position = 0
    ∧ t.lc.untilSlot = 1 ∧ t.lc.sending = .nothing ∧ t.lc.window = .closed
    ∧ (∀ p, t.station p = ⟨.absent, 0, 0, 0, false, none, false, ⟨.stop, .closed, .closed, .off⟩⟩)
    ∧ (∀ sc, t.watch sc = .closed)
    ∧ (∀ p, t.motion p =
        ⟨.low, 0, .closed, 0, 0, none, .awaiting, ⟨0, 0⟩, 0, false, 0, 0, .stopped, none, false, .none⟩)
    ∧ t.lu.tripInForce = true
    ∧ (∀ p, t.lamp p = ⟨.cold, 540, 800, 220, 15, 600, 600, 0, 0, none, 0, 0, none, none, .none, false, .none, 0⟩)
    ∧ t.su.tripInForce = true ∧ t.su.margin = 2880 ∧ t.su.free = List.finRange 128
    ∧ (∀ x, t.cue x = ⟨0, .end_, .go, .pending⟩) ∧ (∀ p, t.role p = .idle ∧ t.mark p = none)
    ∧ (∀ sc, t.screen sc = ⟨[], 0, Vector.replicate 12 .empty, .idle, none, none, false, false,
        ⟨.none, none, none, none, false, false⟩⟩)
    ∧ t.hu.mains = ⟨.low, 0, .awaiting, 0, 0, 10000, 0, .invalid⟩
    ∧ (∀ ch, t.channel ch = ⟨65280, 255, 0, .none, .on, none, none, 0⟩)
    ∧ (∀ n, t.port n = ⟨.idle, none, none, [], 0, none, none, 0, none, false, pins.straps[n].safety,
      pins.straps[n].setup,
        1 ||| (if pins.alarm = .active then 512 else 0) ||| (if (∀ k : Shutter, pins.limits[k] = .active) then 2
          else 0),
        0, true, 0, false, false, .write, none, none, false⟩)
    ∧ t.pu.passed = [] ∧ t.pu.answers = []
    ∧ t.pins = ⟨Vector.replicate 8 .low, .low, pins.alarm, pins.limits, 0⟩
    ∧ (∀ k, t.route k = 7)

/-- The state after reset meets every law of the device, and is what POWER_ON makes of the pins the model takes at
reset (DESIGN CHOICE, log 4). -/
def Obligations.ResetMeetsTheLaws : Prop :=
  exec (.powerOn resetPins) State.reset = .next State.reset
    ∧ State.reset.attentionLaw ∧ State.reset.dataLineLaw ∧ State.reset.bladeLaw ∧ State.reset.lineTripLaw
      ∧ State.reset.counterLaw
    ∧ State.reset.poolLaw ∧ State.reset.afterLaw ∧ State.reset.armedLaw ∧ State.reset.houseLaw
      ∧ State.reset.fullLaw ∧ State.reset.holdLaw
    ∧ State.reset.tripLaw ∧ State.reset.lampLaw

/-! ### Reading -/

/-- The ten READ commands answer OK with the bytes of the record they name, and change no record: nothing but the
answer set out differs afterwards. The layouts of READ_REEL and READ_LIST are the model's reading: log 20. That
unused bits and the polls left of a CONFIRMED watch station are sent 0 is the model's choice: log 34. -/
def Obligations.ReadsAnswerAndChangeNothing : Prop :=
  ∀ (n : Port) (s : State),
    (∀ sc : Screen, exec (.readScreen n (numberOf sc)) s =
        .next (s.answer n (.readScreen n (numberOf sc)) .ok (screenBytes s sc)))
    ∧ (∀ p : Projector, exec (.readProjector n (numberOf p)) s =
        .next (s.answer n (.readProjector n (numberOf p)) .ok (projectorBytes s p)))
    ∧ (∀ p : Projector, exec (.readLamp n (numberOf p)) s =
        .next (s.answer n (.readLamp n (numberOf p)) .ok (lampBytes s p)))
    ∧ (∀ p : Projector, exec (.readStation n (numberOf p)) s =
        .next (s.answer n (.readStation n (numberOf p)) .ok (stationBytes s p)))
    ∧ exec (.readStation n 0) s = .next (s.answer n (.readStation n 0) .ok (lineBytes s))
    ∧ exec (.readFire n) s = .next (s.answer n (.readFire n) .ok (fireBytes s))
    ∧ (∀ k : Shutter, exec (.readShutter n (numberOf k)) s =
        .next (s.answer n (.readShutter n (numberOf k)) .ok (shutterBytes s k)))
    ∧ (∀ ch : Channel, exec (.readHouse n (numberOf ch)) s =
        .next (s.answer n (.readHouse n (numberOf ch)) .ok (channelBytes s ch)))
    ∧ exec (.readHouse n 0) s = .next (s.answer n (.readHouse n 0) .ok (mainsBytes s))
    ∧ (∀ (sc : Screen) (r : ReelIx), exec (.readReel n (numberOf sc) (numberOf r)) s =
        .next (s.answer n (.readReel n (numberOf sc) (numberOf r)) .ok (reelBytes s sc r)))
    ∧ (∀ x : CueIx, exec (.readCue n x.val) s = .next (s.answer n (.readCue n x.val) .ok (cueBytes s x)))
    ∧ (∀ sc : Screen, exec (.readList n (numberOf sc)) s =
        .next (s.answer n (.readList n (numberOf sc)) .ok (listBytes (s.screen sc).list (s.screen sc).generation)))
    ∧ exec (.readList n 0) s = .next (s.answer n (.readList n 0) .ok (listBytes s.su.free 0))
    ∧ (∀ sc p k, (screenBytes s sc).length = 18 ∧ (projectorBytes s p).length = 17 ∧ (lampBytes s p).length = 32
        ∧ (stationBytes s p).length = 22 ∧ (shutterBytes s k).length = 7)

/-! ### Laws that every step keeps -/

/-- Every step keeps each port's attention line asserted exactly while its pending set holds a notice its mask does
not hide; and it keeps each port driving its data lines only while its direction line says read. -/
def Obligations.EveryStepKeepsThePortLaws : Prop :=
  ∀ s t : State, step s = .next t → (s.attentionLaw → t.attentionLaw) ∧ (s.dataLineLaw → t.dataLineLaw)

/-- Every step keeps the two blades of a screen from both being desired OPEN; and it keeps the line safe through a
trip: every desired state safe, every watch closed and no changeover burst queued or being sent while the trip
is in force. -/
def Obligations.EveryStepKeepsTheLineLaws : Prop :=
  ∀ s t : State, step s = .next t → (s.bladeLaw → t.bladeLaw) ∧ (s.lineTripLaw → t.lineTripLaw)

/-- Every step keeps a projector's counter within the length last loaded on it, and at 0 while the projector holds
no LOADED or RUNNING reel; and it keeps every lamp's feed within its bound, running only in a BURNING lamp with
carbon left, with its timer running exactly while the rate is not 0. -/
def Obligations.EveryStepKeepsTheProjectorLaws : Prop :=
  ∀ s t : State, step s = .next t → (s.counterLaw → t.counterLaw) ∧ (s.lampLaw → t.lampLaw)

/-- Every step keeps each cue record in exactly one of the five lists, the AFTER timer running exactly on a
performing screen, and ARMED, STARTING and STANDBY held only with the projection shutter OPEN and the station
PRESENT. -/
def Obligations.EveryStepKeepsTheShowLaws : Prop :=
  ∀ s t : State, step s = .next t →
    (s.poolLaw → t.poolLaw) ∧ (s.afterLaw → t.afterLaw) ∧ (s.armedLaw → t.armedLaw)

/-- Every step keeps a running fade's target ahead of it, and a channel with no fade at its target with step 0; it
keeps every channel whose override is ON, as it is throughout a trip, at full with target 255; it keeps the
holds as the fire state has them, all energized in CLEAR but for the shutter under test and all released in a
trip; and it keeps the trip in force in every block exactly while the fire state is not CLEAR. -/
def Obligations.EveryStepKeepsTheHouseAndTripLaws : Prop :=
  ∀ s t : State, step s = .next t →
    (s.houseLaw → t.houseLaw) ∧ (s.fullLaw → t.fullLaw) ∧ (s.holdLaw → t.holdLaw) ∧ (s.tripLaw → t.tripLaw)

/-! ### Film motion (spec/01) -/

/-- A pulse taken while the gate is OPEN falls the counter by one (0 stays 0), tests the watch, and advances the
period record by its phase; loaded length and gate keep their values, and no other projector's record changes.
(The reel does not end with it, and the watch of a projector on screen is not reached by it: those pulses have
statements of their own.) That the pulse leaves the accepted level HIGH is the model's reading: log 21. -/
def Obligations.PulseIsCountedAndTimed : Prop :=
  ∀ (p : Projector) (s : State), (s.motion p).gate = .opened → (s.motion p).framesRemaining ≠ 1 →
    (∀ w, (s.motion p).watch = some w → s.role p = .onScreen →
      (s.motion p).framesRemaining = 0 ∨ w < (s.motion p).framesRemaining - 1) →
    ∃ t, exec (.sprocketPulse p) s = .next t
      ∧ (t.motion p).accepted = .high ∧ (t.motion p).sampleRun = 0
      ∧ (t.motion p).framesRemaining = (s.motion p).framesRemaining - 1
      ∧ (t.motion p).loadedLength = (s.motion p).loadedLength ∧ (t.motion p).gate = .opened
      ∧ (t.motion p).watch =
          (match (s.motion p).watch with
            | some w =>
              if (s.motion p).framesRemaining ≠ 0 ∧ (s.motion p).framesRemaining - 1 ≤ w then none else some w
            | none => none)
      ∧ (t.motion p).runningCount = ⟨0, 0⟩
      ∧ ((s.motion p).phase = .awaiting →
          (t.motion p).phase = .discarding ∧ (t.motion p).lastPeriod = (s.motion p).lastPeriod
            ∧ (t.motion p).periodCurrent = (s.motion p).periodCurrent
            ∧ (t.motion p).speed = if (s.motion p).speed = .stopped then .runningUp else (s.motion p).speed)
      ∧ ((s.motion p).phase = .discarding →
          (t.motion p).phase = .judging ∧ (t.motion p).lastPeriod = (s.motion p).lastPeriod
            ∧ (t.motion p).periodCurrent = (s.motion p).periodCurrent ∧ (t.motion p).speed = (s.motion p).speed)
      ∧ ((s.motion p).phase = .judging →
          (t.motion p).phase = .judging ∧ (t.motion p).lastPeriod = (s.motion p).runningCount.value
            ∧ (t.motion p).periodCurrent = true)
      ∧ otherMotionsKept p s t ∧ onlyTouches [.mu, .lc, .su, .pu, .pins] s t
      ∧ ((s.motion p).phase ≠ .judging → onlyTouches [.mu, .pins] s t)

/-- A period judged: in-band is 409 to 425. Three in a row prove speed from RUNNING_UP or OFF_SPEED, two out-of-band
in a row lose it with PROJECTOR_ATTENTION, and the show unit moves STARTING to STANDBY (asking douser OPEN where
the lamp is BURNING) and STANDBY back to STARTING. (The reel does not end with the pulse, and the watch of a
projector on screen is not reached by it.) -/
def Obligations.SpeedStatesFollowThePeriods : Prop :=
  ∀ (p : Projector) (s : State), (s.motion p).gate = .opened → (s.motion p).framesRemaining ≠ 1 →
    (∀ w, (s.motion p).watch = some w → s.role p = .onScreen →
      (s.motion p).framesRemaining = 0 ∨ w < (s.motion p).framesRemaining - 1) →
    (s.motion p).phase = .judging → (s.motion p).speed ≠ .stopped →
    ∃ t, exec (.sprocketPulse p) s = .next t
      ∧ (let d := (s.motion p).runningCount.value
         let inside := 409 ≤ d ∧ d ≤ 425
         let m := s.motion p
         let u := t.motion p
         (m.speed ≠ .atSpeed → ¬ inside → u.inBandRun = 0 ∧ u.speed = m.speed ∧ u.outOfBandRun = m.outOfBandRun)
          ∧ (m.speed ≠ .atSpeed → inside → m.inBandRun < 2 → u.inBandRun = m.inBandRun + 1 ∧ u.speed = m.speed)
          ∧ (m.speed ≠ .atSpeed → inside → 2 ≤ m.inBandRun →
              u.speed = .atSpeed ∧ u.inBandRun = 0 ∧ u.outOfBandRun = 0 ∧ u.reachedSpeed = true ∧ u.slowStart = none
                ∧ t.role p = (if s.role p = .starting then .standby else s.role p)
                ∧ (s.role p = .starting → (s.lamp p).state = .burning → s.lc.tripInForce = false →
                    (t.station p).desired.douser = .opened))
          ∧ (m.speed = .atSpeed → inside → u.outOfBandRun = 0 ∧ u.speed = .atSpeed)
          ∧ (m.speed = .atSpeed → ¬ inside → m.outOfBandRun = 0 → u.outOfBandRun = 1 ∧ u.speed = .atSpeed)
          ∧ (m.speed = .atSpeed → ¬ inside → 1 ≤ m.outOfBandRun →
              u.speed = .offSpeed ∧ u.inBandRun = 0 ∧ u.outOfBandRun = 0 ∧ u.cause = .offSpeed
                ∧ noticed (noticeProjectorAttention p) s t
                ∧ t.role p = (if s.role p = .standby then .starting else s.role p))
          ∧ (u.speed = m.speed → onlyTouches [.mu, .pins] s t))
      ∧ (∀ q, q ≠ p → t.role q = s.role q ∧ t.motion q = s.motion q ∧ t.station q = s.station q)

/-- One 50 us sample of a sprocket input: agreeing with the accepted level it clears the run, differing it raises
the run, and the third in a row that differs is accepted. An acceptance of HIGH is an accepted pulse, which is
counted and timed as any pulse; an acceptance of LOW is none; and a pulse that comes while the gate is CLOSED
changes nothing of the film's record. That SPROCKET_PULSE is taken whatever the accepted level was is the
model's reading: log 21. That a sample given by a sender is one of the three is the model's choice: log 37. -/
def Obligations.SprocketFilterTakesTheThirdSample : Prop :=
  ∀ (p : Projector) (level : Level) (s : State),
    ((s.motion p).accepted = level → ∃ t, exec (.sprocketSample p level) s = .next t
        ∧ t.motion p = { s.motion p with sampleRun := 0 } ∧ otherMotionsKept p s t ∧ onlyTouches [.mu, .pins] s t)
    ∧ ((s.motion p).accepted ≠ level → (s.motion p).sampleRun < 2 → ∃ t, exec (.sprocketSample p level) s = .next t
        ∧ t.motion p = { s.motion p with sampleRun := (s.motion p).sampleRun + 1 } ∧ otherMotionsKept p s t
        ∧ onlyTouches [.mu, .pins] s t)
    ∧ ((s.motion p).accepted = .high → level = .low → 2 ≤ (s.motion p).sampleRun →
        ∃ t, exec (.sprocketSample p level) s = .next t
        ∧ t.motion p = { s.motion p with accepted := .low, sampleRun := 0 } ∧ otherMotionsKept p s t
        ∧ onlyTouches [.mu, .pins] s t)
    ∧ ((s.motion p).accepted = .low → level = .high → 2 ≤ (s.motion p).sampleRun →
        exec (.sprocketSample p level) s = exec (.sprocketPulse p) s)
    ∧ ((s.motion p).gate = .closed → ∃ t, exec (.sprocketPulse p) s = .next t
        ∧ t.motion p = { s.motion p with accepted := .high, sampleRun := 0 } ∧ otherMotionsKept p s t
        ∧ onlyTouches [.mu, .pins] s t)

/-- The pulse that takes the counter from 1 to 0 is a run-out, acted on by the projector's role: ON_SCREEN is made
safe, its lamp put out, its reel DONE and its screen DARK; TAIL only stops; a projector that never reached the
screen is stopped with PROJECTOR_ATTENTION. (No cue waits for the watch of a projector on screen: a cue that
does is taken first, and has a statement of its own.) -/
def Obligations.RunOutIsActedOnByRole : Prop :=
  ∀ (p : Projector) (s : State), (s.motion p).gate = .opened → (s.motion p).framesRemaining = 1 →
    ((s.motion p).watch = none ∨ s.role p ≠ .onScreen
      ∨ ∀ x, (s.screen (screenOf p)).next = some x → (s.cue x).trigger.ofFilm = false) →
    ∃ t, exec (.sprocketPulse p) s = .next t ∧ t.role p = .idle ∧ (t.motion p).framesRemaining = 0
      ∧ (s.role p ≠ .idle → (t.station p).desired.motor = .stop)
      ∧ (s.role p = .onScreen →
          (t.station p).desired.douser = .closed ∧ (t.station p).desired.blade = .closed ∧ (t.lamp p).state = .cold
            ∧ ((s.lamp p).state ≠ .cold → (t.lamp p).feedRate = 0 ∧ (t.station p).desired.arc = .off)
            ∧ (∀ r, s.reelOf p .running = some r → t.reel (screenOf p) r = (s.reel (screenOf p) r).withState .done)
            ∧ (t.screen (screenOf p)).state =
                (if (s.screen (screenOf p)).state = .running ∨ (s.screen (screenOf p)).state = .waiting then .dark
                  else (s.screen (screenOf p)).state)
            ∧ noticed (noticeScreenDark (screenOf p)) s t
            ∧ (((s.screen (screenOf p)).changeover.state = .waitingReady
                  ∨ (s.screen (screenOf p)).changeover.state = .queued) →
                (s.screen (screenOf p)).changeover.outgoing = some p →
                (t.screen (screenOf p)).changeover.outgoing = none ∧ (t.screen (screenOf p)).changeover.late = true))
      ∧ (s.role p = .tail →
          (∀ r, s.reelOf p .running = some r → t.reel (screenOf p) r = (s.reel (screenOf p) r).withState .done)
            ∧ t.lu = s.lu ∧ (t.screen (screenOf p)).state = (s.screen (screenOf p)).state)
      ∧ ((s.role p = .armed ∨ s.role p = .starting ∨ s.role p = .standby) →
          (t.station p).desired.douser = .closed
            ∧ (∀ r, s.reelOf p .loaded = some r → t.reel (screenOf p) r = (s.reel (screenOf p) r).withState .done)
            ∧ (t.motion p).cause = .runOutUnseen ∧ noticed (noticeProjectorAttention p) s t ∧ t.lu = s.lu)
      ∧ (s.role p = .idle → onlyTouches [.mu, .pu, .pins] s t)
      ∧ (∀ q, q ≠ p → t.role q = s.role q ∧ t.motion q = s.motion q ∧ t.station q = s.station q
          ∧ t.lamp q = s.lamp q)
      ∧ t.hu = s.hu ∧ t.fu = s.fu

/-- The slow-start timer's running out writes SLOW_START and raises PROJECTOR_ATTENTION, once; a silence stops the
speed state and resets the period record, and is a SILENT_STOP from AT_SPEED, from OFF_SPEED, or from RUNNING_UP
after speed was reached. Neither has any effect where its moment cannot come. That an event has no effect where
its moment cannot come is the model's reading: log 2. That it is that moment wherever it can come is the model's
choice: log 40. -/
def Obligations.SlowStartAndSilence : Prop :=
  ∀ (p : Projector) (s : State),
    (∀ x, (s.motion p).slowStart = some x → ∃ t, exec (.slowStartTimeout p) s = .next t
        ∧ t.motion p = { s.motion p with slowStart := none, cause := .slowStart } ∧ otherMotionsKept p s t
        ∧ t.pu = (s.raise (noticeProjectorAttention p)).pu ∧ onlyTouches [.mu, .pu] s t)
    ∧ ((s.motion p).slowStart = none → exec (.slowStartTimeout p) s = .next s)
    ∧ ((s.motion p).gate = .opened → (s.motion p).phase ≠ .awaiting → ∃ t, exec (.silence p) s = .next t
        ∧ (let stop := (s.motion p).speed = .atSpeed ∨ (s.motion p).speed = .offSpeed
              ∨ ((s.motion p).speed = .runningUp ∧ (s.motion p).reachedSpeed = true)
           t.motion p = { s.motion p with
              speed := .stopped, phase := .awaiting, runningCount := ⟨0, 0⟩, periodCurrent := false
              inBandRun := 0, outOfBandRun := 0
              cause := if stop then .silentStop else (s.motion p).cause }
            ∧ (stop → noticed (noticeProjectorAttention p) s t))
        ∧ t.role p = (if s.role p = .standby ∧ (s.motion p).speed ≠ .stopped then .starting else s.role p)
        ∧ otherMotionsKept p s t ∧ (∀ q, t.station q = s.station q)
        ∧ (∀ q, q ≠ p → t.role q = s.role q) ∧ onlyTouches [.mu, .lc, .su, .pu] s t)
    ∧ (((s.motion p).gate = .closed ∨ (s.motion p).phase = .awaiting) → exec (.silence p) s = .next s)

/-- PROJ_MOTOR and PROJ_DOUSER are taken only while the role is IDLE, RUN and OPEN only without a trip; a RUN that
changes the field opens the gate, a STOP that changes it closes the gate, and each touches its own field alone. -/
def Obligations.ManualMotorAndDouser : Prop :=
  ∀ (n : Port) (p : Projector) (s : State),
    (s.role p ≠ .idle → ∀ a : Fin 2,
      exec (.projMotor n (numberOf p) a) s = .next (s.answer n (.projMotor n (numberOf p) a) .state [])
        ∧ exec (.projDouser n (numberOf p) a) s = .next (s.answer n (.projDouser n (numberOf p) a) .state []))
    ∧ (s.role p = .idle → s.lc.tripInForce = true →
      exec (.projMotor n (numberOf p) 1) s = .next (s.answer n (.projMotor n (numberOf p) 1) .trip [])
        ∧ exec (.projDouser n (numberOf p) 1) s = .next (s.answer n (.projDouser n (numberOf p) 1) .trip []))
    ∧ (s.role p = .idle → s.lc.tripInForce = false → ∃ t, exec (.projMotor n (numberOf p) 1) s = .next t
        ∧ (t.station p) = { s.station p with desired := { (s.station p).desired with motor := .run } }
        ∧ otherStationsKept p s t ∧ t.pu = (s.answer n (.projMotor n (numberOf p) 1) .ok []).pu
        ∧ t.motion p = (if (s.station p).desired.motor = .run then s.motion p
            else { s.motion p with
              gate := .opened, speed := .runningUp, reachedSpeed := false, slowStart := some ⟨60, 0⟩, phase :=
                .awaiting
              runningCount := ⟨0, 0⟩, periodCurrent := false, inBandRun := 0, outOfBandRun := 0 })
        ∧ otherMotionsKept p s t ∧ onlyTouches [.mu, .lc, .pu] s t)
    ∧ (s.role p = .idle → ∃ t, exec (.projMotor n (numberOf p) 0) s = .next t
        ∧ (t.station p) = { s.station p with desired := { (s.station p).desired with motor := .stop } }
        ∧ otherStationsKept p s t ∧ t.pu = (s.answer n (.projMotor n (numberOf p) 0) .ok []).pu
        ∧ t.motion p = (if (s.station p).desired.motor = .stop then s.motion p
            else { s.motion p with
              gate := .closed, speed := .stopped, slowStart := none, phase := .awaiting, runningCount := ⟨0, 0⟩
              periodCurrent := false, inBandRun := 0, outOfBandRun := 0 })
        ∧ otherMotionsKept p s t ∧ onlyTouches [.mu, .lc, .pu] s t)
    ∧ (s.role p = .idle → ∀ a : Fin 2, (a = 1 → s.lc.tripInForce = false) →
        ∃ t, exec (.projDouser n (numberOf p) a) s = .next t
        ∧ t.station p = { s.station p with
            desired := { (s.station p).desired with douser := if a = 1 then .opened else .closed } }
        ∧ otherStationsKept p s t ∧ t.pu = (s.answer n (.projDouser n (numberOf p) a) .ok []).pu
        ∧ onlyTouches [.lc, .pu] s t)

/-! ### The booth line (spec/02) -/

/-- The claim on a slot: the line reset frame, then the head of the burst queue, then a poll to the slot's station
if it is PRESENT or its rare countdown is 0; otherwise the countdown falls and the slot is idle. A slot taken by
a reset frame or a burst leaves its station's record alone. No reply window is open until a poll's last cell has
gone out. A frame still being sent and a window still open at a SLOT_START are ended first, as their own
commands end them, and the slot then starts on a free line. That what is under way at a SLOT_START is ended
first is the model's choice: log 24. -/
def Obligations.SlotIsClaimedInOrder : Prop :=
  ∀ s : State,
    (s.lc.sending = .nothing → s.lc.window = .closed →
    ∃ t, exec .slotStart s = .next t ∧ t.lc.window = .closed
      ∧ t.lc.position = s.lc.position + 1 ∧ t.lc.untilSlot = 5000
      ∧ t.lc.tripInForce = s.lc.tripInForce ∧ t.lc.watches = s.lc.watches ∧ t.lc.resetPending = s.lc.resetPending
      ∧ (∀ q, q ≠ s.lc.position → t.station q = s.station q)
      ∧ (let p := s.lc.position
         (s.lc.resetPending = true →
            t.lc.sending = .lineReset ∧ t.lc.burstQueue = s.lc.burstQueue ∧ t.station p = s.station p)
          ∧ (s.lc.resetPending = false → s.lc.burstQueue ≠ [] →
              (∃ b, s.lc.burstQueue.head? = some b ∧ t.lc.sending = .burst b) ∧ t.lc.burstQueue = s.lc.burstQueue.tail
                ∧ t.station p = s.station p)
          ∧ (s.lc.resetPending = false → s.lc.burstQueue = [] → (s.station p).presence = .present →
              t.lc.sending = .poll p (s.station p).desired ∧ t.station p = s.station p ∧ t.lc.burstQueue = [])
          ∧ (s.lc.resetPending = false → s.lc.burstQueue = [] → (s.station p).presence ≠ .present →
              (s.station p).rareCountdown = 0 →
              t.lc.sending = .poll p (s.station p).desired ∧ t.station p = { s.station p with rareCountdown := 9 }
                ∧ t.lc.burstQueue = [])
          ∧ (s.lc.resetPending = false → s.lc.burstQueue = [] → (s.station p).presence ≠ .present →
              (s.station p).rareCountdown ≠ 0 →
              t.lc.sending = .nothing
                ∧ t.station p = { s.station p with rareCountdown := (s.station p).rareCountdown - 1 }
                ∧ t.lc.burstQueue = []))
      ∧ onlyTouches [.lc] s t)
    ∧ (let ended : Instr := match s.lc.sending with
        | .burst (.changeover _ _) => .changeoverBurstSent
        | .burst .trip => .tripBurstSent
        | .lineReset => .lineResetFrameSent
        | .nothing | .poll _ _ => .replyWindowEnd
       ∃ t, execAll [ended, .replyWindowEnd] s = .next t ∧ t.lc.sending = .nothing ∧ t.lc.window = .closed
        ∧ t.lc.position = s.lc.position ∧ exec .slotStart s = exec .slotStart t)

/-- A good reply with a report from a PRESENT station clears its miss run. Fresh, it replaces the whole last report,
turns the expected toggle and hands on the mark count; stale, it replaces the live states alone, keeps the
toggle and hands no sample and no mark. The window keeps the reported blade for the confirmation watch. -/
def Obligations.ReportsAreFreshOrStale : Prop :=
  ∀ (p : Projector) (begun : Nat) (signal : List Nat) (x : Report) (toggle : Bool) (s : State),
    heardReply p begun signal toggle (some x) s → (s.station p).presence = .present →
    ∃ t, exec (.replyReceived begun signal) s = .next t
      ∧ (t.station p).presence = .present ∧ (t.station p).missRun = 0
      ∧ (t.station p).goodRun = (s.station p).goodRun ∧ (t.station p).rareCountdown = (s.station p).rareCountdown
      ∧ t.lc.window = .opened p (.good (some x.blade))
      ∧ (toggle = (s.station p).expectedToggle →
          (t.station p).lastReport = some x ∧ (t.station p).reportOld = false
            ∧ (t.station p).expectedToggle = !(s.station p).expectedToggle ∧ t.mark p = some x.marks)
      ∧ (toggle ≠ (s.station p).expectedToggle →
          (t.station p).reportOld = (s.station p).reportOld
            ∧ (t.station p).expectedToggle = (s.station p).expectedToggle
            ∧ t.mark p = s.mark p
            ∧ (∀ old, (s.station p).lastReport = some old → (t.station p).lastReport = some { old with
                motor := x.motor, douser := x.douser, blade := x.blade, arc := x.arc, gateFlame := x.gateFlame })
            ∧ ((s.station p).lastReport = none →
                (t.station p).lastReport = some
                  ⟨x.motor, x.douser, x.blade, x.arc, .clear, x.gateFlame, 0, 0, 0, 0⟩)
            ∧ (x.gateFlame = .clear → t.lu = s.lu ∧ (t.station p).desired = (s.station p).desired))
      ∧ (∀ q, q ≠ p → (t.station q).presence = (s.station q).presence
        ∧ (t.station q).lastReport = (s.station q).lastReport
          ∧ t.mark q = s.mark q)
      ∧ (x.gateFlame = .clear → t.fu = s.fu)
      ∧ (x.gateFlame = .clear → s.role p ≠ .onScreen → t.mu = s.mu ∧ t.hu = s.hu)

/-- The second good reply in a row makes an ABSENT or LOST station PRESENT, and its report is then taken, fresh or
stale; the report of the first is discarded but for its flame flag. The third miss in a row makes a PRESENT
station LOST, which starts the hold of a BURNING lamp and withdraws a projector that is ARMED, STARTING or
STANDBY. A window that ends with no reply, or a bad one, is a miss; a frame that carries another address, or
that R22 discards, is a bad one; a frame begun before the window, begun late, or heard outside a window is
discarded, and so is one that has not ended by the end of its slot, so that its window ends as one with no reply
and no later window is touched. That a window ends at the slot's end or when its frame is judged, and that a
frame's own time, counted from its own slot, says whether the poll has gone out and the slot is over, are the
model's choice: log 13. What is made of an odd preamble or an odd hold is the model's choice too: log 38. -/
def Obligations.PresenceFollowsTheReplies : Prop :=
  ∀ (p : Projector) (begun : Nat) (signal : List Nat) (toggle : Bool) (x : Report) (s : State),
    (heardReply p begun signal toggle none s → (s.station p).presence ≠ .present →
      ∃ t, exec (.replyReceived begun signal) s = .next t
        ∧ t.lc.window = .opened p (.good none)
        ∧ ((s.station p).goodRun = 0 → t.station p = { s.station p with goodRun := 1 } ∧ onlyTouches [.lc] s t)
        ∧ (1 ≤ (s.station p).goodRun →
            t.station p = { s.station p with presence := .present, goodRun := 0, missRun := 0 }
              ∧ noticed noticeStationPresent s t ∧ (t.lamp p).holdTimer = none ∧ t.mark p = none
              ∧ otherLampsKept p s t ∧ onlyTouches [.lc, .lu, .su, .pu] s t)
        ∧ (∀ q, q ≠ p → t.station q = s.station q))
    ∧ (heardReply p begun signal toggle (some x) s → (s.station p).presence ≠ .present → (s.station p).goodRun = 0 →
      ∃ t, exec (.replyReceived begun signal) s = .next t
        ∧ t.lc.window = .opened p (.good none) ∧ (t.station p).presence = (s.station p).presence
        ∧ (t.station p).goodRun = 1 ∧ (t.station p).lastReport = (s.station p).lastReport
        ∧ (t.station p).reportOld = (s.station p).reportOld
        ∧ (t.station p).expectedToggle = (s.station p).expectedToggle ∧ t.mark p = s.mark p
        ∧ (x.gateFlame = .clear → t.station p = { s.station p with goodRun := 1 } ∧ onlyTouches [.lc] s t)
        ∧ (x.gateFlame = .set → .gateFlame p ∈ t.fu.causes))
    ∧ (heardReply p begun signal toggle (some x) s → (s.station p).presence ≠ .present → 1 ≤ (s.station p).goodRun →
      ∃ t, exec (.replyReceived begun signal) s = .next t
        ∧ t.lc.window = .opened p (.good (some x.blade)) ∧ (t.station p).presence = .present
        ∧ (t.station p).goodRun = 0 ∧ (t.station p).missRun = 0 ∧ noticed noticeStationPresent s t
        ∧ (toggle = (s.station p).expectedToggle →
            (t.station p).lastReport = some x ∧ (t.station p).reportOld = false
              ∧ (t.station p).expectedToggle = !(s.station p).expectedToggle ∧ t.mark p = some x.marks)
        ∧ (toggle ≠ (s.station p).expectedToggle →
            (t.station p).reportOld = (s.station p).reportOld ∧ t.mark p = none
              ∧ (t.station p).expectedToggle = (s.station p).expectedToggle
              ∧ (∀ old, (s.station p).lastReport = some old → (t.station p).lastReport = some { old with
                  motor := x.motor, douser := x.douser, blade := x.blade, arc := x.arc, gateFlame := x.gateFlame })))
    ∧ ((begun < 872 ∨ 5000 < begun + signalTime signal) → exec (.replyReceived begun signal) s = .next s)
    ∧ (s.lc.pollSent.window = .opened p .awaiting → 1272 < begun → begun + signalTime signal ≤ 5000 →
        exec (.replyReceived begun signal) s = .next { s with lc := s.lc.pollSent })
    ∧ (inWindow p begun s → begun + signalTime signal ≤ 5000 →
        (∀ r, replyOf signal = some r → r.address ≠ numberOf p) →
        exec (.replyReceived begun signal) s = .next { s with lc := { s.lc.pollSent with window := .opened p .bad } })
    ∧ ((∀ q, s.lc.pollSent.window ≠ .opened q .awaiting) → exec (.replyReceived begun signal) s = .next s)
    ∧ (s.lc.pollSent.window = .closed → exec .replyWindowEnd s = .next s)
    ∧ ((s.lc.pollSent.window = .opened p .awaiting ∨ s.lc.pollSent.window = .opened p .bad) →
      s.watch (screenOf p) = .closed →
      ∃ t, exec .replyWindowEnd s = .next t
        ∧ t.lc.window = .closed ∧ t.lc.watches = s.lc.watches
        ∧ ((s.station p).presence ≠ .present → t.station p = { s.station p with goodRun := 0 }
          ∧ onlyTouches [.lc] s t)
        ∧ ((s.station p).presence = .present → (s.station p).missRun < 2 →
            t.station p = { s.station p with missRun := (s.station p).missRun + 1 } ∧ onlyTouches [.lc] s t)
        ∧ ((s.station p).presence = .present → 2 ≤ (s.station p).missRun →
            (t.station p).presence = .lost ∧ (t.station p).missRun = 0 ∧ (t.station p).goodRun = 0
              ∧ (t.station p).rareCountdown = 9 ∧ (t.station p).reportOld = true
              ∧ (t.station p).lastReport = (s.station p).lastReport ∧ noticed noticeStationLost s t
              ∧ t.lamp p = (if (s.lamp p).state = .burning then { s.lamp p with holdTimer := some ⟨50, 0⟩ }
                  else s.lamp p)
              ∧ otherLampsKept p s t
              ∧ (¬ (s.role p = .armed ∨ s.role p = .starting ∨ s.role p = .standby) →
                  t.role p = s.role p ∧ (t.station p).desired = (s.station p).desired ∧ t.mu = s.mu)
              ∧ ((s.role p = .armed ∨ s.role p = .starting ∨ s.role p = .standby) →
                  t.role p = .idle ∧ (t.station p).desired.motor = .stop ∧ (t.station p).desired.douser = .closed
                    ∧ (t.motion p).framesRemaining = 0 ∧ (t.motion p).watch = none
                    ∧ noticed (noticeArmWithdrawn (screenOf p)) s t
                    ∧ (∀ r, s.reelOf p .loaded = some r →
                        t.reel (screenOf p) r = (s.reel (screenOf p) r).withState .listed)))
        ∧ (∀ q, q ≠ p → t.station q = s.station q ∧ t.role q = s.role q) ∧ t.hu = s.hu ∧ t.fu = s.fu)

/-- A changeover burst sent for a QUEUED record with its incoming ready: both blades written in one act, the watch
opened with three polls each, the incoming ON_SCREEN with its reel RUNNING, the outgoing TAIL with its watch
dropped, its douser closed and its lamp put out, and the picture up. (The next cue, if any, waits for GO or a
delay; a FRAMES or MARK cue has a statement of its own.) -/
def Obligations.ChangeoverBurstPassesThePicture : Prop :=
  ∀ (sc : Screen) (side : Side) (s : State),
    s.lc.sending = .burst (.changeover sc side) → (s.screen sc).changeover.state = .queued →
    s.incomingOf sc = some (projectorOf sc side) → s.ready (some (projectorOf sc side)) = true →
    ((s.screen sc).changeover.outgoing = none
      ∨ (s.screen sc).changeover.outgoing = some (partner (projectorOf sc side))) →
    (∀ x, (s.screen sc).next = some x → (s.cue x).trigger.ofFilm = false) →
    ∃ t, exec .changeoverBurstSent s = .next t
      ∧ (let p := projectorOf sc side
         let q := partner p
         t.lc.sending = .nothing ∧ (t.station p).desired.blade = .opened ∧ (t.station q).desired.blade = .closed
          ∧ t.watch sc = (match side with
              | .a => .opened ⟨.opened, .waiting 3⟩ ⟨.closed, .waiting 3⟩
              | .b => .opened ⟨.closed, .waiting 3⟩ ⟨.opened, .waiting 3⟩)
          ∧ (t.screen sc).changeover.state = .sent ∧ (t.screen sc).changeover.incoming = some p
          ∧ t.role p = .onScreen
          ∧ (∀ r, s.reelOf p .loaded = some r → t.reel sc r = (s.reel sc r).withState .running)
          ∧ ((s.screen sc).changeover.outgoing = some q →
              t.role q = .tail ∧ (t.motion q).watch = none ∧ (t.station q).desired.douser = .closed
                ∧ (t.lamp q).state = .cold)
          ∧ (t.screen sc).state = (if (s.screen sc).state = .dark ∨ (s.screen sc).state = .waiting then .running
              else (s.screen sc).state)
          ∧ (t.screen sc).next = (s.screen sc).next ∧ t.lamp p = s.lamp p ∧ t.motion p = s.motion p
          ∧ (∀ x, x ≠ p → x ≠ q → t.station x = s.station x ∧ t.role x = s.role x ∧ t.lamp x = s.lamp x))
      ∧ t.lc.burstQueue = s.lc.burstQueue ∧ (∀ c, c ≠ sc → t.screen c = s.screen c ∧ t.watch c = s.watch c)
      ∧ t.hu = s.hu ∧ t.fu = s.fu ∧ t.su.cues = s.su.cues

/-- A changeover burst sent while the next cue waits for the film, by FRAMES or by MARK: on a performing screen the
cue is evaluated again, against the counter of the incoming just put on screen. Above the cue's value the
incoming's watch is set and the cue waits; at or below it the cue fires at once, here an END. On a screen that
is not performing nothing is evaluated. That a fallback found at the evaluation raises no MARK_IRREGULAR is the
model's reading: log 11. -/
def Obligations.FilmCuesMoveToTheIncoming : Prop :=
  ∀ (sc : Screen) (side : Side) (x : CueIx) (v hi : Nat) (s : State),
    s.lc.sending = .burst (.changeover sc side) → (s.screen sc).changeover.state = .queued →
    s.incomingOf sc = some (projectorOf sc side) → s.ready (some (projectorOf sc side)) = true →
    (((s.screen sc).changeover.outgoing = none ∧ s.role (partner (projectorOf sc side)) ≠ .onScreen)
      ∨ (s.screen sc).changeover.outgoing = some (partner (projectorOf sc side))) →
    (s.screen sc).next = some x → ((s.cue x).trigger = .frames v ∨ (s.cue x).trigger = .mark v hi) →
    ∃ t, exec .changeoverBurstSent s = .next t
      ∧ (let p := projectorOf sc side
         let c := (s.motion p).framesRemaining
         t.role p = .onScreen ∧ (t.screen sc).changeover.state = .sent
          ∧ ((s.screen sc).state.performing = true → v < c → t.motion p = { s.motion p with watch := some v }
              ∧ (t.screen sc).next = some x ∧ t.su.cues = s.su.cues ∧ (t.screen sc).state = .running)
          ∧ ((s.screen sc).state.performing = true → c ≤ v → (s.cue x).kind = .end_ → (t.screen sc).state = .ended
              ∧ (t.cue x).state = .fired ∧ (t.screen sc).next = nextIn x (s.screen sc).list
              ∧ (t.screen sc).afterTimer = none ∧ noticed (noticeCueFired sc) s t ∧ noticed (noticeShowEnded sc) s t
              ∧ (t.motion p).watch = none)
          ∧ ((s.screen sc).state.performing = false → t.motion p = s.motion p ∧ (t.screen sc).next = some x
              ∧ t.su.cues = s.su.cues ∧ (t.screen sc).state = (s.screen sc).state))
      ∧ (∀ y, y ≠ x → t.cue y = s.cue y) ∧ (∀ c, c ≠ sc → t.screen c = s.screen c) ∧ t.hu = s.hu ∧ t.fu = s.fu

/-- The last cell of a trip burst ends its sending and reports nothing; the last cell of the line reset frame ends
its sending and the pending reset. A burst of a screen whose record is not QUEUED writes the blades, opens the
watch, and has both blades closed again. A burst of a QUEUED record whose incoming is no longer ready is undone:
the opened blade is closed, the outgoing's opened again, and the record waits with CHANGEOVER_WAITING, the
screen and the roles as they stand. The order in which the two blades are asked, and the undoing where no
incoming is left, are the model's: logs 5 and 12. -/
def Obligations.SentFramesEnd : Prop :=
  ∀ s : State,
    (s.lc.sending = .burst .trip → exec .tripBurstSent s = .next { s with lc := { s.lc with sending := .nothing } })
    ∧ (s.lc.sending = .lineReset → exec .lineResetFrameSent s =
        .next { s with lc := { s.lc with sending := .nothing, resetPending := false } })
    ∧ (∀ sc side, s.lc.sending = .burst (.changeover sc side) → (s.screen sc).changeover.state ≠ .queued →
        ∃ t, exec .changeoverBurstSent s = .next t
          ∧ (t.station (projectorOf sc .a)).desired = { (s.station (projectorOf sc .a)).desired with
            blade := .closed }
          ∧ (t.station (projectorOf sc .b)).desired = { (s.station (projectorOf sc .b)).desired with
            blade := .closed }
          ∧ t.watch sc ≠ .closed ∧ t.lc.sending = .nothing ∧ onlyTouches [.lc] s t)
    ∧ (∀ sc side, s.lc.sending = .burst (.changeover sc side) → (s.screen sc).changeover.state = .queued →
        s.ready (s.incomingOf sc) = false → s.lc.tripInForce = false →
        ((s.screen sc).changeover.outgoing = none
          ∨ (s.screen sc).changeover.outgoing = some (partner (projectorOf sc side))) →
        ∃ t, exec .changeoverBurstSent s = .next t
          ∧ (let p := projectorOf sc side
             let back : Opening := if (s.screen sc).changeover.outgoing = none then .closed else .opened
             t.station p = { s.station p with desired := { (s.station p).desired with blade := .closed } }
              ∧ t.station (partner p) =
                  { s.station (partner p) with desired := { (s.station (partner p)).desired with blade := back } })
          ∧ t.screen sc = { s.screen sc with changeover := { (s.screen sc).changeover with
              state := .waitingReady, incoming := s.incomingOf sc } }
          ∧ t.watch sc ≠ .closed ∧ t.lc.sending = .nothing ∧ noticed (noticeChangeoverWaiting sc) s t
          ∧ t.su.roles = s.su.roles ∧ (∀ c, c ≠ sc → t.screen c = s.screen c) ∧ onlyTouches [.lc, .su, .pu] s t)

/-- LINE_RESET from a SETUP port, with no projector past arming: every station record at its first values, the reset
frame pending, the reply window cut short, the queue, the trip and the watches kept; motors that were RUN have
their gates closed, ARMED projectors are withdrawn and a lamp whose arc was ON ends COLD. With a projector past
arming it is refused with STATE. (No changeover burst is awaited.) That a LINE_RESET cuts a reply window short
is the model's choice: log 13. -/
def Obligations.LineResetClearsTheStations : Prop :=
  ∀ (n : Port) (s : State), (s.port n).setup = true →
    ((∃ p, s.role p = .starting ∨ s.role p = .standby ∨ s.role p = .onScreen ∨ s.role p = .tail) →
      exec (.lineReset n) s = .next (s.answer n (.lineReset n) .state []))
    ∧ ((∀ p, s.role p = .idle ∨ s.role p = .armed) → (∀ sc, (s.screen sc).changeover.state ≠ .queued) →
      ∃ t, exec (.lineReset n) s = .next t
        ∧ (∀ p, t.station p = ⟨.absent, 0, 0, 0, false, none, false, ⟨.stop, .closed, .closed, .off⟩⟩)
        ∧ t.lc = { s.lc with stations := t.lc.stations, resetPending := true, window := .closed }
        ∧ (∀ p, (s.station p).desired.motor = .run → (t.motion p).gate = .closed ∧ (t.motion p).speed = .stopped)
        ∧ (∀ p, (s.station p).desired.motor = .stop → (t.motion p).gate = (s.motion p).gate)
        ∧ (∀ p, s.role p = .armed → (s.station p).presence ≠ .absent → t.role p = .idle
            ∧ noticed (noticeArmWithdrawn (screenOf p)) s t)
        ∧ (∀ p, s.role p = .idle → t.role p = .idle)
        ∧ (∀ p, (s.station p).desired.arc = .on →
            (t.lamp p).state = .cold ∧ (t.lamp p).feedRate = 0 ∧ (t.lamp p).holdTimer = none
              ∧ (t.lamp p).cause = .lineReset ∧ noticed (noticeLampAttention p) s t)
        ∧ (∀ p, (s.station p).desired.arc = .off → (t.lamp p).state = (s.lamp p).state)
        ∧ t.pu.answers = (s.answer n (.lineReset n) .ok []).pu.answers
        ∧ t.hu = s.hu ∧ t.fu = s.fu)

/-- A REPLY frame that a station sends is read back whole: its address, its toggle, and its ten report bytes or
none, from the preamble, the marker and the biphase cells to the CRC, with the last cell running into the idle
line. That the two-byte fields come most significant byte first is the model's presumption: log 14. -/
def Obligations.ReplyFramesAreReadBack : Prop :=
  ∀ (address : Nat) (toggle : Bool) (payload : List Byte), address < 16 →
    (payload.length = 10 →
      replyOf (LineFrame.signal ⟨.reply, headerByte address toggle true :: payload⟩)
        = some ⟨address, toggle, reportOf payload⟩)
    ∧ replyOf (LineFrame.signal ⟨.reply, [headerByte address toggle false]⟩) = some ⟨address, toggle, none⟩

/-! ### Arc lamps (spec/03) -/

/-- LAMP_STRIKE is ruled on in order: a trip, a lamp already STRIKING or BURNING, no carbon, a station not PRESENT;
then the arc is asked ON, and the lamp is STRIKING with its counts 0, its strike timer at 5.0 s and its notice
raised.

LAMP_OFF is refused with STATE while the projector is ON_SCREEN; a COLD lamp is left as it stands; any other is
put out: arc OFF asked, COLD, no feed, no timers, counts 0, its notice raised. -/
def Obligations.LampsAreStruckAndPutOut : Prop :=
  (∀ (n : Port) (p : Projector) (s : State),
      (s.lu.tripInForce = true →
        exec (.lampStrike n (numberOf p)) s = .next (s.answer n (.lampStrike n (numberOf p)) .trip []))
      ∧ (s.lu.tripInForce = false →
          ((s.lamp p).state = .striking ∨ (s.lamp p).state = .burning ∨ (s.lamp p).carbon = 0
            ∨ (s.station p).presence ≠ .present) →
          exec (.lampStrike n (numberOf p)) s = .next (s.answer n (.lampStrike n (numberOf p)) .state []))
      ∧ (s.lu.tripInForce = false → (s.lamp p).state ≠ .striking → (s.lamp p).state ≠ .burning →
        (s.lamp p).carbon ≠ 0 →
          (s.station p).presence = .present →
          (s.lc.tripInForce = true →
            exec (.lampStrike n (numberOf p)) s = .next (s.answer n (.lampStrike n (numberOf p)) .trip []))
          ∧ (s.lc.tripInForce = false → ∃ t, exec (.lampStrike n (numberOf p)) s = .next t
              ∧ t.lamp p = { s.lamp p with
                  state := .striking, strikeCount := 0, outCount := 0, strikeTimer := some ⟨50, 0⟩
                  cause := .strikeStarted }
              ∧ t.station p = { s.station p with desired := { (s.station p).desired with arc := .on } }
              ∧ noticed (noticeLampAttention p) s t
              ∧ t.pu.answers = (s.answer n (.lampStrike n (numberOf p)) .ok []).pu.answers
              ∧ otherLampsKept p s t ∧ (∀ q, q ≠ p → t.station q = s.station q) ∧ t.su.roles = s.su.roles
              ∧ onlyTouches [.lc, .lu, .su, .pu] s t)))
  ∧ (∀ (n : Port) (p : Projector) (s : State),
      (s.role p = .onScreen →
        exec (.lampOff n (numberOf p)) s = .next (s.answer n (.lampOff n (numberOf p)) .state []))
      ∧ (s.role p ≠ .onScreen → (s.lamp p).state = .cold →
          exec (.lampOff n (numberOf p)) s = .next (s.answer n (.lampOff n (numberOf p)) .ok []))
      ∧ (s.role p ≠ .onScreen → (s.lamp p).state ≠ .cold → ∃ t, exec (.lampOff n (numberOf p)) s = .next t
          ∧ t.lamp p = { s.lamp p with
              state := .cold, feedRate := 0, feedTimer := none, strikeTimer := none, holdTimer := none, strikeCount
                := 0
              outCount := 0, cause := .off }
          ∧ t.station p = { s.station p with desired := { (s.station p).desired with arc := .off } }
          ∧ noticed (noticeLampAttention p) s t
          ∧ t.pu.answers = (s.answer n (.lampOff n (numberOf p)) .ok []).pu.answers
          ∧ otherLampsKept p s t ∧ (∀ q, q ≠ p → t.station q = s.station q) ∧ t.su.roles = s.su.roles
          ∧ onlyTouches [.lc, .lu, .su, .pu] s t))

/-- The strike timer's running out faults a lamp with STRIKE_FAILED, and the hold timer's with STATION_LOST and no
feed; each asks the arc OFF and raises LAMP_ATTENTION. With no such timer running neither has any effect.

A feed step begins its pulse, takes one step of carbon and reloads the counter; at or below the trim threshold
it raises the trim notice once; taking the last carbon it stops the feed with CARBON_EXHAUSTED, raised second.
That an event has no effect where its moment cannot come is the model's reading: log 2. That it is that moment
wherever it can come is the model's choice: log 40. -/
def Obligations.LampTimersAndFeedSteps : Prop :=
  (∀ (p : Projector) (s : State),
      (∀ x, (s.lamp p).strikeTimer = some x → ∃ t, exec (.strikeTimeout p) s = .next t
          ∧ t.lamp p = { s.lamp p with
              state := .fault, fault := .strikeFailed, strikeCount := 0, strikeTimer := none, cause := .strikeFailed }
          ∧ t.station p = { s.station p with desired := { (s.station p).desired with arc := .off } }
          ∧ noticed (noticeLampAttention p) s t ∧ otherLampsKept p s t ∧ (∀ q, q ≠ p → t.station q = s.station q)
          ∧ t.su.roles = s.su.roles ∧ onlyTouches [.lc, .lu, .su, .pu] s t)
      ∧ ((s.lamp p).strikeTimer = none → exec (.strikeTimeout p) s = .next s)
      ∧ (∀ x, (s.lamp p).holdTimer = some x → ∃ t, exec (.holdTimeout p) s = .next t
          ∧ t.lamp p = { s.lamp p with
              state := .fault, fault := .stationLost, feedRate := 0, feedTimer := none, outCount := 0, holdTimer :=
                none
              cause := .stationLost }
          ∧ t.station p = { s.station p with desired := { (s.station p).desired with arc := .off } }
          ∧ noticed (noticeLampAttention p) s t ∧ otherLampsKept p s t ∧ (∀ q, q ≠ p → t.station q = s.station q)
          ∧ t.su.roles = s.su.roles ∧ onlyTouches [.lc, .lu, .su, .pu] s t)
      ∧ ((s.lamp p).holdTimer = none → exec (.holdTimeout p) s = .next s))
  ∧ (∀ (p : Projector) (s : State),
      ((s.lamp p).feedTimer = none → exec (.feedStep p) s = .next s)
      ∧ (∀ x, (s.lamp p).feedTimer = some x → ∃ t, exec (.feedStep p) s = .next t
          ∧ (let l := s.lamp p
             let trims := l.carbon - 1 ≤ l.trim ∧ l.trimNoticed = false
             t.lamp p = { l with
                carbon := l.carbon - 1, stepPulse := 1000
                trimNoticed := if trims then true else l.trimNoticed
                feedRate := if l.carbon = 1 then 0 else l.feedRate
                feedTimer := if l.carbon = 1 then none else some ⟨x.reload, ⟨x.reload, 0⟩⟩
                fault := if l.carbon = 1 then .carbonExhausted else l.fault
                cause := if l.carbon = 1 then .carbonExhausted else if trims then .trim else l.cause }
              ∧ (trims ∨ l.carbon = 1 → noticed (noticeLampAttention p) s t)
              ∧ (¬ trims → l.carbon ≠ 1 → t.pu = s.pu))
          ∧ otherLampsKept p s t ∧ onlyTouches [.lu, .pu] s t))

/-- LAMP_SET, from a SETUP port on a COLD lamp, writes the six settings clamped, Fmax then raised to the clamped B,
and changes nothing else; in any other state it is refused with STATE.

LAMP_RECARBON on a COLD lamp enters the length clamped to 12,000, forgets the trim notice and a fault of
CARBON_EXHAUSTED alone; in any other state it is refused with STATE. -/
def Obligations.LampSettingsAndCarbonAreEntered : Prop :=
  (∀ (n : Port) (p : Projector) (f : LampFields) (s : State),
      ((s.port n).setup = false →
        exec (.lampSet n (numberOf p) f) s = .next (s.answer n (.lampSet n (numberOf p) f) .denied []))
      ∧ ((s.port n).setup = true → (s.lamp p).state ≠ .cold →
        exec (.lampSet n (numberOf p) f) s = .next (s.answer n (.lampSet n (numberOf p) f) .state []))
      ∧ ((s.port n).setup = true → (s.lamp p).state = .cold → ∃ t, exec (.lampSet n (numberOf p) f) s = .next t
          ∧ (let within (low high k : Nat) : Nat := if k < low then low else if high < k then high else k
             t.lamp p = { s.lamp p with
                vs := within 400 800 f.vs, ir := within 300 1500 f.ir, b := within 20 600 f.b, g := within 0 63 f.g
                fmax := if within 20 600 f.fmax < within 20 600 f.b then within 20 600 f.b else within 20 600 f.fmax
                trim := within 0 2000 f.trim })
          ∧ otherLampsKept p s t ∧ t.pu = (s.answer n (.lampSet n (numberOf p) f) .ok []).pu
          ∧ onlyTouches [.lu, .pu] s t))
  ∧ (∀ (n : Port) (p : Projector) (length : Nat) (s : State),
      ((s.lamp p).state ≠ .cold →
        exec (.lampRecarbon n (numberOf p) length) s =
          .next (s.answer n (.lampRecarbon n (numberOf p) length) .state []))
      ∧ ((s.lamp p).state = .cold → ∃ t, exec (.lampRecarbon n (numberOf p) length) s = .next t
          ∧ t.lamp p = { s.lamp p with
              carbon := if 12000 < length then 12000 else length
              trimNoticed := false
              fault := if (s.lamp p).fault = .carbonExhausted then .none else (s.lamp p).fault }
          ∧ otherLampsKept p s t ∧ t.pu = (s.answer n (.lampRecarbon n (numberOf p) length) .ok []).pu
          ∧ onlyTouches [.lu, .pu] s t))

/-- A fresh report's sample acts on the lamp by its state. STRIKING: the third sample in a row with twice its
current at or above Ir makes the lamp BURNING and sets the feed from that sample. BURNING: the fifth in a row
with four times its current below Ir puts it OUT; otherwise the feed rate becomes the clamped sum of the two
terms, 0 with no carbon. COLD, OUT and FAULT ignore it. (The reply carries no flame, and makes no mark event of
a projector on screen.) -/
def Obligations.FreshSamplesStrikeRegulateAndFindArcOut : Prop :=
  ∀ (p : Projector) (begun : Nat) (signal : List Nat) (x : Report) (s : State),
    heardReply p begun signal (s.station p).expectedToggle (some x) s → (s.station p).presence = .present →
    x.gateFlame = .clear → (s.role p ≠ .onScreen ∨ s.mark p = none ∨ s.mark p = some x.marks) →
    ∃ t, exec (.replyReceived begun signal) s = .next t
      ∧ (let l := s.lamp p
         let u := t.lamp p
         let sum : Int := ((l.b * x.amps / l.ir : Nat) : Int) + Int.tdiv ((l.g : Int) * ((x.volts : Int) - (l.vs :
           Int))) 10
         let rate : Int := if l.carbon = 0 then 0 else max 0 (min sum (l.fmax : Int))
         ((l.state = .cold ∨ l.state = .out ∨ l.state = .fault) → u = l)
          ∧ (l.state = .striking → 2 * x.amps < l.ir → u = { l with strikeCount := 0 })
          ∧ (l.state = .striking → l.ir ≤ 2 * x.amps → l.strikeCount < 2 →
            u = { l with strikeCount := l.strikeCount + 1 })
          ∧ (l.state = .striking → l.ir ≤ 2 * x.amps → 2 ≤ l.strikeCount →
              u.state = .burning ∧ u.strikeTimer = none ∧ u.strikeCount = 0 ∧ u.outCount = 0
                ∧ (u.feedRate : Int) = rate
                ∧ u.cause = .struck ∧ noticed (noticeLampAttention p) s t ∧ u.carbon = l.carbon)
          ∧ (l.state = .burning → l.ir ≤ 4 * x.amps →
              u.state = .burning ∧ u.outCount = 0 ∧ (u.feedRate : Int) = rate ∧ u.carbon = l.carbon
                ∧ u.cause = l.cause)
          ∧ (l.state = .burning → 4 * x.amps < l.ir → l.outCount < 4 →
              u.state = .burning ∧ u.outCount = l.outCount + 1 ∧ (u.feedRate : Int) = rate ∧ u.carbon = l.carbon)
          ∧ (l.state = .burning → 4 * x.amps < l.ir → 4 ≤ l.outCount →
              u.state = .out ∧ u.fault = .arcOut ∧ u.feedRate = 0 ∧ u.feedTimer = none ∧ u.outCount = 0
                ∧ u.cause = .arcOut ∧ (t.station p).desired.arc = .off ∧ noticed (noticeLampAttention p) s t)
          ∧ (u.feedRate = 0 → (l.state = .burning ∨ u.state = .burning) → u.feedTimer = none)
          ∧ (u.state = .burning → 0 < u.feedRate → l.feedTimer = none →
              u.feedTimer = some ⟨600000 / u.feedRate, ⟨600000 / u.feedRate, 0⟩⟩)
          ∧ (∀ old, l.feedTimer = some old → u.state = .burning → 0 < u.feedRate →
              u.feedTimer = some ⟨600000 / u.feedRate, old.counter⟩))
      ∧ otherLampsKept p s t ∧ onlyTouches [.lc, .lu, .su, .pu] s t

/-! ### House lights (spec/07) -/

/-- The lamp law: the conduction of a level by straight-line interpolation between the table's points, which it
meets at their own levels, rising with the level and never falling. -/
def Obligations.LampLawInterpolatesTheTable : Prop :=
  (∀ v : Nat, v < 256 →
    (let table : List Nat := [0, 96, 168, 228, 282, 332, 380, 426, 472, 518, 564, 612, 662, 716, 776, 850, 1000]
     let k := if 240 ≤ v then 15 else v / 16
     let r := v - 16 * k
     let span := if k = 15 then 15 else 16
     ∃ low high, table[k]? = some low ∧ table[k + 1]? = some high ∧ conduction v = low + (high - low) * r / span
      ∧ (r = 0 → conduction v = low)))
    ∧ (∀ v w : Nat, v ≤ w → w < 256 → conduction v ≤ conduction w)
    ∧ conduction 255 = 1000 ∧ conduction 1 = 6 ∧ conduction 254 = 990

/-- A crossing that ends a valid half-cycle while the mains is VALID: its length becomes H, each running fade takes
one step toward its target and ends there with HOUSE_FADE_DONE, and each channel's firing is set up from the
level reached, the delay at least 100 us and none above H - 300 or at level 0.

The other judgments of the mains: the first crossing only starts timing; the fourth valid half-cycle in a row
restores INVALID mains and is itself a valid crossing; an invalid one, or an overrun, makes VALID mains INVALID,
raises MAINS_LOST and cancels every pending firing, levels and fades held. A dimmer firing begins its pulse. An
overrun while no half-cycle is timed, and a firing with none pending, change nothing. That H is left until the
fourth valid half-cycle follows R127 where R125 differs: log 39. That an event has no effect where its moment
cannot come is the model's reading: log 2. That it is that moment wherever it can come is the model's choice:
log 40. -/
def Obligations.MainsCrossingsAreJudged : Prop :=
  (∀ s : State, s.hu.mains.state = .valid → s.hu.mains.phase = .timing → 7000 ≤ s.hu.mains.runningCount →
      s.hu.mains.runningCount ≤ 12000 →
      ∃ t, exec .mainsCrossing s = .next t
        ∧ t.hu.mains = { s.hu.mains with
            accepted := if s.hu.mains.accepted = .low then .high else .low
            sampleRun := 0, runningCount := 0, lastHalf := s.hu.mains.runningCount, h := s.hu.mains.runningCount }
        ∧ (∀ ch, let c := s.channel ch
            let d := t.channel ch
            let h := s.hu.mains.runningCount
            let goal := c.target * 256
            let delay := max 100 (h * (1024 - conduction (d.fine / 256)) / 1024)
            let fires : Option Nat := if d.fine / 256 = 0 ∨ h - 300 < delay then none else some delay
            d.lastDelay = fires ∧ d.firing = fires ∧ d.target = c.target ∧ d.override = c.override ∧ d.pulse = c.pulse
              ∧ (c.direction = .none → d.fine = c.fine ∧ d.direction = .none ∧ d.step = c.step)
              ∧ (c.direction = .up → goal ≤ c.fine + c.step → d.fine = goal ∧ d.direction = .none ∧ d.step = 0
                  ∧ noticed (noticeHouseFadeDone ch) s t)
              ∧ (c.direction = .up → c.fine + c.step < goal → d.fine = c.fine + c.step ∧ d.direction = .up
                ∧ d.step = c.step)
              ∧ (c.direction = .down → c.fine ≤ goal + c.step → d.fine = goal ∧ d.direction = .none ∧ d.step = 0
                  ∧ noticed (noticeHouseFadeDone ch) s t)
              ∧ (c.direction = .down → goal + c.step < c.fine → d.fine + c.step = c.fine ∧ d.direction = .down
                ∧ d.step = c.step))
        ∧ onlyTouches [.hu, .pu, .pins] s t)
  ∧ (∀ s : State,
      (s.hu.mains.phase = .awaiting → ∃ t, exec .mainsCrossing s = .next t
          ∧ t.hu.mains = { s.hu.mains with
              accepted := if s.hu.mains.accepted = .low then .high else .low
              sampleRun := 0, phase := .timing, runningCount := 0 }
          ∧ t.hu.channels = s.hu.channels ∧ onlyTouches [.hu, .pins] s t)
      ∧ (s.hu.mains.phase = .timing → s.hu.mains.state = .invalid → 7000 ≤ s.hu.mains.runningCount →
          s.hu.mains.runningCount ≤ 12000 → ∃ t, exec .mainsCrossing s = .next t
          ∧ (s.hu.mains.validRun < 3 → t.hu.mains.state = .invalid ∧ t.hu.mains.validRun = s.hu.mains.validRun + 1
              ∧ t.hu.mains.h = s.hu.mains.h
              ∧ ∀ ch, (t.channel ch).fine = (s.channel ch).fine ∧ (t.channel ch).firing = none)
          ∧ (3 ≤ s.hu.mains.validRun → t.hu.mains.state = .valid ∧ t.hu.mains.validRun = 0
              ∧ t.hu.mains.h = s.hu.mains.runningCount ∧ noticed noticeMainsRestored s t
              ∧ ∀ ch, t.channel ch = (s.channel ch).cross s.hu.mains.runningCount)
          ∧ t.hu.mains.lastHalf = s.hu.mains.runningCount ∧ t.hu.mains.runningCount = 0
          ∧ onlyTouches [.hu, .pu, .pins] s t)
      ∧ (s.hu.mains.phase = .timing → (s.hu.mains.runningCount < 7000 ∨ 12000 < s.hu.mains.runningCount) →
          ∃ t, exec .mainsCrossing s = .next t
          ∧ t.hu.mains.state = .invalid ∧ t.hu.mains.validRun = 0 ∧ t.hu.mains.h = s.hu.mains.h
          ∧ t.hu.mains.lastHalf = s.hu.mains.runningCount ∧ t.hu.mains.phase = .timing
          ∧ (s.hu.mains.state = .valid → noticed noticeMainsLost s t)
          ∧ (∀ ch, t.channel ch = { s.channel ch with firing := none }) ∧ onlyTouches [.hu, .pu, .pins] s t)
      ∧ (s.hu.mains.phase = .timing → ∃ t, exec .mainsOverrun s = .next t
          ∧ t.hu.mains.state = .invalid ∧ t.hu.mains.validRun = 0 ∧ t.hu.mains.h = s.hu.mains.h
          ∧ t.hu.mains.lastHalf = 12000 ∧ t.hu.mains.phase = .awaiting ∧ t.hu.mains.runningCount = 0
          ∧ (s.hu.mains.state = .valid → noticed noticeMainsLost s t ∧ ∀ ch, (t.channel ch).firing = none)
          ∧ (∀ ch, (t.channel ch).fine = (s.channel ch).fine ∧ (t.channel ch).direction = (s.channel ch).direction)
          ∧ onlyTouches [.hu, .pu] s t)
      ∧ (∀ ch d, (s.channel ch).firing = some d → ∃ t, exec (.dimmerFiring ch) s = .next t
          ∧ t.channel ch = { s.channel ch with firing := none, pulse := 100 }
          ∧ (∀ c, c ≠ ch → t.channel c = s.channel c) ∧ t.hu.mains = s.hu.mains ∧ onlyTouches [.hu] s t)
      ∧ (s.hu.mains.phase = .awaiting → exec .mainsOverrun s = .next s)
      ∧ (∀ ch, (s.channel ch).firing = none → exec (.dimmerFiring ch) s = .next s))

/-- HOUSE_FADE is refused with TRIP while the override is ON; otherwise, with N the half-cycles in its time (clamped
to 6,000) and D the distance, N or D of 0 sets the level at once with HOUSE_FADE_DONE, and any other fade runs
toward its target by a step of D over N rounded up, replacing a fade that was running.

A fade of distance D started over N half-cycles arrives at step ceil(D / s) of its own step s, which is no later
than the Nth: until then it is still running toward its target, and there it stands at the target with no fade
running. -/
def Obligations.HouseFadesStartAndArrive : Prop :=
  (∀ (n : Port) (ch : Channel) (level time : Nat) (s : State), level < 256 →
      ((s.channel ch).override = .on →
        exec (.houseFade n (numberOf ch) level time) s =
          .next (s.answer n (.houseFade n (numberOf ch) level time) .trip []))
      ∧ ((s.channel ch).override = .off → ∃ t, exec (.houseFade n (numberOf ch) level time) s = .next t
          ∧ (let c := s.channel ch
             let d := t.channel ch
             let halves := (if 6000 < time then 6000 else time) * 100000 / s.hu.mains.h
             let goal := level * 256
             let distance := if c.fine ≤ goal then goal - c.fine else c.fine - goal
             d.target = level ∧ d.override = .off ∧ d.lastDelay = c.lastDelay ∧ d.firing = c.firing
               ∧ d.pulse = c.pulse
              ∧ (halves = 0 ∨ distance = 0 → d.fine = goal ∧ d.step = 0 ∧ d.direction = .none
                  ∧ noticed (noticeHouseFadeDone ch) s t)
              ∧ (halves ≠ 0 → distance ≠ 0 → d.fine = c.fine ∧ distance ≤ d.step * halves
                ∧ (d.step - 1) * halves < distance
                  ∧ d.direction = (if c.fine < goal then .up else .down)
                  ∧ t.pu.ports = s.pu.ports))
          ∧ (∀ k, k ≠ ch → t.channel k = s.channel k) ∧ t.hu.mains = s.hu.mains
          ∧ t.pu.answers = (s.answer n (.houseFade n (numberOf ch) level time) .ok []).pu.answers
          ∧ onlyTouches [.hu, .pu] s t))
  ∧ (∀ (c : HouseChannel) (target time h : Nat), c.atOnce target time h = false →
      (let f := c.startFade target time h
       let arrival := (c.distance target + f.step - 1) / f.step
       0 < arrival ∧ arrival ≤ halfCycles time h
        ∧ (∀ k, k < arrival → (HouseChannel.stepFade^[k] f).direction = f.direction
            ∧ (HouseChannel.stepFade^[k] f).fine ≠ target * 256)
        ∧ (HouseChannel.stepFade^[arrival] f).fine = target * 256
          ∧ (HouseChannel.stepFade^[arrival] f).direction = .none
        ∧ (HouseChannel.stepFade^[arrival] f).level = target))

/-! ### Fire, shutters and the trip (spec/08) -/

/-- Any cause taken while the booth is CLEAR makes the whole booth safe: FIRE_TRIP from a port, the alarm's becoming
active, an OPEN shutter's limit becoming active (but for the shutter under test), and a gate flame flag in a
good reply of a station that is PRESENT, ABSENT or LOST. The order in which the blocks are signalled is the
model's reading: log 5. -/
def Obligations.ACauseInClearMakesTheBoothSafe : Prop :=
  ∀ (n : Port) (k : Shutter) (p : Projector) (begun : Nat) (signal : List Nat) (toggle : Bool) (x : Report) (s :
    State),
    s.fu.state = .clear →
    (∃ t, exec (.fireTrip n) s = .next t ∧ madeSafe (.manual n) s t
        ∧ (∀ j, (t.shutter j).limit = (s.shutter j).limit)
        ∧ t.pu.answers = (s.answer n (.fireTrip n) .ok []).pu.answers)
    ∧ (s.fu.alarm = .inactive → ∃ t, exec (.alarmChange .active) s = .next t ∧ madeSafe .alarmLine s t
        ∧ (∀ j, (t.shutter j).limit = (s.shutter j).limit) ∧ t.fu.alarm = .active ∧ t.pins.alarm = .active)
    ∧ ((s.shutter k).state = .opened → (s.shutter k).limit = .inactive → s.fu.underTest ≠ some k →
        ∃ t, exec (.shutterLimitChange k .active) s = .next t ∧ madeSafe (.shutterFall k) s t
        ∧ (t.shutter k).limit = .active ∧ ∀ j, j ≠ k → (t.shutter j).limit = (s.shutter j).limit)
    ∧ (heardReply p begun signal toggle (some x) s → x.gateFlame = .set →
        ∃ t, exec (.replyReceived begun signal) s = .next t ∧ madeSafe (.gateFlame p) s t
        ∧ ∀ j, (t.shutter j).limit = (s.shutter j).limit)

/-- While a trip is in force a cause from a source already recorded changes nothing and raises nothing, and one from
a new source is added to the end of the record with TRIP_CAUSE_ADDED; no block is signalled again: MANUAL and
ALARM_LINE, and GATE_FLAME in a report, whose reply raises nothing of its own where the station stays as it is,
its lamp is out and its screen shows nothing. The alarm's going inactive only writes its level.

The shutter events of a trip: a DROPPING shutter that reaches its limit is CLOSED, a JAMMED one freed to its
limit is CLOSED, a CLOSED one lifted off its limit is DROPPING and timed again, and a DROPPING one whose timer
runs out is JAMMED with SHUTTER_JAM. The hold stays as it was, and the SHUT test follows. -/
def Obligations.EventsDuringATrip : Prop :=
  (∀ (n : Port) (p : Projector) (begun : Nat) (signal : List Nat) (toggle : Bool) (x : Report) (s : State),
      s.fu.state ≠ .clear →
      (.manual n ∈ s.fu.causes → exec (.fireTrip n) s = .next (s.answer n (.fireTrip n) .ok []))
      ∧ (.manual n ∉ s.fu.causes → ∃ t, exec (.fireTrip n) s = .next t
          ∧ t.fu = { s.fu with causes := s.fu.causes ++ [.manual n] } ∧ noticed noticeTripCauseAdded s t
          ∧ t.pu.answers = (s.answer n (.fireTrip n) .ok []).pu.answers ∧ onlyTouches [.fu, .pu] s t)
      ∧ (s.fu.alarm = .inactive → ∃ t, exec (.alarmChange .active) s = .next t
          ∧ t.fu = { s.fu with
              alarm := .active, alarmRun := 0
              causes := if .alarmLine ∈ s.fu.causes then s.fu.causes else s.fu.causes ++ [.alarmLine] }
          ∧ (.alarmLine ∉ s.fu.causes → noticed noticeTripCauseAdded s t)
          ∧ (.alarmLine ∈ s.fu.causes → t.pu = s.pu) ∧ onlyTouches [.fu, .pu, .pins] s t)
      ∧ (∃ t, exec (.alarmChange .inactive) s = .next t ∧ t.fu = { s.fu with alarm := .inactive, alarmRun := 0 }
          ∧ onlyTouches [.fu, .pins] s t)
      ∧ (heardReply p begun signal toggle (some x) s → x.gateFlame = .set →
          ∃ t, exec (.replyReceived begun signal) s = .next t
          ∧ t.fu = { s.fu with
              causes := if .gateFlame p ∈ s.fu.causes then s.fu.causes else s.fu.causes ++ [.gateFlame p] }
          ∧ (.gateFlame p ∉ s.fu.causes → noticed noticeTripCauseAdded s t)
          ∧ (((s.station p).presence = .present ∨ (s.station p).goodRun = 0) → s.role p ≠ .onScreen →
            (s.lamp p).state ≠ .striking → (s.lamp p).state ≠ .burning →
            (s.screen (screenOf p)).changeover.state ≠ .waitingReady →
            (s.screen (screenOf p)).changeover.state ≠ .queued →
              onlyTouches [.lc, .su, .fu, .pu] s t ∧ t.su = { s.su with marks := t.su.marks }
                ∧ (.gateFlame p ∈ s.fu.causes → t.pu = s.pu))))
  ∧ (∀ (k : Shutter) (s : State), s.fu.state ≠ .clear →
      (let isShut (t : State) : Prop := ∀ j, (t.shutter j).state = .closed ∨ (t.shutter j).state = .jammed
       let kept (t : State) : Prop :=
        (∀ j, j ≠ k → t.shutter j = s.shutter j) ∧ (t.shutter k).hold = (s.shutter k).hold
          ∧ (t.shutter k).lastTest = (s.shutter k).lastTest ∧ t.fu.causes = s.fu.causes
            ∧ t.fu.underTest = s.fu.underTest
          ∧ (isShut t → t.fu.state = .shut) ∧ (¬ isShut t → t.fu.state = .tripped)
          ∧ (isShut t → s.fu.state = .tripped → noticed noticeFireShut s t)
       ((s.shutter k).limit = .inactive → ((s.shutter k).state = .dropping ∨ (s.shutter k).state = .jammed) →
          ∃ t, exec (.shutterLimitChange k .active) s = .next t ∧ kept t
          ∧ (t.shutter k).state = .closed ∧ (t.shutter k).limit = .active
          ∧ ((s.shutter k).state = .dropping → (t.shutter k).dropTimer = none))
        ∧ ((s.shutter k).limit = .active → (s.shutter k).state = .closed →
          ∃ t, exec (.shutterLimitChange k .inactive) s = .next t ∧ kept t
          ∧ (t.shutter k).state = .dropping ∧ (t.shutter k).limit = .inactive
          ∧ (t.shutter k).dropTimer = some ⟨1500, 0⟩)
        ∧ (∀ x, (s.shutter k).dropTimer = some x → (s.shutter k).state = .dropping →
          ∃ t, exec (.shutterDropTimeout k) s = .next t ∧ kept t
          ∧ (t.shutter k).state = .jammed ∧ (t.shutter k).dropTimer = none ∧ noticed noticeShutterJam s t)))

/-- FIRE_REARM is refused with DENIED without the SAFETY right, and with STATE unless the booth is SHUT with every
shutter CLOSED and every recorded cause clear. Taken, it energizes every hold, sets every shutter RAISING,
empties the record, and ends the trip in every block; desired states, lamps, levels and screens stay as the trip
left them. (No projector stands armed and no changeover is in flight, as the trip leaves them.)

SHUTTER_TEST, from a SAFETY port, is taken only in CLEAR with no test under way, the shutter OPEN and (for a
projection shutter) its projector IDLE; it drops the shutter. The test passes when the limit comes and fails
when the drop timer runs out: the hold is energized, the result written, and SHUTTER_TEST_DONE raised. In CLEAR
a RAISING shutter that leaves its limit is OPEN, and a JAMMED one that reaches it is RAISING. -/
def Obligations.RearmAndDropTests : Prop :=
  (∀ (n : Port) (s : State),
      ((s.port n).safety = false → exec (.fireRearm n) s = .next (s.answer n (.fireRearm n) .denied []))
      ∧ ((s.port n).safety = true →
          (s.fu.state ≠ .shut ∨ (∃ k, (s.shutter k).state ≠ .closed) ∨ ∃ c ∈ s.fu.causes, s.causeClear c = false) →
          exec (.fireRearm n) s = .next (s.answer n (.fireRearm n) .state []))
      ∧ ((s.port n).safety = true → s.fu.state = .shut → (∀ k, (s.shutter k).state = .closed) →
          (∀ c ∈ s.fu.causes, s.causeClear c = true) → (∀ p, s.role p = .idle) →
          (∀ sc, (s.screen sc).changeover.state ≠ .waitingReady ∧ (s.screen sc).changeover.state ≠ .queued) →
          ∃ t, exec (.fireRearm n) s = .next t
          ∧ t.fu.state = .clear ∧ t.fu.causes = []
          ∧ (∀ k, t.shutter k = { s.shutter k with state := .raising, hold := .energized, dropTimer := none })
          ∧ t.lc = { s.lc with tripInForce := false } ∧ t.lu = { s.lu with tripInForce := false }
          ∧ t.su = { s.su with tripInForce := false } ∧ t.hu.mains = s.hu.mains
          ∧ (∀ ch, t.channel ch = { s.channel ch with override := .off }) ∧ t.fu.alarm = s.fu.alarm
          ∧ noticed noticeFireRearmed s t ∧ t.pu.answers = (s.answer n (.fireRearm n) .ok []).pu.answers
          ∧ onlyTouches [.lc, .lu, .su, .hu, .fu, .pu] s t))
  ∧ (∀ (n : Port) (k : Shutter) (s : State),
      ((s.port n).safety = false →
        exec (.shutterTest n (numberOf k)) s = .next (s.answer n (.shutterTest n (numberOf k)) .denied []))
      ∧ ((s.port n).safety = true →
          (s.fu.state ≠ .clear ∨ s.fu.underTest ≠ none ∨ (s.shutter k).state ≠ .opened
            ∨ ∃ p, shutterProjector k = some p ∧ s.role p ≠ .idle) →
          exec (.shutterTest n (numberOf k)) s = .next (s.answer n (.shutterTest n (numberOf k)) .state []))
      ∧ ((s.port n).safety = true → s.fu.state = .clear → s.fu.underTest = none → (s.shutter k).state = .opened →
          (∀ p, shutterProjector k = some p → s.role p = .idle) →
          ∃ t, exec (.shutterTest n (numberOf k)) s = .next t
          ∧ t.fu.underTest = some k ∧ t.fu.state = .clear ∧ t.fu.causes = s.fu.causes
          ∧ t.shutter k = { s.shutter k with state := .dropping, hold := .released, dropTimer := some ⟨1500, 0⟩ }
          ∧ otherShuttersKept k s t ∧ t.su.roles = s.su.roles
          ∧ t.pu.answers = (s.answer n (.shutterTest n (numberOf k)) .ok []).pu.answers
          ∧ onlyTouches [.lc, .su, .fu, .pu] s t)
      ∧ (s.fu.state = .clear → s.fu.underTest = some k → (s.shutter k).state = .dropping →
          ((s.shutter k).limit = .inactive → ∃ t, exec (.shutterLimitChange k .active) s = .next t
            ∧ t.shutter k = ⟨.raising, .energized, .active, 0, none, .pass⟩ ∧ t.fu.underTest = none
              ∧ t.fu.state = .clear
            ∧ noticed noticeShutterTestDone s t ∧ otherShuttersKept k s t)
          ∧ (∀ x, (s.shutter k).dropTimer = some x → ∃ t, exec (.shutterDropTimeout k) s = .next t
            ∧ t.shutter k = { s.shutter k with
              state := .jammed, hold := .energized, dropTimer := none, lastTest := .fail }
            ∧ t.fu.underTest = none ∧ t.fu.state = .clear ∧ noticed noticeShutterTestDone s t
              ∧ otherShuttersKept k s t))
      ∧ (s.fu.state = .clear → (s.shutter k).state = .raising → (s.shutter k).limit = .active →
          ∃ t, exec (.shutterLimitChange k .inactive) s = .next t
          ∧ t.shutter k = { s.shutter k with state := .opened, limit := .inactive, sampleRun := 0 }
          ∧ otherShuttersKept k s t ∧ t.fu.state = .clear ∧ t.fu.causes = s.fu.causes)
      ∧ (s.fu.state = .clear → (s.shutter k).state = .jammed → (s.shutter k).limit = .inactive →
          ∃ t, exec (.shutterLimitChange k .active) s = .next t
          ∧ t.shutter k = { s.shutter k with state := .raising, limit := .active, sampleRun := 0 }
          ∧ otherShuttersKept k s t ∧ t.fu.state = .clear ∧ t.fu.causes = s.fu.causes))

/-! ### Console ports and notices (spec/09) -/

/-- A write strobe by the frame state: IDLE takes the byte as a code, RECEIVING takes the count and then the
arguments, EXECUTING holds the byte unacknowledged, REPLYING abandons the response and takes the byte as a new
code. A port whose clear line is held acknowledges nothing. Every byte taken is summed and restarts the gap
timer. The direction line of a write strobe says write, and the port drives nothing.

A pulse on the clear line returns its port to IDLE with no partial frame, held write or response, keeping its
rights, its notices and its mask, and the frames already passed; the gap timer's running out discards the frame
of a RECEIVING port, and touches no other. The waiting strobe, the direction line, the driven byte and the held
clear line are the model's fields: logs 17 and 18. -/
def Obligations.PortStrobesAndClear : Prop :=
  (∀ (n : Port) (b : Byte) (s : State),
      (∃ t, exec (.writeStrobe n b) s = .next t ∧ (t.port n).direction = .write ∧ (t.port n).driven = none
        ∧ (t.port n).untilWrite = none ∧ (∀ m, m ≠ n → t.port m = s.port m) ∧ onlyTouches [.pu] s t)
      ∧ ((s.port n).clearHeld = false → ((s.port n).frameState = .idle ∨ (s.port n).frameState = .replying) →
        ∃ t, exec (.writeStrobe n b) s = .next t
        ∧ (t.port n).frameState = .receiving ∧ (t.port n).code = some b ∧ (t.port n).statedCount = none
        ∧ (t.port n).arguments = [] ∧ (t.port n).runningSum = b ∧ (t.port n).gapTimer = some ⟨20, 0⟩
        ∧ (t.port n).acknowledged = true ∧ ((s.port n).frameState = .replying → (t.port n).response = none)
        ∧ (t.port n).pendingSet = (s.port n).pendingSet ∧ otherPortsKept n s t ∧ onlyTouches [.pu] s t)
      ∧ ((s.port n).clearHeld = false → (s.port n).frameState = .receiving → (s.port n).statedCount = none →
        ∃ t, exec (.writeStrobe n b) s = .next t
        ∧ (t.port n).frameState = .receiving ∧ (t.port n).statedCount = some b
        ∧ (t.port n).runningSum = (s.port n).runningSum + b ∧ (t.port n).gapTimer = some ⟨20, 0⟩
        ∧ (t.port n).arguments = (s.port n).arguments ∧ (t.port n).code = (s.port n).code
        ∧ (t.port n).acknowledged = true ∧ otherPortsKept n s t ∧ onlyTouches [.pu] s t)
      ∧ (∀ count, (s.port n).statedCount = some count → (s.port n).clearHeld = false →
        (s.port n).frameState = .receiving → (s.port n).arguments.length < count.toNat →
        ∃ t, exec (.writeStrobe n b) s = .next t
        ∧ (t.port n).frameState = .receiving ∧ (t.port n).arguments = (s.port n).arguments ++ [b]
        ∧ (t.port n).runningSum = (s.port n).runningSum + b ∧ (t.port n).gapTimer = some ⟨20, 0⟩
        ∧ (t.port n).statedCount = some count ∧ (t.port n).code = (s.port n).code
        ∧ (t.port n).acknowledged = true ∧ otherPortsKept n s t ∧ onlyTouches [.pu] s t)
      ∧ ((s.port n).clearHeld = false → (s.port n).frameState = .executing →
        ∃ t, exec (.writeStrobe n b) s = .next t
        ∧ (t.port n).frameState = .executing ∧ (t.port n).writeHeld = some b ∧ (t.port n).acknowledged = false
        ∧ (t.port n).code = (s.port n).code ∧ (t.port n).answerOwed = (s.port n).answerOwed
        ∧ otherPortsKept n s t ∧ onlyTouches [.pu] s t)
      ∧ ((s.port n).clearHeld = true → ∃ t, exec (.writeStrobe n b) s = .next t
        ∧ t.port n = { s.port n with
            direction := .write, untilWrite := none, acknowledged := false, driven := none }
        ∧ otherPortsKept n s t ∧ onlyTouches [.pu] s t))
  ∧ (∀ (n : Port) (held : Bool) (s : State),
      (∃ t, exec (.portClear n held) s = .next t
        ∧ t.port n = { s.port n with
            frameState := .idle, code := none, statedCount := none, arguments := [], runningSum := 0, gapTimer := none
            response := none, readPosition := 0, writeHeld := none, answerOwed := false, clearHeld := held
            readWaiting := false, driven := none, acknowledged := false }
        ∧ otherPortsKept n s t ∧ onlyTouches [.pu] s t)
      ∧ ((s.port n).frameState = .receiving → ∃ t, exec (.gapTimeout n) s = .next t
        ∧ t.port n = { s.port n with
            frameState := .idle, code := none, statedCount := none, arguments := [], runningSum := 0, gapTimer :=
              none }
        ∧ otherPortsKept n s t ∧ onlyTouches [.pu] s t)
      ∧ ((s.port n).frameState ≠ .receiving → exec (.gapTimeout n) s = .next s))

/-- The check byte completes a frame, which is checked in order: its sum, its code, its length, the rights, the
ranges. The first that fails answers its status with no data, and the frame reaches no owner; a frame that
passes all five is passed to its owner and the port is EXECUTING with an answer owed. The numbering of frames,
and the refusal in the same step, are the model's: logs 19 and 25. -/
def Obligations.FramesAreCheckedInOrder : Prop :=
  ∀ (n : Port) (b code count : Byte) (s : State), (s.port n).clearHeld = false → (s.port n).frameState = .receiving →
    (s.port n).code = some code → (s.port n).statedCount = some count →
    count.toNat ≤ (s.port n).arguments.length →
    ∃ t, exec (.writeStrobe n b) s = .next t
      ∧ (let fails (st : Status) : Prop :=
          (t.port n).frameState = .replying ∧ (t.port n).response = some (Response.build st [])
            ∧ (t.port n).readPosition = 0 ∧ (t.port n).answerOwed = false ∧ t.pu.passed = s.pu.passed
         let args := (s.port n).arguments
         let sum := (s.port n).runningSum + b
         (sum ≠ 0 → fails .check)
          ∧ (sum = 0 → argumentCount code = none → fails .unknown)
          ∧ (∀ k, argumentCount code = some k → sum = 0 → count.toNat ≠ k → fails .length)
          ∧ (∀ c, decodeCommand n code args = some c → sum = 0 → argumentCount code = some count.toNat →
              ((s.port n).grants (rightNeeded c) = false → fails .denied)
              ∧ ((s.port n).grants (rightNeeded c) = true → inRange c = false → fails .range)
              ∧ ((s.port n).grants (rightNeeded c) = true → inRange c = true →
                  (t.port n).frameState = .executing ∧ (t.port n).answerOwed = true
                    ∧ (t.port n).frameTag = (s.port n).frameTag + 1
                    ∧ t.pu.passed = s.pu.passed ++ [⟨n, (s.port n).frameTag + 1, c⟩])))
      ∧ (t.port n).gapTimer = none ∧ (t.port n).pendingSet = (s.port n).pendingSet
      ∧ (∀ m, m ≠ n → t.port m = s.port m) ∧ t.pu.routes = s.pu.routes ∧ t.pu.answers = s.pu.answers
      ∧ onlyTouches [.pu] s t

/-- A console command written byte by byte on an IDLE port, as its frame of section 10.1, reaches its owner as that
very command, whatever its arguments: code, count, arguments most significant byte first, and the check byte.
The numbering of frames is the model's: log 25. -/
def Obligations.WrittenFrameReachesItsOwner : Prop :=
  ∀ (n : Port) (c : Instr) (bytes : List Byte) (s : State), commandFrame c = some (n, bytes) → c.wellFormed = true →
    (s.port n).grants (rightNeeded c) = true → inRange c = true → (s.port n).clearHeld = false →
    (s.port n).frameState = .idle →
    ∃ t, execAll (bytes.map (Instr.writeStrobe n)) s = .next t
      ∧ (t.port n).frameState = .executing ∧ (t.port n).answerOwed = true
      ∧ t.pu.passed = s.pu.passed ++ [⟨n, (t.port n).frameTag, c⟩]
      ∧ (t.port n).pendingSet = (s.port n).pendingSet ∧ (∀ m, m ≠ n → t.port m = s.port m)
      ∧ t.pu.answers = s.pu.answers ∧ onlyTouches [.pu] s t

/-- Decoding the code and argument bytes of a console command gives the command back with every operand at every
value its bytes allow, and the bytes are as many as its code's argument count.

Encoding a decoded command gives its code and argument bytes back: no bit of a frame's arguments is dropped. -/
def Obligations.CommandBytesAndCommandsAgree : Prop :=
  (∀ (c : Instr) (n : Port) (code : Byte) (args : List Byte), c.wellFormed = true →
      encodeCommand c = some (n, code, args) →
      decodeCommand n code args = some c ∧ argumentCount code = some args.length)
  ∧ (∀ (c : Instr) (n : Port) (code : Byte) (args : List Byte), decodeCommand n code args = some c →
      encodeCommand c = some (n, code, args) ∧ c.wellFormed = true ∧ argumentCount code = some args.length)

/-- A read strobe on a REPLYING port gives the byte at the read position and moves on, and after the check byte the
port is IDLE with no response; on any other port the strobe waits. Under a held clear line the strobe is not
acknowledged and leaves nothing that waits. The direction line says read from the strobe on, and while it does
the byte given is driven. The bytes of a response are its status, the number of its data bytes, the data and a
check byte that brings their sum to 0.

An owner's answer to the frame a port is EXECUTING becomes the port's response, to be read from its first byte;
a write held meanwhile then starts a new frame, and a read strobe that waits is given the first byte, driven if
the direction line still says read. An answer to any other frame is discarded, the port untouched. (The oldest
answer for the port arrives first.) The waiting strobe, what a strobe under a held clear line leaves, and the
numbering that ties an answer to its frame are the model's: logs 17, 18 and 25. -/
def Obligations.AnswersAreReadByTheirPort : Prop :=
  (∀ (n : Port) (turn : Option Nat) (st : Status) (data : List Byte) (s : State),
      (∀ x, (s.port n).response = some x → (s.port n).clearHeld = false → (s.port n).frameState = .replying →
        ∃ t, exec (.readStrobe ⟨n, turn⟩) s = .next t
        ∧ (t.port n).direction = .read ∧ (t.port n).untilWrite = turn
        ∧ (t.port n).driven = x.bytes[(s.port n).readPosition]? ∧ (t.port n).acknowledged = true
        ∧ ((s.port n).readPosition + 1 < x.data.length + 3 →
            (t.port n).readPosition = (s.port n).readPosition + 1 ∧ (t.port n).response = some x
              ∧ (t.port n).frameState = .replying)
        ∧ (x.data.length + 3 ≤ (s.port n).readPosition + 1 →
            (t.port n).readPosition = 0 ∧ (t.port n).response = none ∧ (t.port n).frameState = .idle)
        ∧ otherPortsKept n s t ∧ onlyTouches [.pu] s t)
      ∧ ((s.port n).clearHeld = false → (s.port n).frameState ≠ .replying →
        ∃ t, exec (.readStrobe ⟨n, turn⟩) s = .next t
        ∧ t.port n = { s.port n with
            direction := .read, untilWrite := turn, readWaiting := true, acknowledged := false, driven := none }
        ∧ otherPortsKept n s t ∧ onlyTouches [.pu] s t)
      ∧ ((s.port n).clearHeld = true → ∃ t, exec (.readStrobe ⟨n, turn⟩) s = .next t
        ∧ t.port n = { s.port n with
            direction := .read, untilWrite := turn, acknowledged := false, driven := none }
        ∧ otherPortsKept n s t ∧ onlyTouches [.pu] s t)
      ∧ (Response.build st data).bytes.foldl (fun a b => a + b) 0 = 0
      ∧ (Response.build st data).bytes.length = data.length + 3
      ∧ (Response.build st data).bytes.take 2 = [st.code, BitVec.ofNat 8 data.length])
  ∧ (∀ (n : Port) (a : Answer) (rest : List Answer) (s : State), s.pu.answers = a :: rest → a.port = n →
      ((s.port n).frameState = .executing → (s.port n).answerOwed = true → a.tag = some (s.port n).frameTag →
        ∃ t, exec (.ownerAnswer n) s = .next t
        ∧ t.pu.answers = rest ∧ (t.port n).answerOwed = false
        ∧ ((s.port n).writeHeld = none → (t.port n).frameState = .replying
            ∧ (t.port n).response = some (Response.build a.status a.data) ∧ (t.port n).readWaiting = false
            ∧ ((s.port n).readWaiting = false → (t.port n).readPosition = 0 ∧ (t.port n).driven = (s.port n).driven
                ∧ (t.port n).acknowledged = (s.port n).acknowledged)
            ∧ ((s.port n).readWaiting = true → (t.port n).readPosition = 1
                ∧ (t.port n).driven = (if (s.port n).direction = .read then some a.status.code else none)
                ∧ (t.port n).acknowledged = true))
        ∧ (∀ b, (s.port n).writeHeld = some b → (t.port n).frameState = .receiving ∧ (t.port n).code = some b
            ∧ (t.port n).response = none ∧ (t.port n).readPosition = 0 ∧ (t.port n).writeHeld = none
            ∧ (t.port n).acknowledged = true ∧ (t.port n).driven = none ∧ (t.port n).readWaiting = false)
        ∧ (t.port n).direction = (s.port n).direction ∧ (t.port n).untilWrite = (s.port n).untilWrite
        ∧ (∀ m, m ≠ n → t.port m = s.port m) ∧ t.pu.passed = s.pu.passed ∧ onlyTouches [.pu] s t)
      ∧ (((s.port n).frameState ≠ .executing ∨ (s.port n).answerOwed = false ∨ a.tag ≠ some (s.port n).frameTag) →
        ∃ t, exec (.ownerAnswer n) s = .next t ∧ t.pu = { s.pu with answers := rest } ∧ onlyTouches [.pu] s t))

/-- NOTICE_NEXT takes the lowest notice that the port's mask does not hide and answers its number, or answers 255
and takes none; the attention line then shows whether a notice the mask does not hide is left.

NOTICE_FLUSH empties the port's pending set, hidden notices included, and its attention line falls; NOTICE_MASK
replaces its mask set and sets the attention line afresh, the pending set untouched. Neither touches another
port. -/
def Obligations.NoticesAreTakenAndHidden : Prop :=
  (∀ (n : Port) (s : State),
      (∀ k : Notice, (s.port n).pendingSet.getLsbD k.val = true → (s.port n).maskSet.getLsbD k.val = false →
        (∀ j : Notice, j < k → (s.port n).pendingSet.getLsbD j.val = true → (s.port n).maskSet.getLsbD j.val = true) →
        ∃ t, exec (.noticeNext n) s = .next t
        ∧ (∀ j : Notice, (t.port n).pendingSet.getLsbD j.val = (decide (j ≠ k) && (s.port n).pendingSet.getLsbD
          j.val))
        ∧ ((t.port n).attention = true ↔
            ∃ j : Notice, (t.port n).pendingSet.getLsbD j.val = true ∧ (t.port n).maskSet.getLsbD j.val = false)
        ∧ (t.port n).maskSet = (s.port n).maskSet ∧ (t.port n).frameState = (s.port n).frameState
        ∧ t.pu.answers = (s.answer n (.noticeNext n) .ok [BitVec.ofNat 8 k.val]).pu.answers
        ∧ (∀ m, m ≠ n → t.port m = s.port m) ∧ t.pu.routes = s.pu.routes ∧ onlyTouches [.pu] s t)
      ∧ ((∀ k : Notice, (s.port n).pendingSet.getLsbD k.val = true → (s.port n).maskSet.getLsbD k.val = true) →
        exec (.noticeNext n) s = .next (s.answer n (.noticeNext n) .ok [255])))
  ∧ (∀ (n : Port) (hidden : NoticeSet) (s : State),
      (∃ t, exec (.noticeFlush n) s = .next t
        ∧ t.port n = { s.port n with pendingSet := 0, attention := false }
        ∧ t.pu.answers = (s.answer n (.noticeFlush n) .ok []).pu.answers
        ∧ (∀ m, m ≠ n → t.port m = s.port m) ∧ t.pu.routes = s.pu.routes ∧ onlyTouches [.pu] s t)
      ∧ (∃ t, exec (.noticeMask n hidden) s = .next t
        ∧ t.port n = { s.port n with maskSet := hidden, attention := (t.port n).attention }
        ∧ ((t.port n).attention = true ↔
            ∃ j : Notice, (s.port n).pendingSet.getLsbD j.val = true ∧ hidden.getLsbD j.val = false)
        ∧ t.pu.answers = (s.answer n (.noticeMask n hidden) .ok []).pu.answers
        ∧ (∀ m, m ≠ n → t.port m = s.port m) ∧ t.pu.routes = s.pu.routes ∧ onlyTouches [.pu] s t))

/-- NOTICE_ROUTE, from a SETUP port, replaces one route entry, which acts from the next raise of its notice; pending
sets are untouched. An unassigned number or another port in the set is refused with RANGE, and a port without
SETUP with DENIED. A raise makes its notice pending, once, on every port of its entry and on no other. -/
def Obligations.NoticeRouteRulesTheNextRaise : Prop :=
  ∀ (n : Port) (notice ports : Nat) (s : State),
    ((s.port n).setup = false →
      exec (.noticeRoute n notice ports) s = .next (s.answer n (.noticeRoute n notice ports) .denied []))
    ∧ ((s.port n).setup = true → ((10 ≤ notice ∧ notice ≤ 15) ∨ 63 < notice ∨ 7 < ports) →
      exec (.noticeRoute n notice ports) s = .next (s.answer n (.noticeRoute n notice ports) .range []))
    ∧ ((s.port n).setup = true → ¬ ((10 ≤ notice ∧ notice ≤ 15) ∨ 63 < notice ∨ 7 < ports) →
      ∃ t, exec (.noticeRoute n notice ports) s = .next t
      ∧ (∀ k : Notice, k.val = notice → t.route k = BitVec.ofNat 3 ports
          ∧ ∀ m, (t.raise k).port m = if ports.testBit m.val = true then
              { s.port m with
                pendingSet := (s.port m).pendingSet ||| noticeBit k
                attention := ((s.port m).pendingSet ||| noticeBit k) &&& ~~~(s.port m).maskSet != 0 }
            else s.port m)
      ∧ (∀ k : Notice, k.val ≠ notice → t.route k = s.route k) ∧ t.pu.ports = s.pu.ports
      ∧ t.pu.answers = (s.answer n (.noticeRoute n notice ports) .ok []).pu.answers ∧ onlyTouches [.pu] s t)

/-! ### Reels and cue lists (spec/04) -/

/-- CUE_NEW takes the free list's head, writes it fresh, and places it at the tail of the screen's list; the
generation rises and the answer carries the index and the new generation. While a performing screen's pointer
names no record, the new record becomes its next cue (the model's choice that only a performing screen's pointer
is given it: log 8).

CUE_NEW_BEFORE and CUE_NEW_AFTER place the free list's head, written fresh, just before or just after a record
of the screen's list, where no live record follows the place. Placed after the last record of a performing
screen whose pointer names none, which is all live region, the new record becomes the next cue. -/
def Obligations.NewCuesArePlaced : Prop :=
  (∀ (n : Port) (sc : Screen) (x : CueIx) (rest : List CueIx) (s : State), s.su.free = x :: rest →
      ∃ t, exec (.cueNew n (numberOf sc) (s.screen sc).generation) s = .next t
        ∧ (let g := ((s.screen sc).generation + 1) % 65536
           t.screen sc = { s.screen sc with
              list := (s.screen sc).list ++ [x], generation := g
              next := if (s.screen sc).next = none ∧ (s.screen sc).state.performing = true then some x
                else (s.screen sc).next }
            ∧ t.pu = (s.answer n (.cueNew n (numberOf sc) (s.screen sc).generation) .ok
                [BitVec.ofNat 8 x.val, BitVec.ofNat 8 (g / 256), BitVec.ofNat 8 g]).pu)
        ∧ t.su.free = rest ∧ t.cue x = ⟨0, .end_, .go, .pending⟩ ∧ (∀ y, y ≠ x → t.cue y = s.cue y)
        ∧ otherScreensKept sc s t ∧ onlyTouches [.su, .pu] s t)
  ∧ (∀ (n : Port) (sc : Screen) (x y : CueIx) (rest pre post : List CueIx) (s : State),
      s.su.free = x :: rest → (s.screen sc).list = pre ++ y :: post → y ∉ pre → x ∉ (s.screen sc).list →
      (let g := ((s.screen sc).generation + 1) % 65536
       let placed (c : Instr) (l : List CueIx) (next : Option CueIx) (t : State) : Prop :=
          t.screen sc = { s.screen sc with list := l, generation := g, next := next }
            ∧ t.su.free = rest ∧ t.cue x = ⟨0, .end_, .go, .pending⟩ ∧ (∀ z, z ≠ x → t.cue z = s.cue z)
            ∧ t.pu = (s.answer n c .ok [BitVec.ofNat 8 x.val, BitVec.ofNat 8 (g / 256), BitVec.ofNat 8 g]).pu
            ∧ otherScreensKept sc s t ∧ onlyTouches [.su, .pu] s t
       ((s.screen sc).isLive y = false →
          ∃ t, exec (.cueNewBefore n (numberOf sc) (s.screen sc).generation y.val) s = .next t
          ∧ placed (.cueNewBefore n (numberOf sc) (s.screen sc).generation y.val) (pre ++ x :: y :: post) (s.screen
            sc).next t)
        ∧ ((∀ z, post.head? = some z → (s.screen sc).isLive z = false) →
          ∃ t, exec (.cueNewAfter n (numberOf sc) (s.screen sc).generation y.val) s = .next t
          ∧ placed (.cueNewAfter n (numberOf sc) (s.screen sc).generation y.val) (pre ++ y :: x :: post)
              (if (s.screen sc).next = none ∧ (s.screen sc).state.performing = true ∧ post = [] then some x
                else (s.screen sc).next) t)))

/-- A move unlinks a record and places it before or after another of the same list; moving a record beside itself
changes nothing but the generation. CUE_FREE unlinks a record and returns it, contents kept, to the free list's
tail. Each is for records outside the live region. That the pointer of a screen not performing keeps the number
of a freed record is the model's choice: log 9. -/
def Obligations.CuesAreMovedAndFreed : Prop :=
  ∀ (n : Port) (sc : Screen) (x y : CueIx) (pre post : List CueIx) (s : State),
    x ∈ (s.screen sc).list → y ∈ (s.screen sc).list → (s.screen sc).isLive x = false →
    (let gen := (s.screen sc).generation
     let g := (gen + 1) % 65536
     let edited (c : Instr) (l : List CueIx) (t : State) : Prop :=
        t.screen sc = { s.screen sc with list := l, generation := g } ∧ t.su.cues = s.su.cues
          ∧ t.pu = (s.answer n c .ok [BitVec.ofNat 8 x.val, BitVec.ofNat 8 (g / 256), BitVec.ofNat 8 g]).pu
          ∧ otherScreensKept sc s t ∧ onlyTouches [.su, .pu] s t
     ((s.screen sc).list.erase x = pre ++ y :: post → y ∉ pre → x ≠ y → (s.screen sc).isLive y = false →
        ∃ t, exec (.cueMoveBefore n (numberOf sc) gen x.val y.val) s = .next t
        ∧ edited (.cueMoveBefore n (numberOf sc) gen x.val y.val) (pre ++ x :: y :: post) t ∧ t.su.free = s.su.free)
      ∧ ((s.screen sc).list.erase x = pre ++ y :: post → y ∉ pre → x ≠ y → (s.screen sc).liveAfter y = false →
        ∃ t, exec (.cueMoveAfter n (numberOf sc) gen x.val y.val) s = .next t
        ∧ edited (.cueMoveAfter n (numberOf sc) gen x.val y.val) (pre ++ y :: x :: post) t ∧ t.su.free = s.su.free)
      ∧ (∃ t, exec (.cueMoveBefore n (numberOf sc) gen x.val x.val) s = .next t
        ∧ edited (.cueMoveBefore n (numberOf sc) gen x.val x.val) (s.screen sc).list t ∧ t.su.free = s.su.free)
      ∧ ((s.screen sc).liveAfter x = false → ∃ t, exec (.cueMoveAfter n (numberOf sc) gen x.val x.val) s = .next t
        ∧ edited (.cueMoveAfter n (numberOf sc) gen x.val x.val) (s.screen sc).list t ∧ t.su.free = s.su.free)
      ∧ (∃ t, exec (.cueFree n (numberOf sc) gen x.val) s = .next t
        ∧ edited (.cueFree n (numberOf sc) gen x.val) ((s.screen sc).list.erase x) t
        ∧ t.su.free = s.su.free ++ [x]))

/-- CUE_WRITE writes the label, the kind with its own fields and the trigger with its own values into a record
outside the live region, times clamped to 6,000, its state kept. -/
def Obligations.CueWriteWritesTheContents : Prop :=
  ∀ (n : Port) (sc : Screen) (x : CueIx) (f : CueFields) (s : State),
    x ∈ (s.screen sc).list → (s.screen sc).isLive x = false → f.wellFormed = true → f.label ≤ 999 → f.kind ≤ 5 →
    f.trigger ≤ 3 → (f.trigger = 1 → f.first < f.second) → (f.kind = 3 → f.target ≤ 3) →
    ∃ t, exec (.cueWrite n (numberOf sc) (s.screen sc).generation x.val f) s = .next t
      ∧ (t.cue x).label = f.label ∧ (t.cue x).state = (s.cue x).state
      ∧ (f.kind = 0 → (t.cue x).kind = .strike) ∧ (f.kind = 1 → (t.cue x).kind = .motor)
      ∧ (f.kind = 2 → (t.cue x).kind = .change)
      ∧ (f.kind = 3 → f.target = 0 → (t.cue x).kind = .douser .incomingOpen)
      ∧ (f.kind = 3 → f.target = 1 → (t.cue x).kind = .douser .incomingClose)
      ∧ (f.kind = 3 → f.target = 2 → (t.cue x).kind = .douser .outgoingOpen)
      ∧ (f.kind = 3 → f.target = 3 → (t.cue x).kind = .douser .outgoingClose)
      ∧ (f.kind = 4 → (t.cue x).kind = .house f.level (if 6000 < f.time then 6000 else f.time))
      ∧ (f.kind = 5 → (t.cue x).kind = .end_)
      ∧ (f.trigger = 0 → (t.cue x).trigger = .frames f.first)
      ∧ (f.trigger = 1 → (t.cue x).trigger = .mark f.first f.second)
      ∧ (f.trigger = 2 → (t.cue x).trigger = .after (if 6000 < f.first then 6000 else f.first))
      ∧ (f.trigger = 3 → (t.cue x).trigger = .go)
      ∧ (∀ y, y ≠ x → t.cue y = s.cue y)
      ∧ (let g := ((s.screen sc).generation + 1) % 65536
         t.screen sc = { s.screen sc with generation := g }
          ∧ t.pu = (s.answer n (.cueWrite n (numberOf sc) (s.screen sc).generation x.val f) .ok
              [BitVec.ofNat 8 x.val, BitVec.ofNat 8 (g / 256), BitVec.ofNat 8 g]).pu)
      ∧ t.su.free = s.su.free ∧ otherScreensKept sc s t ∧ onlyTouches [.su, .pu] s t

/-- An edit is ruled on in order: STALE with the present generation, then RANGE, then LIVE, then EMPTY; refused, it
changes nothing. The live region of a performing screen is its list up to and including the next cue, the whole
list when the pointer names none, and empty on any other screen. The operands are numbers, also such as no frame
carries: log 28. -/
def Obligations.EditsAreRuledOnInOrder : Prop :=
  ∀ (n : Port) (sc : Screen) (gen : Nat) (x y : CueIx) (f : CueFields) (r : ReelIx) (length side : Nat) (s : State),
    (let k := numberOf sc
     let present := (s.screen sc).generation
     let l := (s.screen sc).list
     let refused (st : Status) (data : List Byte) (c : Instr) : Prop := exec c s = .next (s.answer n c st data)
     let live (z : CueIx) : Prop := (s.screen sc).isLive z = true
     (gen ≠ present → ∀ c ∈ [Instr.cueNew n k gen, .cueNewBefore n k gen x.val, .cueNewAfter n k gen x.val,
        .cueMoveBefore n k gen x.val y.val, .cueMoveAfter n k gen x.val y.val, .cueWrite n k gen x.val f,
        .cueFree n k gen x.val, .reelSet n k gen (numberOf r) length side, .showClear n k gen],
        refused .stale [BitVec.ofNat 8 (present / 256), BitVec.ofNat 8 present] c)
      ∧ (gen = present → x ∉ l → ∀ c ∈ [Instr.cueNewBefore n k gen x.val, .cueNewAfter n k gen x.val,
        .cueMoveBefore n k gen x.val y.val, .cueMoveBefore n k gen y.val x.val, .cueMoveAfter n k gen x.val y.val,
        .cueMoveAfter n k gen y.val x.val, .cueWrite n k gen x.val f, .cueFree n k gen x.val], refused .range [] c)
      ∧ (gen = present → (999 < f.label ∨ 5 < f.kind ∨ 3 < f.trigger ∨ (f.kind = 3 ∧ 3 < f.target)
            ∨ (f.trigger = 1 ∧ f.first < 65536 ∧ f.second ≤ f.first)) →
          refused .range [] (.cueWrite n k gen x.val f))
      ∧ (gen = present → (length = 0 ∨ 60000 < length ∨ 1 < side) →
          refused .range [] (.reelSet n k gen (numberOf r) length side))
      ∧ (gen = present → x ∈ l → y ∈ l → live x → ∀ c ∈ [Instr.cueNewBefore n k gen x.val,
        .cueMoveBefore n k gen x.val y.val, .cueMoveBefore n k gen y.val x.val, .cueMoveAfter n k gen x.val y.val,
        .cueFree n k gen x.val], refused .live [] c)
      ∧ (gen = present → x ∈ l → live x → f.wellFormed = true → f.label ≤ 999 → f.kind ≤ 5 → f.trigger ≤ 3 →
          (f.trigger = 1 → f.first < f.second) → (f.kind = 3 → f.target ≤ 3) →
            refused .live [] (.cueWrite n k gen x.val f))
      ∧ (∀ z, gen = present → x ∈ l → y ∈ l → nextIn x l = some z → live z →
          refused .live [] (.cueNewAfter n k gen x.val) ∧ refused .live [] (.cueMoveAfter n k gen y.val x.val))
      ∧ (gen = present → s.su.free = [] → refused .empty [] (.cueNew n k gen)
          ∧ (x ∈ l → ¬ live x → refused .empty [] (.cueNewBefore n k gen x.val))
          ∧ (x ∈ l → (∀ z, nextIn x l = some z → ¬ live z) → refused .empty [] (.cueNewAfter n k gen x.val)))
      ∧ ((s.screen sc).state.performing = false → ¬ live x)
      ∧ ((s.screen sc).state.performing = true → (s.screen sc).next = none → (live x ↔ x ∈ l))
      ∧ (∀ c, (s.screen sc).next = some c → (s.screen sc).state.performing = true → c ∈ l →
          (live x ↔ x ∈ l ∧ l.idxOf x ≤ l.idxOf c)))

/-- A screen's generation rises by one, modulo 65,536, with every taken edit and every taken SHOW_CLEAR of that
screen, the one answered OK; refused, such a command leaves it, and no other command but POWER_ON changes it. -/
def Obligations.GenerationCountsTheEdits : Prop :=
  ∀ (c : Instr) (n : Port) (sc : Screen) (gen x y r length side : Nat) (f : CueFields) (s t : State),
    exec c s = .next t → (∀ pins, c ≠ .powerOn pins) →
    (let edits := [Instr.cueNew n (numberOf sc) gen, .cueNewBefore n (numberOf sc) gen x,
        .cueNewAfter n (numberOf sc) gen x, .cueMoveBefore n (numberOf sc) gen x y, .cueMoveAfter n (numberOf sc)
          gen x y,
        .cueWrite n (numberOf sc) gen x f, .cueFree n (numberOf sc) gen x, .reelSet n (numberOf sc) gen r length side,
        .showClear n (numberOf sc) gen]
     (c ∈ edits → ∃ a, t.pu.answers = s.pu.answers ++ [a]
        ∧ (a.status = .ok → gen = (s.screen sc).generation ∧ (t.screen sc).generation = (gen + 1) % 65536)
        ∧ (a.status ≠ .ok → (t.screen sc).generation = (s.screen sc).generation))
      ∧ ((∀ d : Screen, d ≠ sc → c ∈ edits → (t.screen d).generation = (s.screen d).generation))
      ∧ ((t.screen sc).generation ≠ (s.screen sc).generation →
          ∃ m g u v q len sd w, c ∈ [Instr.cueNew m (numberOf sc) g, .cueNewBefore m (numberOf sc) g u,
            .cueNewAfter m (numberOf sc) g u, .cueMoveBefore m (numberOf sc) g u v, .cueMoveAfter m (numberOf sc) g
              u v,
            .cueWrite m (numberOf sc) g u w, .cueFree m (numberOf sc) g u, .reelSet m (numberOf sc) g q len sd,
            .showClear m (numberOf sc) g]))

/-- REEL_SET makes an EMPTY or LISTED entry LISTED with its length and side, and is refused with LIVE on any other;
REEL_UNTHREAD takes a LOADED entry back to LISTED while its projector is ARMED, which becomes IDLE with its
counter cleared, and is refused with STATE otherwise. -/
def Obligations.ReelsAreSetAndUnthreaded : Prop :=
  ∀ (n : Port) (sc : Screen) (r : ReelIx) (length : Nat) (side : Side) (s : State),
    (let gen := (s.screen sc).generation
     let g := (gen + 1) % 65536
     let set := Instr.reelSet n (numberOf sc) gen (numberOf r) length (match side with | .a => 0 | .b => 1)
     let unthread := Instr.reelUnthread n (numberOf sc) (numberOf r)
     let p := projectorOf sc side
     (1 ≤ length → length ≤ 60000 → (s.reel sc r = .empty ∨ ∃ len sd, s.reel sc r = .reel .listed len sd) →
        ∃ t, exec set s = .next t
        ∧ t.reel sc r = .reel .listed length side ∧ (∀ q, q ≠ r → t.reel sc q = s.reel sc q)
        ∧ t.screen sc = { s.screen sc with reels := (t.screen sc).reels, generation := g } ∧ t.su.cues = s.su.cues
        ∧ t.su.free = s.su.free
        ∧ t.pu = (s.answer n set .ok [BitVec.ofNat 8 (numberOf r), BitVec.ofNat 8 (g / 256), BitVec.ofNat 8 g]).pu
        ∧ otherScreensKept sc s t ∧ onlyTouches [.su, .pu] s t)
      ∧ (1 ≤ length → length ≤ 60000 → (∃ st len sd, s.reel sc r = .reel st len sd ∧ st ≠ .listed) →
        exec set s = .next (s.answer n set .live []))
      ∧ (s.reel sc r = .reel .loaded length side → s.role p = .armed → ∃ t, exec unthread s = .next t
        ∧ t.reel sc r = .reel .listed length side ∧ (∀ q, q ≠ r → t.reel sc q = s.reel sc q) ∧ t.role p = .idle
        ∧ t.motion p = { s.motion p with framesRemaining := 0, watch := none } ∧ otherMotionsKept p s t
        ∧ (∀ q, q ≠ p → t.role q = s.role q) ∧ (t.screen sc).generation = gen
        ∧ (∀ q, t.station q = s.station q) ∧ t.pu.answers = (s.answer n unthread .ok []).pu.answers
        ∧ onlyTouches [.mu, .lc, .su, .pu] s t)
      ∧ (((∀ len sd, s.reel sc r ≠ .reel .loaded len sd) ∨ (s.reel sc r = .reel .loaded length side
        ∧ s.role p ≠ .armed)) →
        exec unthread s = .next (s.answer n unthread .state [])))

/-! ### Running a show (spec/05) -/

/-- REEL_THREADED, with no trip in force, makes its tests in order and answers STATE with the reason byte of the
first that fails; with all six passed the entry is LOADED, its projector ARMED and its counter loaded with the
reel's length. A motor owed is then paid: motor RUN is asked, the gate opens if the motor was stopped, and the
projector is STARTING, or STANDBY where the motor ran at speed already; with a trip in force at the line it
stays ARMED. The motor is owed no more. -/
def Obligations.ThreadingArmsTheProjector : Prop :=
  ∀ (n : Port) (sc : Screen) (r : ReelIx) (length : Nat) (side : Side) (s : State),
    (let c := Instr.reelThreaded n (numberOf sc) (numberOf r)
     let p := projectorOf sc side
     let fails (reason : Nat) : Prop := exec c s = .next (s.answer n c .state [BitVec.ofNat 8 reason])
     let t1 : Prop := s.reel sc r = .reel .listed length side ∧ s.nextReel sc = some r
     let t2 : Prop := s.role p = .idle
     let t3 : Prop := (s.shutter (portShutter p)).state = .opened
     let t4 : Prop := (s.station p).presence = .present
     let t5 : Prop := (s.lamp p).state ≠ .fault ∧ 0 < (s.lamp p).carbon
     let rate := if (s.lamp p).state = .burning then max (s.lamp p).b (s.lamp p).feedRate else (s.lamp p).b
     let t6 : Prop := length + s.su.margin ≤ (s.lamp p).carbon * 1440 / rate
     (s.su.tripInForce = true → exec c s = .next (s.answer n c .trip []))
      ∧ (s.su.tripInForce = false → ((∀ len sd, s.reel sc r ≠ .reel .listed len sd) ∨ s.nextReel sc ≠ some r) →
        fails 1)
      ∧ (s.su.tripInForce = false → t1 → ¬ t2 → fails 2) ∧ (s.su.tripInForce = false → t1 → t2 → ¬ t3 → fails 3)
      ∧ (s.su.tripInForce = false → t1 → t2 → t3 → ¬ t4 → fails 4)
      ∧ (s.su.tripInForce = false → t1 → t2 → t3 → t4 → ¬ t5 → fails 5)
      ∧ (s.su.tripInForce = false → t1 → t2 → t3 → t4 → t5 → ¬ t6 → fails 6)
      ∧ (s.su.tripInForce = false → t1 → t2 → t3 → t4 → t5 → t6 → (s.screen sc).motorOwed = false →
          ∃ t, exec c s = .next t
          ∧ t.reel sc r = .reel .loaded length side ∧ (∀ q, q ≠ r → t.reel sc q = s.reel sc q) ∧ t.role p = .armed
          ∧ t.motion p = { s.motion p with framesRemaining := length, loadedLength := length, watch := none }
          ∧ otherMotionsKept p s t ∧ (∀ q, q ≠ p → t.role q = s.role q)
          ∧ (t.screen sc).generation = (s.screen sc).generation ∧ (∀ q, t.station q = s.station q)
          ∧ (∀ d, d ≠ sc → t.screen d = s.screen d)
          ∧ t.pu.answers = (s.answer n c .ok []).pu.answers ∧ onlyTouches [.mu, .lc, .su, .pu] s t)
      ∧ (s.su.tripInForce = false → t1 → t2 → t3 → t4 → t5 → t6 → (s.screen sc).motorOwed = true →
          ∃ t, exec c s = .next t
          ∧ (t.screen sc).motorOwed = false ∧ t.reel sc r = .reel .loaded length side
          ∧ (t.motion p).framesRemaining = length ∧ (t.motion p).loadedLength = length ∧ (t.motion p).watch = none
          ∧ t.pu.answers = (s.answer n c .ok []).pu.answers ∧ otherMotionsKept p s t
          ∧ (∀ q, q ≠ p → t.role q = s.role q ∧ t.station q = s.station q)
          ∧ (s.lc.tripInForce = true → t.role p = .armed ∧ t.station p = s.station p
              ∧ (t.motion p).gate = (s.motion p).gate)
          ∧ (s.lc.tripInForce = false → (s.station p).desired.motor = .stop → t.role p = .starting
              ∧ t.station p = { s.station p with desired := { (s.station p).desired with motor := .run } }
              ∧ (t.motion p).gate = .opened ∧ (t.motion p).speed = .runningUp ∧ (t.motion p).slowStart = some ⟨60, 0⟩)
          ∧ (s.lc.tripInForce = false → (s.station p).desired.motor = .run → (s.motion p).speed ≠ .atSpeed →
              t.role p = .starting ∧ t.station p = s.station p)
          ∧ (s.lc.tripInForce = false → (s.station p).desired.motor = .run → (s.motion p).speed = .atSpeed →
              t.role p = .standby ∧ (t.station p).desired = { (s.station p).desired with
                douser := if (s.lamp p).state = .burning then .opened else (s.station p).desired.douser })
          ∧ onlyTouches [.mu, .lc, .su, .pu] s t))

/-- SHOW_START is refused with TRIP in a trip, and with STATE while the screen is not IDLE or its list is empty;
taken, it sets the screen DARK with every cue of its list PENDING, the pointer at the first, its AFTER timer at
0 and no changeover. (The first cue waits for GO.) -/
def Obligations.ShowStartBeginsAPerformance : Prop :=
  ∀ (n : Port) (sc : Screen) (s : State),
    (let c := Instr.showStart n (numberOf sc)
     (s.su.tripInForce = true → exec c s = .next (s.answer n c .trip []))
      ∧ (s.su.tripInForce = false → ((s.screen sc).state ≠ .idle ∨ (s.screen sc).list = []) →
        exec c s = .next (s.answer n c .state []))
      ∧ (∀ x, (s.screen sc).list.head? = some x → s.su.tripInForce = false → (s.screen sc).state = .idle →
        (s.cue x).trigger = .go → ∃ t, exec c s = .next t
        ∧ t.screen sc = { s.screen sc with
            state := .dark, next := some x, motorOwed := false, changeHeld := false, afterTimer := some ⟨0, 0⟩
            changeover := ⟨.none, none, none, none, false, false⟩ }
        ∧ (∀ y, t.cue y = if y ∈ (s.screen sc).list then { s.cue y with state := .pending } else s.cue y)
        ∧ t.su.free = s.su.free ∧ otherScreensKept sc s t ∧ t.pu = (s.answer n c .ok []).pu
        ∧ onlyTouches [.su, .pu] s t))

/-- GO is refused with TRIP in a trip, and with STATE on a screen that is not performing or whose pointer names no
record. It fires the next cue whatever its trigger: an END cue ends the performance, a HOUSE cue starts its
fade, as HOUSE_FADE would, or is SKIPPED while the channel's override is ON, and a CHANGE already held changes
nothing. The AFTER timer's reaching its delay fires the cue that waits for it: a MOTOR cue with no head armed is
SKIPPED and the motor owed. A cue fired or skipped moves the pointer on with CUE_FIRED. (The cue after it waits
for GO.) -/
def Obligations.NextCueFiresWhenMet : Prop :=
  ∀ (n : Port) (sc : Screen) (x : CueIx) (s : State),
    (s.su.tripInForce = true →
      exec (.go n (numberOf sc)) s = .next (s.answer n (.go n (numberOf sc)) .trip []))
    ∧ (s.su.tripInForce = false → ((s.screen sc).state.performing = false ∨ (s.screen sc).next = none) →
      exec (.go n (numberOf sc)) s = .next (s.answer n (.go n (numberOf sc)) .state []))
    ∧ ((s.screen sc).next = some x → (s.screen sc).state.performing = true →
    (∀ y, nextIn x (s.screen sc).list = some y → (s.cue y).trigger = .go) →
    (let c := Instr.go n (numberOf sc)
     let moved (t : State) : Prop := (t.screen sc).next = nextIn x (s.screen sc).list
       ∧ noticed (noticeCueFired sc) s t
     (s.su.tripInForce = false → (s.cue x).kind = .end_ → ∃ t, exec c s = .next t ∧ moved t
          ∧ (t.screen sc).state = .ended ∧ (t.screen sc).afterTimer = none ∧ (t.screen sc).motorOwed = false
          ∧ (t.cue x).state = .fired ∧ noticed (noticeShowEnded sc) s t
          ∧ (t.screen sc).changeover = (s.screen sc).changeover
          ∧ t.pu.answers = (s.answer n c .ok [BitVec.ofNat 8 x.val]).pu.answers
          ∧ (∀ y, y ≠ x → t.cue y = s.cue y) ∧ otherScreensKept sc s t ∧ onlyTouches [.mu, .su, .pu] s t)
      ∧ (∀ level time, (s.cue x).kind = .house level time → s.su.tripInForce = false → ∃ t, exec c s = .next t
        ∧ moved t
          ∧ (t.screen sc).state = (s.screen sc).state
          ∧ (t.cue x).state = (if (s.channel sc).override = .on then .skipped else .fired)
          ∧ ((s.channel sc).override = .off →
              (let ch := s.channel sc
               let d := t.channel sc
               let halves := (if 6000 < time then 6000 else time) * 100000 / s.hu.mains.h
               let goal := level * 256
               let distance := if ch.fine ≤ goal then goal - ch.fine else ch.fine - goal
               d.target = level ∧ d.firing = ch.firing ∧ d.lastDelay = ch.lastDelay ∧ d.pulse = ch.pulse
                ∧ (halves = 0 ∨ distance = 0 → d.fine = goal ∧ d.step = 0 ∧ d.direction = .none
                    ∧ noticed (noticeHouseFadeDone sc) s t)
                ∧ (halves ≠ 0 → distance ≠ 0 → d.fine = ch.fine ∧ d.step = (distance + halves - 1) / halves
                    ∧ d.direction = if ch.fine < goal then .up else .down))
              ∧ (∀ k, k ≠ sc → t.channel k = s.channel k) ∧ t.hu.mains = s.hu.mains)
          ∧ ((s.channel sc).override = .on → t.hu = s.hu)
          ∧ t.pu.answers = (s.answer n c .ok [BitVec.ofNat 8 x.val]).pu.answers
          ∧ (∀ y, y ≠ x → t.cue y = s.cue y) ∧ otherScreensKept sc s t ∧ onlyTouches [.mu, .su, .hu, .pu] s t)
      ∧ (s.su.tripInForce = false → (s.cue x).kind = .change → (s.screen sc).changeHeld = true →
          exec c s = .next (s.answer n c .ok [BitVec.ofNat 8 x.val]))
      ∧ (∀ d, (∃ e, (s.cue x).trigger = .after e ∧ e = d) → (s.cue x).kind = .motor →
        (s.screen sc).changeHeld = false →
          s.armedNext sc = none → ∃ t, exec (.afterTimerMet sc) s = .next t ∧ moved t
          ∧ (t.screen sc).state = (s.screen sc).state ∧ (t.screen sc).motorOwed = true ∧ (t.cue x).state = .skipped
          ∧ ((s.screen sc).afterTimer ≠ none → (t.screen sc).afterTimer = some ⟨0, 0⟩)
          ∧ (∀ y, y ≠ x → t.cue y = s.cue y) ∧ otherScreensKept sc s t ∧ onlyTouches [.su, .pu] s t)))

/-- SHOW_STOP is taken while the screen is DARK, RUNNING, WAITING or ENDED, in a trip too, and refused with STATE
otherwise: both projectors are made safe and IDLE with their counters cleared and their lamps out, a changeover
in flight is aborted and its queued burst withdrawn, and the screen is STOPPED with SHOW_ENDED, its pointer,
cues and reels kept. -/
def Obligations.ShowStopMakesTheScreenSafe : Prop :=
  ∀ (n : Port) (sc : Screen) (s : State),
    (let c := Instr.showStop n (numberOf sc)
     let r := s.screen sc
     ((r.state = .idle ∨ r.state = .stopped) → exec c s = .next (s.answer n c .state []))
      ∧ ((r.state = .dark ∨ r.state = .running ∨ r.state = .waiting ∨ r.state = .ended) → ∃ t, exec c s = .next t
        ∧ t.screen sc = { r with
            state := .stopped, motorOwed := false, changeHeld := false, afterTimer := none
            changeover := { r.changeover with state :=
              if r.changeover.state = .waitingReady ∨ r.changeover.state = .queued ∨ r.changeover.state = .sent
              then .aborted else r.changeover.state } }
        ∧ (∀ p, screenOf p = sc → t.role p = .idle ∧ (t.motion p).framesRemaining = 0 ∧ (t.motion p).watch = none
            ∧ (t.station p).desired.motor = .stop ∧ (t.station p).desired.douser = .closed
            ∧ (t.station p).desired.blade = .closed ∧ (t.lamp p).state = .cold
            ∧ ((s.lamp p).state ≠ .cold → (t.station p).desired.arc = .off ∧ (t.lamp p).feedRate = 0))
        ∧ (r.changeover.state = .queued → ∀ side, .changeover sc side ∉ t.lc.burstQueue)
        ∧ (∀ p, screenOf p ≠ sc → t.role p = s.role p ∧ t.motion p = s.motion p ∧ t.station p = s.station p
            ∧ t.lamp p = s.lamp p)
        ∧ (∀ d, d ≠ sc → t.screen d = s.screen d) ∧ t.su.cues = s.su.cues ∧ noticed (noticeShowEnded sc) s t
        ∧ t.pu.answers = (s.answer n c .ok []).pu.answers ∧ t.hu = s.hu ∧ t.fu = s.fu))

/-- SHOW_REWIND, on an ENDED or STOPPED screen with no projector past arming, makes every cue PENDING, points at the
first, lists every reel again, clears both counters and gives up an ARMED projector; SHOW_CLEAR returns the
whole list to the free list in order, empties the reel table and raises the generation. Each leaves the screen
IDLE. -/
def Obligations.RewindAndClearRestTheScreen : Prop :=
  ∀ (n : Port) (sc : Screen) (s : State),
    (let r := s.screen sc
     let g := (r.generation + 1) % 65536
     let rewind := Instr.showRewind n (numberOf sc)
     let clear := Instr.showClear n (numberOf sc) r.generation
     let past : Prop := ∃ p, screenOf p = sc
      ∧ (s.role p = .starting ∨ s.role p = .standby ∨ s.role p = .onScreen ∨ s.role p = .tail)
     let rested (t : State) : Prop :=
      (t.screen sc).state = .idle ∧ (t.screen sc).motorOwed = false ∧ (t.screen sc).changeHeld = false
        ∧ (t.screen sc).changeover = ⟨.none, none, none, none, false, false⟩
        ∧ (∀ p, screenOf p = sc → t.role p = .idle ∧ (t.motion p).framesRemaining = 0 ∧ (t.motion p).watch = none
            ∧ (s.role p = .armed → (t.lamp p).state = .cold) ∧ (s.role p ≠ .armed → t.lamp p = s.lamp p))
        ∧ (∀ p, screenOf p ≠ sc → t.role p = s.role p ∧ t.motion p = s.motion p ∧ t.lamp p = s.lamp p)
        ∧ (∀ d, d ≠ sc → t.screen d = s.screen d) ∧ t.hu = s.hu ∧ t.fu = s.fu
     ((past ∨ (r.state ≠ .ended ∧ r.state ≠ .stopped)) → exec rewind s = .next (s.answer n rewind .state []))
      ∧ ((past ∨ r.state = .dark ∨ r.state = .running ∨ r.state = .waiting) →
          exec clear s = .next (s.answer n clear .state []))
      ∧ (¬ past → (r.state = .ended ∨ r.state = .stopped) → ∃ t, exec rewind s = .next t ∧ rested t
        ∧ (t.screen sc).list = r.list ∧ (t.screen sc).next = r.list.head? ∧ (t.screen sc).generation = r.generation
        ∧ (∀ y, t.cue y = if y ∈ r.list then { s.cue y with state := .pending } else s.cue y)
        ∧ (∀ q, t.reel sc q = (s.reel sc q).withState .listed) ∧ t.su.free = s.su.free
        ∧ t.pu.answers = (s.answer n rewind .ok []).pu.answers)
      ∧ (¬ past → (r.state = .idle ∨ r.state = .ended ∨ r.state = .stopped) → ∃ t, exec clear s = .next t ∧ rested t
        ∧ (t.screen sc).list = [] ∧ (t.screen sc).next = none ∧ (t.screen sc).generation = g
        ∧ t.su.free = s.su.free ++ r.list ∧ t.su.cues = s.su.cues ∧ (∀ q, t.reel sc q = .empty)
        ∧ t.pu.answers = (s.answer n clear .ok [BitVec.ofNat 8 (g / 256), BitVec.ofNat 8 g]).pu.answers))

/-- BOOTH_SET, from a SETUP port, writes the arming margin clamped to 14,400 frames; any other port is refused. -/
def Obligations.BoothSetClampsTheMargin : Prop :=
  ∀ (n : Port) (margin : Nat) (s : State),
    ((s.port n).setup = false →
      exec (.boothSet n margin) s = .next (s.answer n (.boothSet n margin) .denied []))
    ∧ ((s.port n).setup = true → ∃ t, exec (.boothSet n margin) s = .next t
      ∧ t.su = { s.su with margin := if 14400 < margin then 14400 else margin }
      ∧ t.pu = (s.answer n (.boothSet n margin) .ok []).pu ∧ onlyTouches [.su, .pu] s t)

/-! ### Changeover (spec/06) -/

/-- A CHANGE cue fired with no changeover in flight opens one with the ON_SCREEN projector as outgoing and the next
reel's projector as incoming: ready, its burst is queued; not ready, or ready with its burst refused,
CHANGEOVER_WAITING is raised and a RUNNING screen waits. With a changeover in flight the cue is held. (The cue
after it waits for GO.) -/
def Obligations.ChangeCueOpensAChangeover : Prop :=
  ∀ (n : Port) (sc : Screen) (x : CueIx) (s : State),
    (s.screen sc).next = some x → (s.screen sc).state.performing = true → (s.cue x).kind = .change →
    s.su.tripInForce = false → (s.screen sc).changeHeld = false →
    (∀ y, nextIn x (s.screen sc).list = some y → (s.cue y).trigger = .go) →
    ∃ t, exec (.go n (numberOf sc)) s = .next t
      ∧ t.pu.answers = (s.answer n (.go n (numberOf sc)) .ok [BitVec.ofNat 8 x.val]).pu.answers
      ∧ (let old := (s.screen sc).changeover.state
         let flight : Prop := old = .waitingReady ∨ old = .queued ∨ old = .sent
         let inc := s.incomingOf sc
         (flight → (t.screen sc).changeHeld = true ∧ (t.screen sc).next = some x ∧ t.cue x = s.cue x
            ∧ (t.screen sc).changeover = (s.screen sc).changeover ∧ t.lc = s.lc)
          ∧ (¬ flight → (t.cue x).state = .fired ∧ (t.screen sc).next = nextIn x (s.screen sc).list
            ∧ noticed (noticeCueFired sc) s t ∧ (t.screen sc).changeover.outgoing = s.onScreenOf sc
            ∧ (t.screen sc).changeover.incoming = inc ∧ (t.screen sc).changeover.cue = some x
            ∧ (t.screen sc).changeover.late = false ∧ (t.screen sc).changeover.unconfirmed = false)
          ∧ (¬ flight → (s.ready inc = false ∨ s.burstRuling sc ≠ .ok) →
            (t.screen sc).changeover.state = .waitingReady
            ∧ noticed (noticeChangeoverWaiting sc) s t ∧ t.lc = s.lc
            ∧ (t.screen sc).state = (if (s.screen sc).state = .running then .waiting else (s.screen sc).state))
          ∧ (∀ p, inc = some p → ¬ flight → s.ready (some p) = true → s.burstRuling sc = .ok →
            (t.screen sc).changeover.state = .queued ∧ (t.screen sc).state = (s.screen sc).state
              ∧ t.lc.burstQueue = s.lc.burstQueue ++ [.changeover sc (sideOf p)]))
      ∧ t.su.roles = s.su.roles ∧ (∀ d, d ≠ sc → t.screen d = s.screen d) ∧ t.lu = s.lu ∧ t.hu = s.hu ∧ t.fu = s.fu
      ∧ (∀ q, t.station q = s.station q)

/-- A poll of a watched station judged as its reply window ends, with the changeover SENT. A good reply that shows
the commanded blade confirms the station; any other outcome, a miss among them, takes one of its polls left, and
the last one leaves it UNCONFIRMED. When neither station waits any more, whatever each came to, the watch closes
and the record is DONE, with CHANGEOVER_DONE; each UNCONFIRMED station marks the record and raises
PROJECTOR_ATTENTION with its cause. Otherwise the watch stays open and the record SENT. A miss moves the
station's presence besides. (No CHANGE cue is held; a held one has a statement of its own.) -/
def Obligations.ConfirmationSettlesTheChangeover : Prop :=
  ∀ (p : Projector) (result : PollResult) (mine other : WatchStation) (left : Nat) (s : State),
    s.lc.pollSent.window = .opened p result → mine.status = .waiting left →
    s.watch (screenOf p) = (match sideOf p with | .a => .opened mine other | .b => .opened other mine) →
    (s.screen (screenOf p)).changeover.state = .sent → (s.screen (screenOf p)).changeHeld = false →
    ∃ t, exec .replyWindowEnd s = .next t ∧ t.lc.window = .closed
      ∧ (let sc := screenOf p
         let old := (s.screen sc).changeover
         let status : WatchStatus :=
          if result = .good (some mine.commanded) then .confirmed
          else if left ≤ 1 then .unconfirmed
          else .waiting (left - 1)
         let judged : WatchStation := { mine with status := status }
         let settles : Prop := (status = .confirmed ∨ status = .unconfirmed)
          ∧ (other.status = .confirmed ∨ other.status = .unconfirmed)
         let marked (q : Projector) (x : WatchStatus) : Motion :=
          { s.motion q with cause := if settles ∧ x = .unconfirmed then .bladeUnconfirmed else (s.motion q).cause }
         (settles → t.watch sc = .closed ∧ noticed (noticeChangeoverDone sc) s t
            ∧ (t.screen sc).changeover = { old with
                state := .done
                unconfirmed := old.unconfirmed || (status = .unconfirmed || other.status = .unconfirmed) }
            ∧ (status = .unconfirmed → (t.motion p).cause = .bladeUnconfirmed
                ∧ noticed (noticeProjectorAttention p) s t)
            ∧ (other.status = .unconfirmed → noticed (noticeProjectorAttention (partner p)) s t))
          ∧ (¬ settles → (t.screen sc).changeover = old
            ∧ t.watch sc = (match sideOf p with | .a => .opened judged other | .b => .opened other judged))
          ∧ t.motion (partner p) = marked (partner p) other.status
          ∧ ((result ≠ .awaiting ∧ result ≠ .bad) → t.lc.stations = s.lc.stations ∧ t.su.roles = s.su.roles
            ∧ t.motion p = marked p status ∧ onlyTouches [.mu, .lc, .su, .pu] s t
            ∧ (¬ settles → onlyTouches [.lc] s t))
          ∧ ((result = .awaiting ∨ result = .bad) →
            ((s.station p).presence ≠ .present → (t.station p) = { s.station p with goodRun := 0 })
              ∧ ((s.station p).presence = .present → (s.station p).missRun < 2 →
                t.station p = { s.station p with missRun := (s.station p).missRun + 1 })
              ∧ ((s.station p).presence = .present → 2 ≤ (s.station p).missRun →
                (t.station p).presence = .lost ∧ noticed noticeStationLost s t)))
      ∧ t.lc.burstQueue = s.lc.burstQueue ∧ (∀ q, q ≠ p → t.station q = s.station q ∧ t.role q = s.role q)
      ∧ (∀ q, q ≠ p → q ≠ partner p → t.motion q = s.motion q)
      ∧ (∀ d, d ≠ screenOf p → t.watch d = s.watch d ∧ t.screen d = s.screen d)
      ∧ onlyTouches [.mu, .lc, .lu, .su, .pu] s t

/-- The settling of a confirmation watch where the plain changeover does not end there. A CHANGE held on a
performing screen fires once its SENT record is DONE, and opens the next changeover, here with an incoming that
is not ready. An outcome that finds the record NONE, DONE or ABORTED touches nothing but the watch; one that
finds it WAITING_READY has the incoming examined, and a ready one gets the burst that the open watch held back. -/
def Obligations.SettledWatchFiresTheHeldChange : Prop :=
  ∀ (p : Projector) (mine other : WatchStation) (left : Nat) (x : CueIx) (s : State),
    s.lc.pollSent.window = .opened p (.good (some mine.commanded)) → mine.status = .waiting left →
    other.status = .confirmed →
    s.watch (screenOf p) = (match sideOf p with | .a => .opened mine other | .b => .opened other mine) →
    (let sc := screenOf p
     let r := s.screen sc
     let inc := s.incomingOf sc
     (r.changeover.state = .sent → r.changeHeld = true → r.state.performing = true → r.next = some x →
        (s.cue x).kind = .change → s.ready inc = false →
        (∀ y, nextIn x r.list = some y → (s.cue y).trigger = .go) →
        ∃ t, exec .replyWindowEnd s = .next t ∧ t.watch sc = .closed
        ∧ (t.screen sc).changeHeld = false ∧ (t.screen sc).next = nextIn x r.list ∧ (t.cue x).state = .fired
        ∧ (t.screen sc).changeover = ⟨.waitingReady, s.onScreenOf sc, inc, some x, false, false⟩
        ∧ (t.screen sc).state = (if r.state = .running then .waiting else r.state)
        ∧ noticed (noticeChangeoverDone sc) s t ∧ noticed (noticeCueFired sc) s t
        ∧ noticed (noticeChangeoverWaiting sc) s t ∧ t.su.roles = s.su.roles
        ∧ (∀ y, y ≠ x → t.cue y = s.cue y) ∧ (∀ d, d ≠ sc → t.screen d = s.screen d)
        ∧ onlyTouches [.mu, .lc, .su, .pu] s t)
      ∧ ((r.changeover.state = .none ∨ r.changeover.state = .done ∨ r.changeover.state = .aborted) →
        ∃ t, exec .replyWindowEnd s = .next t ∧ t.watch sc = .closed ∧ t.lc.window = .closed
        ∧ t.lc.stations = s.lc.stations ∧ t.lc.burstQueue = s.lc.burstQueue ∧ onlyTouches [.lc] s t)
      ∧ (r.changeover.state = .waitingReady → s.lc.tripInForce = false →
        ∃ t, exec .replyWindowEnd s = .next t ∧ t.watch sc = .closed
        ∧ (t.screen sc).changeover = { r.changeover with incoming := inc, state := (t.screen sc).changeover.state }
        ∧ (s.ready inc = false → (t.screen sc).changeover.state = .waitingReady ∧ t.lc.burstQueue = s.lc.burstQueue)
        ∧ (∀ q, inc = some q → s.ready (some q) = true → (∀ side, .changeover sc side ∉ s.lc.burstQueue) →
            (∀ side, s.lc.sending ≠ .burst (.changeover sc side)) →
            (t.screen sc).changeover.state = .queued
              ∧ t.lc.burstQueue = s.lc.burstQueue ++ [.changeover sc (sideOf q)])
        ∧ t.pu = s.pu ∧ onlyTouches [.lc, .su] s t))

/-- The incoming of a changeover examined, here on a stale report of one of the screen's stations and on LAMP_OFF of
the incoming. WAITING_READY: the incoming is found afresh, and a ready one gets its burst, which makes the
record QUEUED; not ready, or refused by the line, the record waits on. QUEUED: an incoming no longer ready has
its burst withdrawn from the queue, and the record waits again with CHANGEOVER_WAITING; with no burst in the
queue the record stays QUEUED. -/
def Obligations.IncomingIsExamined : Prop :=
  ∀ (n : Port) (p q : Projector) (begun : Nat) (signal : List Nat) (toggle : Bool) (x : Report) (s : State),
    (let sc := screenOf p
     let c := (s.screen sc).changeover
     let inc := s.incomingOf sc
     (heardReply p begun signal toggle (some x) s → (s.station p).presence = .present →
        toggle ≠ (s.station p).expectedToggle → x.gateFlame = .clear →
        ∃ t, exec (.replyReceived begun signal) s = .next t
        ∧ (c.state = .waitingReady → (t.ready inc = false ∨ s.burstRuling sc ≠ .ok) →
            (t.screen sc).changeover = { c with incoming := inc } ∧ t.lc.burstQueue = s.lc.burstQueue ∧ t.pu = s.pu)
        ∧ (c.state = .waitingReady → inc = some q → t.ready inc = true → s.burstRuling sc = .ok →
            (t.screen sc).changeover = { c with incoming := inc, state := .queued }
              ∧ t.lc.burstQueue = s.lc.burstQueue ++ [.changeover sc (sideOf q)] ∧ t.pu = s.pu)
        ∧ (c.state = .queued → t.ready inc = true →
            (t.screen sc).changeover = { c with incoming := inc } ∧ t.lc.burstQueue = s.lc.burstQueue ∧ t.pu = s.pu)
        ∧ (c.state = .queued → t.ready inc = false → (∃ side, .changeover sc side ∈ s.lc.burstQueue) →
            (t.screen sc).changeover = { c with incoming := inc, state := .waitingReady }
              ∧ (∀ side, .changeover sc side ∉ t.lc.burstQueue)
              ∧ (∀ b, (∀ side, b ≠ .changeover sc side) → (b ∈ t.lc.burstQueue ↔ b ∈ s.lc.burstQueue))
              ∧ noticed (noticeChangeoverWaiting sc) s t)
        ∧ (c.state = .queued → t.ready inc = false → (∀ side, .changeover sc side ∉ s.lc.burstQueue) →
            (t.screen sc).changeover = { c with incoming := inc } ∧ t.lc.burstQueue = s.lc.burstQueue ∧ t.pu = s.pu)
        ∧ (c.state ≠ .waitingReady → c.state ≠ .queued → t.su = s.su ∧ t.lc.burstQueue = s.lc.burstQueue
          ∧ t.pu = s.pu)
        ∧ t.screen sc = { s.screen sc with changeover := (t.screen sc).changeover }
        ∧ t.su.roles = s.su.roles ∧ (∀ d, d ≠ sc → t.screen d = s.screen d) ∧ onlyTouches [.lc, .su, .pu] s t)
      ∧ (inc = some p → s.role p = .standby → c.state = .queued → (s.lamp p).state ≠ .cold →
        (∃ side, .changeover sc side ∈ s.lc.burstQueue) → ∃ t, exec (.lampOff n (numberOf p)) s = .next t
        ∧ (t.lamp p).state = .cold ∧ (t.screen sc).changeover = { c with incoming := inc, state := .waitingReady }
        ∧ (∀ side, .changeover sc side ∉ t.lc.burstQueue) ∧ noticed (noticeChangeoverWaiting sc) s t
        ∧ t.su.roles = s.su.roles ∧ (∀ d, d ≠ sc → t.screen d = s.screen d)))

/-- The actions of cues fired by GO, with no trip in force and the cue after waiting for GO. STRIKE strikes the lamp
of the next reel's side, and is SKIPPED where there is no next reel or an EMPTY one, or the lamp is STRIKING or
BURNING already, has no carbon left or its station is not PRESENT. MOTOR starts the next reel's armed projector:
motor RUN, its gate opened if the motor was stopped, its role STARTING. DOUSER sets the desired douser of the
incoming or the outgoing OPEN or CLOSED, and is SKIPPED where the screen has no such projector. -/
def Obligations.CuesActOnTheirProjectors : Prop :=
  ∀ (n : Port) (sc : Screen) (x : CueIx) (r : ReelIx) (q : Projector) (length : Nat) (st : ReelState) (side : Side)
    (s : State),
    (s.screen sc).next = some x → (s.screen sc).state.performing = true → s.su.tripInForce = false →
    s.lu.tripInForce = false → s.lc.tripInForce = false →
    (∀ y, nextIn x (s.screen sc).list = some y → (s.cue y).trigger = .go) →
    (let c := Instr.go n (numberOf sc)
     let h := projectorOf sc side
     let moved (t : State) (state : CueState) : Prop :=
      (t.screen sc).next = nextIn x (s.screen sc).list ∧ (t.cue x).state = state ∧ noticed (noticeCueFired sc) s t
        ∧ (t.screen sc).state = (s.screen sc).state ∧ (t.screen sc).motorOwed = (s.screen sc).motorOwed
        ∧ (∀ y, y ≠ x → t.cue y = s.cue y) ∧ (∀ d, d ≠ sc → t.screen d = s.screen d)
        ∧ t.pu.answers = (s.answer n c .ok [BitVec.ofNat 8 x.val]).pu.answers
        ∧ onlyTouches [.mu, .lc, .lu, .su, .pu] s t
     let filmKept (t : State) : Prop := ∀ d, t.motion d = { s.motion d with watch := (t.motion d).watch }
     let skips : Prop := ∃ t, exec c s = .next t ∧ moved t .skipped ∧ filmKept t ∧ t.lu = s.lu ∧ t.lc = s.lc
        ∧ t.su.roles = s.su.roles
     let moves (d : Projector) (v : Opening) : Prop := ∃ t, exec c s = .next t ∧ moved t .fired
        ∧ (t.station d).desired = { (s.station d).desired with douser := v } ∧ otherStationsKept d s t
        ∧ t.su.roles = s.su.roles ∧ filmKept t ∧ t.lu = s.lu
     let onScreen : Prop := screenOf q = sc ∧ s.role q = .onScreen ∧ s.role (partner q) ≠ .onScreen
     let noneOnScreen : Prop := ∀ d, screenOf d = sc → s.role d ≠ .onScreen
     ((s.cue x).kind = .strike → s.nextReel sc = some r → s.reel sc r = .reel st length side →
        (s.lamp h).state ≠ .striking → (s.lamp h).state ≠ .burning → (s.lamp h).carbon ≠ 0 →
        (s.station h).presence = .present →
        ∃ t, exec c s = .next t ∧ moved t .fired
        ∧ (t.lamp h).state = .striking ∧ (t.lamp h).strikeTimer = some ⟨50, 0⟩
        ∧ (t.station h).desired = { (s.station h).desired with arc := .on }
        ∧ otherLampsKept h s t ∧ t.su.roles = s.su.roles)
      ∧ ((s.cue x).kind = .strike → s.nextReel sc = some r → s.reel sc r = .reel st length side →
        ((s.lamp h).state = .striking ∨ (s.lamp h).state = .burning ∨ (s.lamp h).carbon = 0
          ∨ (s.station h).presence ≠ .present) → skips)
      ∧ ((s.cue x).kind = .strike →
        (s.nextReel sc = none ∨ (s.nextReel sc = some r ∧ s.reel sc r = .empty)) → skips)
      ∧ ((s.cue x).kind = .motor → s.nextReel sc = some r → s.reel sc r = .reel .loaded length side →
        s.role h = .armed → (s.station h).desired.motor = .stop →
        ∃ t, exec c s = .next t ∧ moved t .fired ∧ t.role h = .starting
        ∧ (t.station h).desired = { (s.station h).desired with motor := .run }
        ∧ (t.motion h).gate = .opened ∧ (t.motion h).speed = .runningUp
        ∧ (∀ o, o ≠ h → t.role o = s.role o ∧ t.station o = s.station o) ∧ t.lu = s.lu)
      ∧ ((s.cue x).kind = .douser .outgoingOpen → (onScreen → moves q .opened) ∧ (noneOnScreen → skips))
      ∧ ((s.cue x).kind = .douser .outgoingClose → (onScreen → moves q .closed) ∧ (noneOnScreen → skips))
      ∧ ((s.cue x).kind = .douser .incomingOpen →
        (s.incomingOf sc = some q → moves q .opened) ∧ (s.incomingOf sc = none → skips))
      ∧ ((s.cue x).kind = .douser .incomingClose →
        (s.incomingOf sc = some q → moves q .closed) ∧ (s.incomingOf sc = none → skips)))

/-- The film's own triggers, with the projector ON_SCREEN and a cue waiting next, an END where it fires. The pulse
whose counter reaches the watch fires a cue with a FRAMES trigger, and one with a MARK trigger as fallback with
MARK_IRREGULAR; a cue with any other trigger waits on. A run-out takes the cue of its watch first and then the
projector. A fresh change of the mark count fires a MARK cue inside its window, is stray above it, and fires it
as fallback at or below it; the first count after a station's return makes no mark. A CHANGE held on a MARK
trigger stays held at a mark, which is reported all the same outside its window. That a mark finds a held CHANGE
as any next cue is the model's reading: log 10. -/
def Obligations.FilmTriggersFireTheCue : Prop :=
  ∀ (p : Projector) (x : CueIx) (w v lo hi begun : Nat) (signal : List Nat) (y : Report) (s : State),
    s.role p = .onScreen → s.role (partner p) ≠ .onScreen → (s.screen (screenOf p)).state.performing = true →
    (s.screen (screenOf p)).next = some x →
    (let sc := screenOf p
     let ended (t : State) : Prop := (t.screen sc).state = .ended ∧ (t.cue x).state = .fired
        ∧ (t.screen sc).next = nextIn x (s.screen sc).list ∧ noticed (noticeShowEnded sc) s t
        ∧ (∀ z, z ≠ x → t.cue z = s.cue z) ∧ ∀ d, d ≠ sc → t.screen d = s.screen d
     let waits (t : State) : Prop := (t.screen sc).next = some x ∧ t.su.cues = s.su.cues
        ∧ (t.screen sc).state.performing = true
     (((s.motion p).gate = .opened ∧ 2 ≤ (s.motion p).framesRemaining ∧ (s.motion p).watch = some w
          ∧ (s.motion p).framesRemaining - 1 ≤ w) →
        ((s.cue x).kind = .end_ → (s.cue x).trigger = .frames v → ∃ t, exec (.sprocketPulse p) s = .next t
          ∧ ended t ∧ (t.motion p).watch = none
          ∧ (t.motion p).framesRemaining = (s.motion p).framesRemaining - 1)
        ∧ ((s.cue x).kind = .end_ → (s.cue x).trigger = .mark lo hi → ∃ t, exec (.sprocketPulse p) s = .next t
          ∧ ended t
          ∧ (t.motion p).watch = none ∧ noticed (noticeMarkIrregular sc) s t)
        ∧ ((s.cue x).trigger.ofFilm = false → ∃ t, exec (.sprocketPulse p) s = .next t ∧ waits t
          ∧ (t.motion p).watch = none))
      ∧ (((s.motion p).gate = .opened ∧ (s.motion p).framesRemaining = 1 ∧ (s.motion p).watch = some w
          ∧ (s.cue x).kind = .end_ ∧ (s.cue x).trigger = .frames v) → ∃ t, exec (.sprocketPulse p) s = .next t
            ∧ ended t
          ∧ t.role p = .idle ∧ (t.motion p).framesRemaining = 0 ∧ (t.motion p).watch = none
          ∧ noticed (noticeScreenDark sc) s t ∧ (t.lamp p).state = .cold ∧ (t.station p).desired.motor = .stop)
      ∧ ((heardReply p begun signal (s.station p).expectedToggle (some y) s
          ∧ (s.station p).presence = .present ∧ y.gateFlame = .clear) →
        (∀ old, s.mark p = some old → old ≠ y.marks → (s.cue x).kind = .end_ → (s.cue x).trigger = .mark lo hi →
          (let k := (s.motion p).framesRemaining
           (lo < k ∧ k ≤ hi → ∃ t, exec (.replyReceived begun signal) s = .next t ∧ ended t ∧ t.mark p = some y.marks)
          ∧ (hi < k → ∃ t, exec (.replyReceived begun signal) s = .next t ∧ waits t ∧ t.mark p = some y.marks
              ∧ noticed (noticeMarkIrregular sc) s t)
          ∧ (k ≤ hi → k ≤ lo → ∃ t, exec (.replyReceived begun signal) s = .next t ∧ ended t ∧ t.mark p = some y.marks
              ∧ noticed (noticeMarkIrregular sc) s t)))
        ∧ (∀ old, s.mark p = some old → old ≠ y.marks → (s.cue x).kind = .change → (s.cue x).trigger = .mark lo hi →
          (s.screen sc).changeHeld = true → (s.screen sc).changeover.state.inFlight = true →
          ∃ t, exec (.replyReceived begun signal) s = .next t ∧ waits t ∧ (t.screen sc).changeHeld = true
            ∧ t.mark p = some y.marks
            ∧ (¬ (lo < (s.motion p).framesRemaining ∧ (s.motion p).framesRemaining ≤ hi) →
                noticed (noticeMarkIrregular sc) s t))
        ∧ (s.mark p = none → ∃ t, exec (.replyReceived begun signal) s = .next t ∧ waits t
          ∧ t.mark p = some y.marks)))

end statements
end

