-- ==== Sys2Proof/Laws/State.lean ====
section
/-! SUPPORT. What each record update leaves alone: one lemma per field and per accessor, true by rfl. -/

namespace Sys2Proof.Machine

section

variable (s : State)


/-! #### onMotion -/

@[simp] theorem State.onMotion_lc (p : Projector) (f : Motion → Motion) : (s.onMotion p f).lc = s.lc := rfl
@[simp] theorem State.onMotion_lu (p : Projector) (f : Motion → Motion) : (s.onMotion p f).lu = s.lu := rfl
@[simp] theorem State.onMotion_su (p : Projector) (f : Motion → Motion) : (s.onMotion p f).su = s.su := rfl
@[simp] theorem State.onMotion_hu (p : Projector) (f : Motion → Motion) : (s.onMotion p f).hu = s.hu := rfl
@[simp] theorem State.onMotion_fu (p : Projector) (f : Motion → Motion) : (s.onMotion p f).fu = s.fu := rfl
@[simp] theorem State.onMotion_pu (p : Projector) (f : Motion → Motion) : (s.onMotion p f).pu = s.pu := rfl
@[simp] theorem State.onMotion_pins (p : Projector) (f : Motion → Motion) : (s.onMotion p f).pins = s.pins := rfl
@[simp] theorem State.onMotion_pending (p : Projector) (f : Motion → Motion) : (s.onMotion p f).pending = s.pending := rfl
@[simp] theorem State.onMotion_station (p : Projector) (f : Motion → Motion) (q : Projector) : (s.onMotion p f).station q = s.station q := rfl
@[simp] theorem State.onMotion_watch (p : Projector) (f : Motion → Motion) (c : Screen) : (s.onMotion p f).watch c = s.watch c := rfl
@[simp] theorem State.onMotion_lamp (p : Projector) (f : Motion → Motion) (q : Projector) : (s.onMotion p f).lamp q = s.lamp q := rfl
@[simp] theorem State.onMotion_cue (p : Projector) (f : Motion → Motion) (c : CueIx) : (s.onMotion p f).cue c = s.cue c := rfl
@[simp] theorem State.onMotion_screen (p : Projector) (f : Motion → Motion) (c : Screen) : (s.onMotion p f).screen c = s.screen c := rfl
@[simp] theorem State.onMotion_role (p : Projector) (f : Motion → Motion) (q : Projector) : (s.onMotion p f).role q = s.role q := rfl
@[simp] theorem State.onMotion_mark (p : Projector) (f : Motion → Motion) (q : Projector) : (s.onMotion p f).mark q = s.mark q := rfl
@[simp] theorem State.onMotion_channel (p : Projector) (f : Motion → Motion) (c : Channel) : (s.onMotion p f).channel c = s.channel c := rfl
@[simp] theorem State.onMotion_shutter (p : Projector) (f : Motion → Motion) (j : Shutter) : (s.onMotion p f).shutter j = s.shutter j := rfl
@[simp] theorem State.onMotion_port (p : Projector) (f : Motion → Motion) (m : Port) : (s.onMotion p f).port m = s.port m := rfl
@[simp] theorem State.onMotion_route (p : Projector) (f : Motion → Motion) (k : Notice) : (s.onMotion p f).route k = s.route k := rfl

/-! #### onStation -/

@[simp] theorem State.onStation_mu (p : Projector) (f : Station → Station) : (s.onStation p f).mu = s.mu := rfl
@[simp] theorem State.onStation_lu (p : Projector) (f : Station → Station) : (s.onStation p f).lu = s.lu := rfl
@[simp] theorem State.onStation_su (p : Projector) (f : Station → Station) : (s.onStation p f).su = s.su := rfl
@[simp] theorem State.onStation_hu (p : Projector) (f : Station → Station) : (s.onStation p f).hu = s.hu := rfl
@[simp] theorem State.onStation_fu (p : Projector) (f : Station → Station) : (s.onStation p f).fu = s.fu := rfl
@[simp] theorem State.onStation_pu (p : Projector) (f : Station → Station) : (s.onStation p f).pu = s.pu := rfl
@[simp] theorem State.onStation_pins (p : Projector) (f : Station → Station) : (s.onStation p f).pins = s.pins := rfl
@[simp] theorem State.onStation_pending (p : Projector) (f : Station → Station) : (s.onStation p f).pending = s.pending := rfl
@[simp] theorem State.onStation_lc_tripInForce (p : Projector) (f : Station → Station) : (s.onStation p f).lc.tripInForce = s.lc.tripInForce := rfl
@[simp] theorem State.onStation_lc_burstQueue (p : Projector) (f : Station → Station) : (s.onStation p f).lc.burstQueue = s.lc.burstQueue := rfl
@[simp] theorem State.onStation_lc_resetPending (p : Projector) (f : Station → Station) : (s.onStation p f).lc.resetPending = s.lc.resetPending := rfl
@[simp] theorem State.onStation_lc_position (p : Projector) (f : Station → Station) : (s.onStation p f).lc.position = s.lc.position := rfl
@[simp] theorem State.onStation_lc_untilSlot (p : Projector) (f : Station → Station) : (s.onStation p f).lc.untilSlot = s.lc.untilSlot := rfl
@[simp] theorem State.onStation_lc_sending (p : Projector) (f : Station → Station) : (s.onStation p f).lc.sending = s.lc.sending := rfl
@[simp] theorem State.onStation_lc_window (p : Projector) (f : Station → Station) : (s.onStation p f).lc.window = s.lc.window := rfl
@[simp] theorem State.onStation_lc_watches (p : Projector) (f : Station → Station) : (s.onStation p f).lc.watches = s.lc.watches := rfl
@[simp] theorem State.onStation_motion (p : Projector) (f : Station → Station) (q : Projector) : (s.onStation p f).motion q = s.motion q := rfl
@[simp] theorem State.onStation_watch (p : Projector) (f : Station → Station) (c : Screen) : (s.onStation p f).watch c = s.watch c := rfl
@[simp] theorem State.onStation_lamp (p : Projector) (f : Station → Station) (q : Projector) : (s.onStation p f).lamp q = s.lamp q := rfl
@[simp] theorem State.onStation_cue (p : Projector) (f : Station → Station) (c : CueIx) : (s.onStation p f).cue c = s.cue c := rfl
@[simp] theorem State.onStation_screen (p : Projector) (f : Station → Station) (c : Screen) : (s.onStation p f).screen c = s.screen c := rfl
@[simp] theorem State.onStation_role (p : Projector) (f : Station → Station) (q : Projector) : (s.onStation p f).role q = s.role q := rfl
@[simp] theorem State.onStation_mark (p : Projector) (f : Station → Station) (q : Projector) : (s.onStation p f).mark q = s.mark q := rfl
@[simp] theorem State.onStation_channel (p : Projector) (f : Station → Station) (c : Channel) : (s.onStation p f).channel c = s.channel c := rfl
@[simp] theorem State.onStation_shutter (p : Projector) (f : Station → Station) (j : Shutter) : (s.onStation p f).shutter j = s.shutter j := rfl
@[simp] theorem State.onStation_port (p : Projector) (f : Station → Station) (m : Port) : (s.onStation p f).port m = s.port m := rfl
@[simp] theorem State.onStation_route (p : Projector) (f : Station → Station) (k : Notice) : (s.onStation p f).route k = s.route k := rfl

/-! #### onDesired -/

@[simp] theorem State.onDesired_mu (p : Projector) (f : Desired → Desired) : (s.onDesired p f).mu = s.mu := rfl
@[simp] theorem State.onDesired_lu (p : Projector) (f : Desired → Desired) : (s.onDesired p f).lu = s.lu := rfl
@[simp] theorem State.onDesired_su (p : Projector) (f : Desired → Desired) : (s.onDesired p f).su = s.su := rfl
@[simp] theorem State.onDesired_hu (p : Projector) (f : Desired → Desired) : (s.onDesired p f).hu = s.hu := rfl
@[simp] theorem State.onDesired_fu (p : Projector) (f : Desired → Desired) : (s.onDesired p f).fu = s.fu := rfl
@[simp] theorem State.onDesired_pu (p : Projector) (f : Desired → Desired) : (s.onDesired p f).pu = s.pu := rfl
@[simp] theorem State.onDesired_pins (p : Projector) (f : Desired → Desired) : (s.onDesired p f).pins = s.pins := rfl
@[simp] theorem State.onDesired_pending (p : Projector) (f : Desired → Desired) : (s.onDesired p f).pending = s.pending := rfl
@[simp] theorem State.onDesired_lc_tripInForce (p : Projector) (f : Desired → Desired) : (s.onDesired p f).lc.tripInForce = s.lc.tripInForce := rfl
@[simp] theorem State.onDesired_lc_burstQueue (p : Projector) (f : Desired → Desired) : (s.onDesired p f).lc.burstQueue = s.lc.burstQueue := rfl
@[simp] theorem State.onDesired_lc_resetPending (p : Projector) (f : Desired → Desired) : (s.onDesired p f).lc.resetPending = s.lc.resetPending := rfl
@[simp] theorem State.onDesired_lc_position (p : Projector) (f : Desired → Desired) : (s.onDesired p f).lc.position = s.lc.position := rfl
@[simp] theorem State.onDesired_lc_untilSlot (p : Projector) (f : Desired → Desired) : (s.onDesired p f).lc.untilSlot = s.lc.untilSlot := rfl
@[simp] theorem State.onDesired_lc_sending (p : Projector) (f : Desired → Desired) : (s.onDesired p f).lc.sending = s.lc.sending := rfl
@[simp] theorem State.onDesired_lc_window (p : Projector) (f : Desired → Desired) : (s.onDesired p f).lc.window = s.lc.window := rfl
@[simp] theorem State.onDesired_lc_watches (p : Projector) (f : Desired → Desired) : (s.onDesired p f).lc.watches = s.lc.watches := rfl
@[simp] theorem State.onDesired_motion (p : Projector) (f : Desired → Desired) (q : Projector) : (s.onDesired p f).motion q = s.motion q := rfl
@[simp] theorem State.onDesired_watch (p : Projector) (f : Desired → Desired) (c : Screen) : (s.onDesired p f).watch c = s.watch c := rfl
@[simp] theorem State.onDesired_lamp (p : Projector) (f : Desired → Desired) (q : Projector) : (s.onDesired p f).lamp q = s.lamp q := rfl
@[simp] theorem State.onDesired_cue (p : Projector) (f : Desired → Desired) (c : CueIx) : (s.onDesired p f).cue c = s.cue c := rfl
@[simp] theorem State.onDesired_screen (p : Projector) (f : Desired → Desired) (c : Screen) : (s.onDesired p f).screen c = s.screen c := rfl
@[simp] theorem State.onDesired_role (p : Projector) (f : Desired → Desired) (q : Projector) : (s.onDesired p f).role q = s.role q := rfl
@[simp] theorem State.onDesired_mark (p : Projector) (f : Desired → Desired) (q : Projector) : (s.onDesired p f).mark q = s.mark q := rfl
@[simp] theorem State.onDesired_channel (p : Projector) (f : Desired → Desired) (c : Channel) : (s.onDesired p f).channel c = s.channel c := rfl
@[simp] theorem State.onDesired_shutter (p : Projector) (f : Desired → Desired) (j : Shutter) : (s.onDesired p f).shutter j = s.shutter j := rfl
@[simp] theorem State.onDesired_port (p : Projector) (f : Desired → Desired) (m : Port) : (s.onDesired p f).port m = s.port m := rfl
@[simp] theorem State.onDesired_route (p : Projector) (f : Desired → Desired) (k : Notice) : (s.onDesired p f).route k = s.route k := rfl

/-! #### setWatch -/

@[simp] theorem State.setWatch_mu (sc : Screen) (w : Watch) : (s.setWatch sc w).mu = s.mu := rfl
@[simp] theorem State.setWatch_lu (sc : Screen) (w : Watch) : (s.setWatch sc w).lu = s.lu := rfl
@[simp] theorem State.setWatch_su (sc : Screen) (w : Watch) : (s.setWatch sc w).su = s.su := rfl
@[simp] theorem State.setWatch_hu (sc : Screen) (w : Watch) : (s.setWatch sc w).hu = s.hu := rfl
@[simp] theorem State.setWatch_fu (sc : Screen) (w : Watch) : (s.setWatch sc w).fu = s.fu := rfl
@[simp] theorem State.setWatch_pu (sc : Screen) (w : Watch) : (s.setWatch sc w).pu = s.pu := rfl
@[simp] theorem State.setWatch_pins (sc : Screen) (w : Watch) : (s.setWatch sc w).pins = s.pins := rfl
@[simp] theorem State.setWatch_pending (sc : Screen) (w : Watch) : (s.setWatch sc w).pending = s.pending := rfl
@[simp] theorem State.setWatch_lc_stations (sc : Screen) (w : Watch) : (s.setWatch sc w).lc.stations = s.lc.stations := rfl
@[simp] theorem State.setWatch_lc_tripInForce (sc : Screen) (w : Watch) : (s.setWatch sc w).lc.tripInForce = s.lc.tripInForce := rfl
@[simp] theorem State.setWatch_lc_burstQueue (sc : Screen) (w : Watch) : (s.setWatch sc w).lc.burstQueue = s.lc.burstQueue := rfl
@[simp] theorem State.setWatch_lc_resetPending (sc : Screen) (w : Watch) : (s.setWatch sc w).lc.resetPending = s.lc.resetPending := rfl
@[simp] theorem State.setWatch_lc_position (sc : Screen) (w : Watch) : (s.setWatch sc w).lc.position = s.lc.position := rfl
@[simp] theorem State.setWatch_lc_untilSlot (sc : Screen) (w : Watch) : (s.setWatch sc w).lc.untilSlot = s.lc.untilSlot := rfl
@[simp] theorem State.setWatch_lc_sending (sc : Screen) (w : Watch) : (s.setWatch sc w).lc.sending = s.lc.sending := rfl
@[simp] theorem State.setWatch_lc_window (sc : Screen) (w : Watch) : (s.setWatch sc w).lc.window = s.lc.window := rfl
@[simp] theorem State.setWatch_motion (sc : Screen) (w : Watch) (q : Projector) : (s.setWatch sc w).motion q = s.motion q := rfl
@[simp] theorem State.setWatch_station (sc : Screen) (w : Watch) (q : Projector) : (s.setWatch sc w).station q = s.station q := rfl
@[simp] theorem State.setWatch_lamp (sc : Screen) (w : Watch) (q : Projector) : (s.setWatch sc w).lamp q = s.lamp q := rfl
@[simp] theorem State.setWatch_cue (sc : Screen) (w : Watch) (c : CueIx) : (s.setWatch sc w).cue c = s.cue c := rfl
@[simp] theorem State.setWatch_screen (sc : Screen) (w : Watch) (c : Screen) : (s.setWatch sc w).screen c = s.screen c := rfl
@[simp] theorem State.setWatch_role (sc : Screen) (w : Watch) (q : Projector) : (s.setWatch sc w).role q = s.role q := rfl
@[simp] theorem State.setWatch_mark (sc : Screen) (w : Watch) (q : Projector) : (s.setWatch sc w).mark q = s.mark q := rfl
@[simp] theorem State.setWatch_channel (sc : Screen) (w : Watch) (c : Channel) : (s.setWatch sc w).channel c = s.channel c := rfl
@[simp] theorem State.setWatch_shutter (sc : Screen) (w : Watch) (j : Shutter) : (s.setWatch sc w).shutter j = s.shutter j := rfl
@[simp] theorem State.setWatch_port (sc : Screen) (w : Watch) (m : Port) : (s.setWatch sc w).port m = s.port m := rfl
@[simp] theorem State.setWatch_route (sc : Screen) (w : Watch) (k : Notice) : (s.setWatch sc w).route k = s.route k := rfl

/-! #### setQueue -/

@[simp] theorem State.setQueue_mu (q : List Burst) : (s.setQueue q).mu = s.mu := rfl
@[simp] theorem State.setQueue_lu (q : List Burst) : (s.setQueue q).lu = s.lu := rfl
@[simp] theorem State.setQueue_su (q : List Burst) : (s.setQueue q).su = s.su := rfl
@[simp] theorem State.setQueue_hu (q : List Burst) : (s.setQueue q).hu = s.hu := rfl
@[simp] theorem State.setQueue_fu (q : List Burst) : (s.setQueue q).fu = s.fu := rfl
@[simp] theorem State.setQueue_pu (q : List Burst) : (s.setQueue q).pu = s.pu := rfl
@[simp] theorem State.setQueue_pins (q : List Burst) : (s.setQueue q).pins = s.pins := rfl
@[simp] theorem State.setQueue_pending (q : List Burst) : (s.setQueue q).pending = s.pending := rfl
@[simp] theorem State.setQueue_lc_stations (q : List Burst) : (s.setQueue q).lc.stations = s.lc.stations := rfl
@[simp] theorem State.setQueue_lc_tripInForce (q : List Burst) : (s.setQueue q).lc.tripInForce = s.lc.tripInForce := rfl
@[simp] theorem State.setQueue_lc_resetPending (q : List Burst) : (s.setQueue q).lc.resetPending = s.lc.resetPending := rfl
@[simp] theorem State.setQueue_lc_position (q : List Burst) : (s.setQueue q).lc.position = s.lc.position := rfl
@[simp] theorem State.setQueue_lc_untilSlot (q : List Burst) : (s.setQueue q).lc.untilSlot = s.lc.untilSlot := rfl
@[simp] theorem State.setQueue_lc_sending (q : List Burst) : (s.setQueue q).lc.sending = s.lc.sending := rfl
@[simp] theorem State.setQueue_lc_window (q : List Burst) : (s.setQueue q).lc.window = s.lc.window := rfl
@[simp] theorem State.setQueue_lc_watches (q : List Burst) : (s.setQueue q).lc.watches = s.lc.watches := rfl
@[simp] theorem State.setQueue_lc_burstQueue (q : List Burst) : (s.setQueue q).lc.burstQueue = q := rfl
@[simp] theorem State.setQueue_motion (q : List Burst) (q1 : Projector) : (s.setQueue q).motion q1 = s.motion q1 := rfl
@[simp] theorem State.setQueue_station (q : List Burst) (q1 : Projector) : (s.setQueue q).station q1 = s.station q1 := rfl
@[simp] theorem State.setQueue_watch (q : List Burst) (c : Screen) : (s.setQueue q).watch c = s.watch c := rfl
@[simp] theorem State.setQueue_lamp (q : List Burst) (q1 : Projector) : (s.setQueue q).lamp q1 = s.lamp q1 := rfl
@[simp] theorem State.setQueue_cue (q : List Burst) (c : CueIx) : (s.setQueue q).cue c = s.cue c := rfl
@[simp] theorem State.setQueue_screen (q : List Burst) (c : Screen) : (s.setQueue q).screen c = s.screen c := rfl
@[simp] theorem State.setQueue_role (q : List Burst) (q1 : Projector) : (s.setQueue q).role q1 = s.role q1 := rfl
@[simp] theorem State.setQueue_mark (q : List Burst) (q1 : Projector) : (s.setQueue q).mark q1 = s.mark q1 := rfl
@[simp] theorem State.setQueue_channel (q : List Burst) (c : Channel) : (s.setQueue q).channel c = s.channel c := rfl
@[simp] theorem State.setQueue_shutter (q : List Burst) (j : Shutter) : (s.setQueue q).shutter j = s.shutter j := rfl
@[simp] theorem State.setQueue_port (q : List Burst) (m : Port) : (s.setQueue q).port m = s.port m := rfl
@[simp] theorem State.setQueue_route (q : List Burst) (k : Notice) : (s.setQueue q).route k = s.route k := rfl

/-! #### setSending -/

@[simp] theorem State.setSending_mu (x : Sending) : (s.setSending x).mu = s.mu := rfl
@[simp] theorem State.setSending_lu (x : Sending) : (s.setSending x).lu = s.lu := rfl
@[simp] theorem State.setSending_su (x : Sending) : (s.setSending x).su = s.su := rfl
@[simp] theorem State.setSending_hu (x : Sending) : (s.setSending x).hu = s.hu := rfl
@[simp] theorem State.setSending_fu (x : Sending) : (s.setSending x).fu = s.fu := rfl
@[simp] theorem State.setSending_pu (x : Sending) : (s.setSending x).pu = s.pu := rfl
@[simp] theorem State.setSending_pins (x : Sending) : (s.setSending x).pins = s.pins := rfl
@[simp] theorem State.setSending_pending (x : Sending) : (s.setSending x).pending = s.pending := rfl
@[simp] theorem State.setSending_lc_stations (x : Sending) : (s.setSending x).lc.stations = s.lc.stations := rfl
@[simp] theorem State.setSending_lc_tripInForce (x : Sending) : (s.setSending x).lc.tripInForce = s.lc.tripInForce := rfl
@[simp] theorem State.setSending_lc_burstQueue (x : Sending) : (s.setSending x).lc.burstQueue = s.lc.burstQueue := rfl
@[simp] theorem State.setSending_lc_resetPending (x : Sending) : (s.setSending x).lc.resetPending = s.lc.resetPending := rfl
@[simp] theorem State.setSending_lc_position (x : Sending) : (s.setSending x).lc.position = s.lc.position := rfl
@[simp] theorem State.setSending_lc_untilSlot (x : Sending) : (s.setSending x).lc.untilSlot = s.lc.untilSlot := rfl
@[simp] theorem State.setSending_lc_window (x : Sending) : (s.setSending x).lc.window = s.lc.window := rfl
@[simp] theorem State.setSending_lc_watches (x : Sending) : (s.setSending x).lc.watches = s.lc.watches := rfl
@[simp] theorem State.setSending_lc_sending (x : Sending) : (s.setSending x).lc.sending = x := rfl
@[simp] theorem State.setSending_motion (x : Sending) (q : Projector) : (s.setSending x).motion q = s.motion q := rfl
@[simp] theorem State.setSending_station (x : Sending) (q : Projector) : (s.setSending x).station q = s.station q := rfl
@[simp] theorem State.setSending_watch (x : Sending) (c : Screen) : (s.setSending x).watch c = s.watch c := rfl
@[simp] theorem State.setSending_lamp (x : Sending) (q : Projector) : (s.setSending x).lamp q = s.lamp q := rfl
@[simp] theorem State.setSending_cue (x : Sending) (c : CueIx) : (s.setSending x).cue c = s.cue c := rfl
@[simp] theorem State.setSending_screen (x : Sending) (c : Screen) : (s.setSending x).screen c = s.screen c := rfl
@[simp] theorem State.setSending_role (x : Sending) (q : Projector) : (s.setSending x).role q = s.role q := rfl
@[simp] theorem State.setSending_mark (x : Sending) (q : Projector) : (s.setSending x).mark q = s.mark q := rfl
@[simp] theorem State.setSending_channel (x : Sending) (c : Channel) : (s.setSending x).channel c = s.channel c := rfl
@[simp] theorem State.setSending_shutter (x : Sending) (j : Shutter) : (s.setSending x).shutter j = s.shutter j := rfl
@[simp] theorem State.setSending_port (x : Sending) (m : Port) : (s.setSending x).port m = s.port m := rfl
@[simp] theorem State.setSending_route (x : Sending) (k : Notice) : (s.setSending x).route k = s.route k := rfl

/-! #### setWindow -/

@[simp] theorem State.setWindow_mu (w : Window) : (s.setWindow w).mu = s.mu := rfl
@[simp] theorem State.setWindow_lu (w : Window) : (s.setWindow w).lu = s.lu := rfl
@[simp] theorem State.setWindow_su (w : Window) : (s.setWindow w).su = s.su := rfl
@[simp] theorem State.setWindow_hu (w : Window) : (s.setWindow w).hu = s.hu := rfl
@[simp] theorem State.setWindow_fu (w : Window) : (s.setWindow w).fu = s.fu := rfl
@[simp] theorem State.setWindow_pu (w : Window) : (s.setWindow w).pu = s.pu := rfl
@[simp] theorem State.setWindow_pins (w : Window) : (s.setWindow w).pins = s.pins := rfl
@[simp] theorem State.setWindow_pending (w : Window) : (s.setWindow w).pending = s.pending := rfl
@[simp] theorem State.setWindow_lc_stations (w : Window) : (s.setWindow w).lc.stations = s.lc.stations := rfl
@[simp] theorem State.setWindow_lc_tripInForce (w : Window) : (s.setWindow w).lc.tripInForce = s.lc.tripInForce := rfl
@[simp] theorem State.setWindow_lc_burstQueue (w : Window) : (s.setWindow w).lc.burstQueue = s.lc.burstQueue := rfl
@[simp] theorem State.setWindow_lc_resetPending (w : Window) : (s.setWindow w).lc.resetPending = s.lc.resetPending := rfl
@[simp] theorem State.setWindow_lc_position (w : Window) : (s.setWindow w).lc.position = s.lc.position := rfl
@[simp] theorem State.setWindow_lc_untilSlot (w : Window) : (s.setWindow w).lc.untilSlot = s.lc.untilSlot := rfl
@[simp] theorem State.setWindow_lc_sending (w : Window) : (s.setWindow w).lc.sending = s.lc.sending := rfl
@[simp] theorem State.setWindow_lc_watches (w : Window) : (s.setWindow w).lc.watches = s.lc.watches := rfl
@[simp] theorem State.setWindow_lc_window (w : Window) : (s.setWindow w).lc.window = w := rfl
@[simp] theorem State.setWindow_motion (w : Window) (q : Projector) : (s.setWindow w).motion q = s.motion q := rfl
@[simp] theorem State.setWindow_station (w : Window) (q : Projector) : (s.setWindow w).station q = s.station q := rfl
@[simp] theorem State.setWindow_watch (w : Window) (c : Screen) : (s.setWindow w).watch c = s.watch c := rfl
@[simp] theorem State.setWindow_lamp (w : Window) (q : Projector) : (s.setWindow w).lamp q = s.lamp q := rfl
@[simp] theorem State.setWindow_cue (w : Window) (c : CueIx) : (s.setWindow w).cue c = s.cue c := rfl
@[simp] theorem State.setWindow_screen (w : Window) (c : Screen) : (s.setWindow w).screen c = s.screen c := rfl
@[simp] theorem State.setWindow_role (w : Window) (q : Projector) : (s.setWindow w).role q = s.role q := rfl
@[simp] theorem State.setWindow_mark (w : Window) (q : Projector) : (s.setWindow w).mark q = s.mark q := rfl
@[simp] theorem State.setWindow_channel (w : Window) (c : Channel) : (s.setWindow w).channel c = s.channel c := rfl
@[simp] theorem State.setWindow_shutter (w : Window) (j : Shutter) : (s.setWindow w).shutter j = s.shutter j := rfl
@[simp] theorem State.setWindow_port (w : Window) (m : Port) : (s.setWindow w).port m = s.port m := rfl
@[simp] theorem State.setWindow_route (w : Window) (k : Notice) : (s.setWindow w).route k = s.route k := rfl

/-! #### onLamp -/

@[simp] theorem State.onLamp_mu (p : Projector) (f : Lamp → Lamp) : (s.onLamp p f).mu = s.mu := rfl
@[simp] theorem State.onLamp_lc (p : Projector) (f : Lamp → Lamp) : (s.onLamp p f).lc = s.lc := rfl
@[simp] theorem State.onLamp_su (p : Projector) (f : Lamp → Lamp) : (s.onLamp p f).su = s.su := rfl
@[simp] theorem State.onLamp_hu (p : Projector) (f : Lamp → Lamp) : (s.onLamp p f).hu = s.hu := rfl
@[simp] theorem State.onLamp_fu (p : Projector) (f : Lamp → Lamp) : (s.onLamp p f).fu = s.fu := rfl
@[simp] theorem State.onLamp_pu (p : Projector) (f : Lamp → Lamp) : (s.onLamp p f).pu = s.pu := rfl
@[simp] theorem State.onLamp_pins (p : Projector) (f : Lamp → Lamp) : (s.onLamp p f).pins = s.pins := rfl
@[simp] theorem State.onLamp_pending (p : Projector) (f : Lamp → Lamp) : (s.onLamp p f).pending = s.pending := rfl
@[simp] theorem State.onLamp_lu_tripInForce (p : Projector) (f : Lamp → Lamp) : (s.onLamp p f).lu.tripInForce = s.lu.tripInForce := rfl
@[simp] theorem State.onLamp_motion (p : Projector) (f : Lamp → Lamp) (q : Projector) : (s.onLamp p f).motion q = s.motion q := rfl
@[simp] theorem State.onLamp_station (p : Projector) (f : Lamp → Lamp) (q : Projector) : (s.onLamp p f).station q = s.station q := rfl
@[simp] theorem State.onLamp_watch (p : Projector) (f : Lamp → Lamp) (c : Screen) : (s.onLamp p f).watch c = s.watch c := rfl
@[simp] theorem State.onLamp_cue (p : Projector) (f : Lamp → Lamp) (c : CueIx) : (s.onLamp p f).cue c = s.cue c := rfl
@[simp] theorem State.onLamp_screen (p : Projector) (f : Lamp → Lamp) (c : Screen) : (s.onLamp p f).screen c = s.screen c := rfl
@[simp] theorem State.onLamp_role (p : Projector) (f : Lamp → Lamp) (q : Projector) : (s.onLamp p f).role q = s.role q := rfl
@[simp] theorem State.onLamp_mark (p : Projector) (f : Lamp → Lamp) (q : Projector) : (s.onLamp p f).mark q = s.mark q := rfl
@[simp] theorem State.onLamp_channel (p : Projector) (f : Lamp → Lamp) (c : Channel) : (s.onLamp p f).channel c = s.channel c := rfl
@[simp] theorem State.onLamp_shutter (p : Projector) (f : Lamp → Lamp) (j : Shutter) : (s.onLamp p f).shutter j = s.shutter j := rfl
@[simp] theorem State.onLamp_port (p : Projector) (f : Lamp → Lamp) (m : Port) : (s.onLamp p f).port m = s.port m := rfl
@[simp] theorem State.onLamp_route (p : Projector) (f : Lamp → Lamp) (k : Notice) : (s.onLamp p f).route k = s.route k := rfl

/-! #### onCue -/

@[simp] theorem State.onCue_mu (x : CueIx) (f : Cue → Cue) : (s.onCue x f).mu = s.mu := rfl
@[simp] theorem State.onCue_lc (x : CueIx) (f : Cue → Cue) : (s.onCue x f).lc = s.lc := rfl
@[simp] theorem State.onCue_lu (x : CueIx) (f : Cue → Cue) : (s.onCue x f).lu = s.lu := rfl
@[simp] theorem State.onCue_hu (x : CueIx) (f : Cue → Cue) : (s.onCue x f).hu = s.hu := rfl
@[simp] theorem State.onCue_fu (x : CueIx) (f : Cue → Cue) : (s.onCue x f).fu = s.fu := rfl
@[simp] theorem State.onCue_pu (x : CueIx) (f : Cue → Cue) : (s.onCue x f).pu = s.pu := rfl
@[simp] theorem State.onCue_pins (x : CueIx) (f : Cue → Cue) : (s.onCue x f).pins = s.pins := rfl
@[simp] theorem State.onCue_pending (x : CueIx) (f : Cue → Cue) : (s.onCue x f).pending = s.pending := rfl
@[simp] theorem State.onCue_su_free (x : CueIx) (f : Cue → Cue) : (s.onCue x f).su.free = s.su.free := rfl
@[simp] theorem State.onCue_su_screens (x : CueIx) (f : Cue → Cue) : (s.onCue x f).su.screens = s.su.screens := rfl
@[simp] theorem State.onCue_su_roles (x : CueIx) (f : Cue → Cue) : (s.onCue x f).su.roles = s.su.roles := rfl
@[simp] theorem State.onCue_su_marks (x : CueIx) (f : Cue → Cue) : (s.onCue x f).su.marks = s.su.marks := rfl
@[simp] theorem State.onCue_su_tripInForce (x : CueIx) (f : Cue → Cue) : (s.onCue x f).su.tripInForce = s.su.tripInForce := rfl
@[simp] theorem State.onCue_su_margin (x : CueIx) (f : Cue → Cue) : (s.onCue x f).su.margin = s.su.margin := rfl
@[simp] theorem State.onCue_motion (x : CueIx) (f : Cue → Cue) (q : Projector) : (s.onCue x f).motion q = s.motion q := rfl
@[simp] theorem State.onCue_station (x : CueIx) (f : Cue → Cue) (q : Projector) : (s.onCue x f).station q = s.station q := rfl
@[simp] theorem State.onCue_watch (x : CueIx) (f : Cue → Cue) (c : Screen) : (s.onCue x f).watch c = s.watch c := rfl
@[simp] theorem State.onCue_lamp (x : CueIx) (f : Cue → Cue) (q : Projector) : (s.onCue x f).lamp q = s.lamp q := rfl
@[simp] theorem State.onCue_screen (x : CueIx) (f : Cue → Cue) (c : Screen) : (s.onCue x f).screen c = s.screen c := rfl
@[simp] theorem State.onCue_role (x : CueIx) (f : Cue → Cue) (q : Projector) : (s.onCue x f).role q = s.role q := rfl
@[simp] theorem State.onCue_mark (x : CueIx) (f : Cue → Cue) (q : Projector) : (s.onCue x f).mark q = s.mark q := rfl
@[simp] theorem State.onCue_channel (x : CueIx) (f : Cue → Cue) (c : Channel) : (s.onCue x f).channel c = s.channel c := rfl
@[simp] theorem State.onCue_shutter (x : CueIx) (f : Cue → Cue) (j : Shutter) : (s.onCue x f).shutter j = s.shutter j := rfl
@[simp] theorem State.onCue_port (x : CueIx) (f : Cue → Cue) (m : Port) : (s.onCue x f).port m = s.port m := rfl
@[simp] theorem State.onCue_route (x : CueIx) (f : Cue → Cue) (k : Notice) : (s.onCue x f).route k = s.route k := rfl

/-! #### setFree -/

@[simp] theorem State.setFree_mu (l : List CueIx) : (s.setFree l).mu = s.mu := rfl
@[simp] theorem State.setFree_lc (l : List CueIx) : (s.setFree l).lc = s.lc := rfl
@[simp] theorem State.setFree_lu (l : List CueIx) : (s.setFree l).lu = s.lu := rfl
@[simp] theorem State.setFree_hu (l : List CueIx) : (s.setFree l).hu = s.hu := rfl
@[simp] theorem State.setFree_fu (l : List CueIx) : (s.setFree l).fu = s.fu := rfl
@[simp] theorem State.setFree_pu (l : List CueIx) : (s.setFree l).pu = s.pu := rfl
@[simp] theorem State.setFree_pins (l : List CueIx) : (s.setFree l).pins = s.pins := rfl
@[simp] theorem State.setFree_pending (l : List CueIx) : (s.setFree l).pending = s.pending := rfl
@[simp] theorem State.setFree_su_cues (l : List CueIx) : (s.setFree l).su.cues = s.su.cues := rfl
@[simp] theorem State.setFree_su_screens (l : List CueIx) : (s.setFree l).su.screens = s.su.screens := rfl
@[simp] theorem State.setFree_su_roles (l : List CueIx) : (s.setFree l).su.roles = s.su.roles := rfl
@[simp] theorem State.setFree_su_marks (l : List CueIx) : (s.setFree l).su.marks = s.su.marks := rfl
@[simp] theorem State.setFree_su_tripInForce (l : List CueIx) : (s.setFree l).su.tripInForce = s.su.tripInForce := rfl
@[simp] theorem State.setFree_su_margin (l : List CueIx) : (s.setFree l).su.margin = s.su.margin := rfl
@[simp] theorem State.setFree_su_free (l : List CueIx) : (s.setFree l).su.free = l := rfl
@[simp] theorem State.setFree_motion (l : List CueIx) (q : Projector) : (s.setFree l).motion q = s.motion q := rfl
@[simp] theorem State.setFree_station (l : List CueIx) (q : Projector) : (s.setFree l).station q = s.station q := rfl
@[simp] theorem State.setFree_watch (l : List CueIx) (c : Screen) : (s.setFree l).watch c = s.watch c := rfl
@[simp] theorem State.setFree_lamp (l : List CueIx) (q : Projector) : (s.setFree l).lamp q = s.lamp q := rfl
@[simp] theorem State.setFree_cue (l : List CueIx) (c : CueIx) : (s.setFree l).cue c = s.cue c := rfl
@[simp] theorem State.setFree_screen (l : List CueIx) (c : Screen) : (s.setFree l).screen c = s.screen c := rfl
@[simp] theorem State.setFree_role (l : List CueIx) (q : Projector) : (s.setFree l).role q = s.role q := rfl
@[simp] theorem State.setFree_mark (l : List CueIx) (q : Projector) : (s.setFree l).mark q = s.mark q := rfl
@[simp] theorem State.setFree_channel (l : List CueIx) (c : Channel) : (s.setFree l).channel c = s.channel c := rfl
@[simp] theorem State.setFree_shutter (l : List CueIx) (j : Shutter) : (s.setFree l).shutter j = s.shutter j := rfl
@[simp] theorem State.setFree_port (l : List CueIx) (m : Port) : (s.setFree l).port m = s.port m := rfl
@[simp] theorem State.setFree_route (l : List CueIx) (k : Notice) : (s.setFree l).route k = s.route k := rfl

/-! #### onScreen -/

@[simp] theorem State.onScreen_mu (sc : Screen) (f : ScreenRecord → ScreenRecord) : (s.onScreen sc f).mu = s.mu := rfl
@[simp] theorem State.onScreen_lc (sc : Screen) (f : ScreenRecord → ScreenRecord) : (s.onScreen sc f).lc = s.lc := rfl
@[simp] theorem State.onScreen_lu (sc : Screen) (f : ScreenRecord → ScreenRecord) : (s.onScreen sc f).lu = s.lu := rfl
@[simp] theorem State.onScreen_hu (sc : Screen) (f : ScreenRecord → ScreenRecord) : (s.onScreen sc f).hu = s.hu := rfl
@[simp] theorem State.onScreen_fu (sc : Screen) (f : ScreenRecord → ScreenRecord) : (s.onScreen sc f).fu = s.fu := rfl
@[simp] theorem State.onScreen_pu (sc : Screen) (f : ScreenRecord → ScreenRecord) : (s.onScreen sc f).pu = s.pu := rfl
@[simp] theorem State.onScreen_pins (sc : Screen) (f : ScreenRecord → ScreenRecord) : (s.onScreen sc f).pins = s.pins := rfl
@[simp] theorem State.onScreen_pending (sc : Screen) (f : ScreenRecord → ScreenRecord) : (s.onScreen sc f).pending = s.pending := rfl
@[simp] theorem State.onScreen_su_cues (sc : Screen) (f : ScreenRecord → ScreenRecord) : (s.onScreen sc f).su.cues = s.su.cues := rfl
@[simp] theorem State.onScreen_su_free (sc : Screen) (f : ScreenRecord → ScreenRecord) : (s.onScreen sc f).su.free = s.su.free := rfl
@[simp] theorem State.onScreen_su_roles (sc : Screen) (f : ScreenRecord → ScreenRecord) : (s.onScreen sc f).su.roles = s.su.roles := rfl
@[simp] theorem State.onScreen_su_marks (sc : Screen) (f : ScreenRecord → ScreenRecord) : (s.onScreen sc f).su.marks = s.su.marks := rfl
@[simp] theorem State.onScreen_su_tripInForce (sc : Screen) (f : ScreenRecord → ScreenRecord) : (s.onScreen sc f).su.tripInForce = s.su.tripInForce := rfl
@[simp] theorem State.onScreen_su_margin (sc : Screen) (f : ScreenRecord → ScreenRecord) : (s.onScreen sc f).su.margin = s.su.margin := rfl
@[simp] theorem State.onScreen_motion (sc : Screen) (f : ScreenRecord → ScreenRecord) (q : Projector) : (s.onScreen sc f).motion q = s.motion q := rfl
@[simp] theorem State.onScreen_station (sc : Screen) (f : ScreenRecord → ScreenRecord) (q : Projector) : (s.onScreen sc f).station q = s.station q := rfl
@[simp] theorem State.onScreen_watch (sc : Screen) (f : ScreenRecord → ScreenRecord) (c : Screen) : (s.onScreen sc f).watch c = s.watch c := rfl
@[simp] theorem State.onScreen_lamp (sc : Screen) (f : ScreenRecord → ScreenRecord) (q : Projector) : (s.onScreen sc f).lamp q = s.lamp q := rfl
@[simp] theorem State.onScreen_cue (sc : Screen) (f : ScreenRecord → ScreenRecord) (c : CueIx) : (s.onScreen sc f).cue c = s.cue c := rfl
@[simp] theorem State.onScreen_role (sc : Screen) (f : ScreenRecord → ScreenRecord) (q : Projector) : (s.onScreen sc f).role q = s.role q := rfl
@[simp] theorem State.onScreen_mark (sc : Screen) (f : ScreenRecord → ScreenRecord) (q : Projector) : (s.onScreen sc f).mark q = s.mark q := rfl
@[simp] theorem State.onScreen_channel (sc : Screen) (f : ScreenRecord → ScreenRecord) (c : Channel) : (s.onScreen sc f).channel c = s.channel c := rfl
@[simp] theorem State.onScreen_shutter (sc : Screen) (f : ScreenRecord → ScreenRecord) (j : Shutter) : (s.onScreen sc f).shutter j = s.shutter j := rfl
@[simp] theorem State.onScreen_port (sc : Screen) (f : ScreenRecord → ScreenRecord) (m : Port) : (s.onScreen sc f).port m = s.port m := rfl
@[simp] theorem State.onScreen_route (sc : Screen) (f : ScreenRecord → ScreenRecord) (k : Notice) : (s.onScreen sc f).route k = s.route k := rfl

/-! #### setReel -/

@[simp] theorem State.setReel_mu (sc : Screen) (r : ReelIx) (e : ReelEntry) : (s.setReel sc r e).mu = s.mu := rfl
@[simp] theorem State.setReel_lc (sc : Screen) (r : ReelIx) (e : ReelEntry) : (s.setReel sc r e).lc = s.lc := rfl
@[simp] theorem State.setReel_lu (sc : Screen) (r : ReelIx) (e : ReelEntry) : (s.setReel sc r e).lu = s.lu := rfl
@[simp] theorem State.setReel_hu (sc : Screen) (r : ReelIx) (e : ReelEntry) : (s.setReel sc r e).hu = s.hu := rfl
@[simp] theorem State.setReel_fu (sc : Screen) (r : ReelIx) (e : ReelEntry) : (s.setReel sc r e).fu = s.fu := rfl
@[simp] theorem State.setReel_pu (sc : Screen) (r : ReelIx) (e : ReelEntry) : (s.setReel sc r e).pu = s.pu := rfl
@[simp] theorem State.setReel_pins (sc : Screen) (r : ReelIx) (e : ReelEntry) : (s.setReel sc r e).pins = s.pins := rfl
@[simp] theorem State.setReel_pending (sc : Screen) (r : ReelIx) (e : ReelEntry) : (s.setReel sc r e).pending = s.pending := rfl
@[simp] theorem State.setReel_su_cues (sc : Screen) (r : ReelIx) (e : ReelEntry) : (s.setReel sc r e).su.cues = s.su.cues := rfl
@[simp] theorem State.setReel_su_free (sc : Screen) (r : ReelIx) (e : ReelEntry) : (s.setReel sc r e).su.free = s.su.free := rfl
@[simp] theorem State.setReel_su_roles (sc : Screen) (r : ReelIx) (e : ReelEntry) : (s.setReel sc r e).su.roles = s.su.roles := rfl
@[simp] theorem State.setReel_su_marks (sc : Screen) (r : ReelIx) (e : ReelEntry) : (s.setReel sc r e).su.marks = s.su.marks := rfl
@[simp] theorem State.setReel_su_tripInForce (sc : Screen) (r : ReelIx) (e : ReelEntry) : (s.setReel sc r e).su.tripInForce = s.su.tripInForce := rfl
@[simp] theorem State.setReel_su_margin (sc : Screen) (r : ReelIx) (e : ReelEntry) : (s.setReel sc r e).su.margin = s.su.margin := rfl
@[simp] theorem State.setReel_motion (sc : Screen) (r : ReelIx) (e : ReelEntry) (q : Projector) : (s.setReel sc r e).motion q = s.motion q := rfl
@[simp] theorem State.setReel_station (sc : Screen) (r : ReelIx) (e : ReelEntry) (q : Projector) : (s.setReel sc r e).station q = s.station q := rfl
@[simp] theorem State.setReel_watch (sc : Screen) (r : ReelIx) (e : ReelEntry) (c : Screen) : (s.setReel sc r e).watch c = s.watch c := rfl
@[simp] theorem State.setReel_lamp (sc : Screen) (r : ReelIx) (e : ReelEntry) (q : Projector) : (s.setReel sc r e).lamp q = s.lamp q := rfl
@[simp] theorem State.setReel_cue (sc : Screen) (r : ReelIx) (e : ReelEntry) (c : CueIx) : (s.setReel sc r e).cue c = s.cue c := rfl
@[simp] theorem State.setReel_role (sc : Screen) (r : ReelIx) (e : ReelEntry) (q : Projector) : (s.setReel sc r e).role q = s.role q := rfl
@[simp] theorem State.setReel_mark (sc : Screen) (r : ReelIx) (e : ReelEntry) (q : Projector) : (s.setReel sc r e).mark q = s.mark q := rfl
@[simp] theorem State.setReel_channel (sc : Screen) (r : ReelIx) (e : ReelEntry) (c : Channel) : (s.setReel sc r e).channel c = s.channel c := rfl
@[simp] theorem State.setReel_shutter (sc : Screen) (r : ReelIx) (e : ReelEntry) (j : Shutter) : (s.setReel sc r e).shutter j = s.shutter j := rfl
@[simp] theorem State.setReel_port (sc : Screen) (r : ReelIx) (e : ReelEntry) (m : Port) : (s.setReel sc r e).port m = s.port m := rfl
@[simp] theorem State.setReel_route (sc : Screen) (r : ReelIx) (e : ReelEntry) (k : Notice) : (s.setReel sc r e).route k = s.route k := rfl

/-! #### onChangeover -/

@[simp] theorem State.onChangeover_mu (sc : Screen) (f : Changeover → Changeover) : (s.onChangeover sc f).mu = s.mu := rfl
@[simp] theorem State.onChangeover_lc (sc : Screen) (f : Changeover → Changeover) : (s.onChangeover sc f).lc = s.lc := rfl
@[simp] theorem State.onChangeover_lu (sc : Screen) (f : Changeover → Changeover) : (s.onChangeover sc f).lu = s.lu := rfl
@[simp] theorem State.onChangeover_hu (sc : Screen) (f : Changeover → Changeover) : (s.onChangeover sc f).hu = s.hu := rfl
@[simp] theorem State.onChangeover_fu (sc : Screen) (f : Changeover → Changeover) : (s.onChangeover sc f).fu = s.fu := rfl
@[simp] theorem State.onChangeover_pu (sc : Screen) (f : Changeover → Changeover) : (s.onChangeover sc f).pu = s.pu := rfl
@[simp] theorem State.onChangeover_pins (sc : Screen) (f : Changeover → Changeover) : (s.onChangeover sc f).pins = s.pins := rfl
@[simp] theorem State.onChangeover_pending (sc : Screen) (f : Changeover → Changeover) : (s.onChangeover sc f).pending = s.pending := rfl
@[simp] theorem State.onChangeover_su_cues (sc : Screen) (f : Changeover → Changeover) : (s.onChangeover sc f).su.cues = s.su.cues := rfl
@[simp] theorem State.onChangeover_su_free (sc : Screen) (f : Changeover → Changeover) : (s.onChangeover sc f).su.free = s.su.free := rfl
@[simp] theorem State.onChangeover_su_roles (sc : Screen) (f : Changeover → Changeover) : (s.onChangeover sc f).su.roles = s.su.roles := rfl
@[simp] theorem State.onChangeover_su_marks (sc : Screen) (f : Changeover → Changeover) : (s.onChangeover sc f).su.marks = s.su.marks := rfl
@[simp] theorem State.onChangeover_su_tripInForce (sc : Screen) (f : Changeover → Changeover) : (s.onChangeover sc f).su.tripInForce = s.su.tripInForce := rfl
@[simp] theorem State.onChangeover_su_margin (sc : Screen) (f : Changeover → Changeover) : (s.onChangeover sc f).su.margin = s.su.margin := rfl
@[simp] theorem State.onChangeover_motion (sc : Screen) (f : Changeover → Changeover) (q : Projector) : (s.onChangeover sc f).motion q = s.motion q := rfl
@[simp] theorem State.onChangeover_station (sc : Screen) (f : Changeover → Changeover) (q : Projector) : (s.onChangeover sc f).station q = s.station q := rfl
@[simp] theorem State.onChangeover_watch (sc : Screen) (f : Changeover → Changeover) (c : Screen) : (s.onChangeover sc f).watch c = s.watch c := rfl
@[simp] theorem State.onChangeover_lamp (sc : Screen) (f : Changeover → Changeover) (q : Projector) : (s.onChangeover sc f).lamp q = s.lamp q := rfl
@[simp] theorem State.onChangeover_cue (sc : Screen) (f : Changeover → Changeover) (c : CueIx) : (s.onChangeover sc f).cue c = s.cue c := rfl
@[simp] theorem State.onChangeover_role (sc : Screen) (f : Changeover → Changeover) (q : Projector) : (s.onChangeover sc f).role q = s.role q := rfl
@[simp] theorem State.onChangeover_mark (sc : Screen) (f : Changeover → Changeover) (q : Projector) : (s.onChangeover sc f).mark q = s.mark q := rfl
@[simp] theorem State.onChangeover_channel (sc : Screen) (f : Changeover → Changeover) (c : Channel) : (s.onChangeover sc f).channel c = s.channel c := rfl
@[simp] theorem State.onChangeover_shutter (sc : Screen) (f : Changeover → Changeover) (j : Shutter) : (s.onChangeover sc f).shutter j = s.shutter j := rfl
@[simp] theorem State.onChangeover_port (sc : Screen) (f : Changeover → Changeover) (m : Port) : (s.onChangeover sc f).port m = s.port m := rfl
@[simp] theorem State.onChangeover_route (sc : Screen) (f : Changeover → Changeover) (k : Notice) : (s.onChangeover sc f).route k = s.route k := rfl

/-! #### setRole -/

@[simp] theorem State.setRole_mu (p : Projector) (r : Role) : (s.setRole p r).mu = s.mu := rfl
@[simp] theorem State.setRole_lc (p : Projector) (r : Role) : (s.setRole p r).lc = s.lc := rfl
@[simp] theorem State.setRole_lu (p : Projector) (r : Role) : (s.setRole p r).lu = s.lu := rfl
@[simp] theorem State.setRole_hu (p : Projector) (r : Role) : (s.setRole p r).hu = s.hu := rfl
@[simp] theorem State.setRole_fu (p : Projector) (r : Role) : (s.setRole p r).fu = s.fu := rfl
@[simp] theorem State.setRole_pu (p : Projector) (r : Role) : (s.setRole p r).pu = s.pu := rfl
@[simp] theorem State.setRole_pins (p : Projector) (r : Role) : (s.setRole p r).pins = s.pins := rfl
@[simp] theorem State.setRole_pending (p : Projector) (r : Role) : (s.setRole p r).pending = s.pending := rfl
@[simp] theorem State.setRole_su_cues (p : Projector) (r : Role) : (s.setRole p r).su.cues = s.su.cues := rfl
@[simp] theorem State.setRole_su_free (p : Projector) (r : Role) : (s.setRole p r).su.free = s.su.free := rfl
@[simp] theorem State.setRole_su_screens (p : Projector) (r : Role) : (s.setRole p r).su.screens = s.su.screens := rfl
@[simp] theorem State.setRole_su_marks (p : Projector) (r : Role) : (s.setRole p r).su.marks = s.su.marks := rfl
@[simp] theorem State.setRole_su_tripInForce (p : Projector) (r : Role) : (s.setRole p r).su.tripInForce = s.su.tripInForce := rfl
@[simp] theorem State.setRole_su_margin (p : Projector) (r : Role) : (s.setRole p r).su.margin = s.su.margin := rfl
@[simp] theorem State.setRole_motion (p : Projector) (r : Role) (q : Projector) : (s.setRole p r).motion q = s.motion q := rfl
@[simp] theorem State.setRole_station (p : Projector) (r : Role) (q : Projector) : (s.setRole p r).station q = s.station q := rfl
@[simp] theorem State.setRole_watch (p : Projector) (r : Role) (c : Screen) : (s.setRole p r).watch c = s.watch c := rfl
@[simp] theorem State.setRole_lamp (p : Projector) (r : Role) (q : Projector) : (s.setRole p r).lamp q = s.lamp q := rfl
@[simp] theorem State.setRole_cue (p : Projector) (r : Role) (c : CueIx) : (s.setRole p r).cue c = s.cue c := rfl
@[simp] theorem State.setRole_screen (p : Projector) (r : Role) (c : Screen) : (s.setRole p r).screen c = s.screen c := rfl
@[simp] theorem State.setRole_mark (p : Projector) (r : Role) (q : Projector) : (s.setRole p r).mark q = s.mark q := rfl
@[simp] theorem State.setRole_channel (p : Projector) (r : Role) (c : Channel) : (s.setRole p r).channel c = s.channel c := rfl
@[simp] theorem State.setRole_shutter (p : Projector) (r : Role) (j : Shutter) : (s.setRole p r).shutter j = s.shutter j := rfl
@[simp] theorem State.setRole_port (p : Projector) (r : Role) (m : Port) : (s.setRole p r).port m = s.port m := rfl
@[simp] theorem State.setRole_route (p : Projector) (r : Role) (k : Notice) : (s.setRole p r).route k = s.route k := rfl

/-! #### setMark -/

@[simp] theorem State.setMark_mu (p : Projector) (m : Option Nat) : (s.setMark p m).mu = s.mu := rfl
@[simp] theorem State.setMark_lc (p : Projector) (m : Option Nat) : (s.setMark p m).lc = s.lc := rfl
@[simp] theorem State.setMark_lu (p : Projector) (m : Option Nat) : (s.setMark p m).lu = s.lu := rfl
@[simp] theorem State.setMark_hu (p : Projector) (m : Option Nat) : (s.setMark p m).hu = s.hu := rfl
@[simp] theorem State.setMark_fu (p : Projector) (m : Option Nat) : (s.setMark p m).fu = s.fu := rfl
@[simp] theorem State.setMark_pu (p : Projector) (m : Option Nat) : (s.setMark p m).pu = s.pu := rfl
@[simp] theorem State.setMark_pins (p : Projector) (m : Option Nat) : (s.setMark p m).pins = s.pins := rfl
@[simp] theorem State.setMark_pending (p : Projector) (m : Option Nat) : (s.setMark p m).pending = s.pending := rfl
@[simp] theorem State.setMark_su_cues (p : Projector) (m : Option Nat) : (s.setMark p m).su.cues = s.su.cues := rfl
@[simp] theorem State.setMark_su_free (p : Projector) (m : Option Nat) : (s.setMark p m).su.free = s.su.free := rfl
@[simp] theorem State.setMark_su_screens (p : Projector) (m : Option Nat) : (s.setMark p m).su.screens = s.su.screens := rfl
@[simp] theorem State.setMark_su_roles (p : Projector) (m : Option Nat) : (s.setMark p m).su.roles = s.su.roles := rfl
@[simp] theorem State.setMark_su_tripInForce (p : Projector) (m : Option Nat) : (s.setMark p m).su.tripInForce = s.su.tripInForce := rfl
@[simp] theorem State.setMark_su_margin (p : Projector) (m : Option Nat) : (s.setMark p m).su.margin = s.su.margin := rfl
@[simp] theorem State.setMark_motion (p : Projector) (m : Option Nat) (q : Projector) : (s.setMark p m).motion q = s.motion q := rfl
@[simp] theorem State.setMark_station (p : Projector) (m : Option Nat) (q : Projector) : (s.setMark p m).station q = s.station q := rfl
@[simp] theorem State.setMark_watch (p : Projector) (m : Option Nat) (c : Screen) : (s.setMark p m).watch c = s.watch c := rfl
@[simp] theorem State.setMark_lamp (p : Projector) (m : Option Nat) (q : Projector) : (s.setMark p m).lamp q = s.lamp q := rfl
@[simp] theorem State.setMark_cue (p : Projector) (m : Option Nat) (c : CueIx) : (s.setMark p m).cue c = s.cue c := rfl
@[simp] theorem State.setMark_screen (p : Projector) (m : Option Nat) (c : Screen) : (s.setMark p m).screen c = s.screen c := rfl
@[simp] theorem State.setMark_role (p : Projector) (m : Option Nat) (q : Projector) : (s.setMark p m).role q = s.role q := rfl
@[simp] theorem State.setMark_channel (p : Projector) (m : Option Nat) (c : Channel) : (s.setMark p m).channel c = s.channel c := rfl
@[simp] theorem State.setMark_shutter (p : Projector) (m : Option Nat) (j : Shutter) : (s.setMark p m).shutter j = s.shutter j := rfl
@[simp] theorem State.setMark_port (p : Projector) (m : Option Nat) (m1 : Port) : (s.setMark p m).port m1 = s.port m1 := rfl
@[simp] theorem State.setMark_route (p : Projector) (m : Option Nat) (k : Notice) : (s.setMark p m).route k = s.route k := rfl

/-! #### onMains -/

@[simp] theorem State.onMains_mu (f : Mains → Mains) : (s.onMains f).mu = s.mu := rfl
@[simp] theorem State.onMains_lc (f : Mains → Mains) : (s.onMains f).lc = s.lc := rfl
@[simp] theorem State.onMains_lu (f : Mains → Mains) : (s.onMains f).lu = s.lu := rfl
@[simp] theorem State.onMains_su (f : Mains → Mains) : (s.onMains f).su = s.su := rfl
@[simp] theorem State.onMains_fu (f : Mains → Mains) : (s.onMains f).fu = s.fu := rfl
@[simp] theorem State.onMains_pu (f : Mains → Mains) : (s.onMains f).pu = s.pu := rfl
@[simp] theorem State.onMains_pins (f : Mains → Mains) : (s.onMains f).pins = s.pins := rfl
@[simp] theorem State.onMains_pending (f : Mains → Mains) : (s.onMains f).pending = s.pending := rfl
@[simp] theorem State.onMains_hu_channels (f : Mains → Mains) : (s.onMains f).hu.channels = s.hu.channels := rfl
@[simp] theorem State.onMains_motion (f : Mains → Mains) (q : Projector) : (s.onMains f).motion q = s.motion q := rfl
@[simp] theorem State.onMains_station (f : Mains → Mains) (q : Projector) : (s.onMains f).station q = s.station q := rfl
@[simp] theorem State.onMains_watch (f : Mains → Mains) (c : Screen) : (s.onMains f).watch c = s.watch c := rfl
@[simp] theorem State.onMains_lamp (f : Mains → Mains) (q : Projector) : (s.onMains f).lamp q = s.lamp q := rfl
@[simp] theorem State.onMains_cue (f : Mains → Mains) (c : CueIx) : (s.onMains f).cue c = s.cue c := rfl
@[simp] theorem State.onMains_screen (f : Mains → Mains) (c : Screen) : (s.onMains f).screen c = s.screen c := rfl
@[simp] theorem State.onMains_role (f : Mains → Mains) (q : Projector) : (s.onMains f).role q = s.role q := rfl
@[simp] theorem State.onMains_mark (f : Mains → Mains) (q : Projector) : (s.onMains f).mark q = s.mark q := rfl
@[simp] theorem State.onMains_channel (f : Mains → Mains) (c : Channel) : (s.onMains f).channel c = s.channel c := rfl
@[simp] theorem State.onMains_shutter (f : Mains → Mains) (j : Shutter) : (s.onMains f).shutter j = s.shutter j := rfl
@[simp] theorem State.onMains_port (f : Mains → Mains) (m : Port) : (s.onMains f).port m = s.port m := rfl
@[simp] theorem State.onMains_route (f : Mains → Mains) (k : Notice) : (s.onMains f).route k = s.route k := rfl

/-! #### onChannel -/

@[simp] theorem State.onChannel_mu (ch : Channel) (f : HouseChannel → HouseChannel) : (s.onChannel ch f).mu = s.mu := rfl
@[simp] theorem State.onChannel_lc (ch : Channel) (f : HouseChannel → HouseChannel) : (s.onChannel ch f).lc = s.lc := rfl
@[simp] theorem State.onChannel_lu (ch : Channel) (f : HouseChannel → HouseChannel) : (s.onChannel ch f).lu = s.lu := rfl
@[simp] theorem State.onChannel_su (ch : Channel) (f : HouseChannel → HouseChannel) : (s.onChannel ch f).su = s.su := rfl
@[simp] theorem State.onChannel_fu (ch : Channel) (f : HouseChannel → HouseChannel) : (s.onChannel ch f).fu = s.fu := rfl
@[simp] theorem State.onChannel_pu (ch : Channel) (f : HouseChannel → HouseChannel) : (s.onChannel ch f).pu = s.pu := rfl
@[simp] theorem State.onChannel_pins (ch : Channel) (f : HouseChannel → HouseChannel) : (s.onChannel ch f).pins = s.pins := rfl
@[simp] theorem State.onChannel_pending (ch : Channel) (f : HouseChannel → HouseChannel) : (s.onChannel ch f).pending = s.pending := rfl
@[simp] theorem State.onChannel_hu_mains (ch : Channel) (f : HouseChannel → HouseChannel) : (s.onChannel ch f).hu.mains = s.hu.mains := rfl
@[simp] theorem State.onChannel_motion (ch : Channel) (f : HouseChannel → HouseChannel) (q : Projector) : (s.onChannel ch f).motion q = s.motion q := rfl
@[simp] theorem State.onChannel_station (ch : Channel) (f : HouseChannel → HouseChannel) (q : Projector) : (s.onChannel ch f).station q = s.station q := rfl
@[simp] theorem State.onChannel_watch (ch : Channel) (f : HouseChannel → HouseChannel) (c : Screen) : (s.onChannel ch f).watch c = s.watch c := rfl
@[simp] theorem State.onChannel_lamp (ch : Channel) (f : HouseChannel → HouseChannel) (q : Projector) : (s.onChannel ch f).lamp q = s.lamp q := rfl
@[simp] theorem State.onChannel_cue (ch : Channel) (f : HouseChannel → HouseChannel) (c : CueIx) : (s.onChannel ch f).cue c = s.cue c := rfl
@[simp] theorem State.onChannel_screen (ch : Channel) (f : HouseChannel → HouseChannel) (c : Screen) : (s.onChannel ch f).screen c = s.screen c := rfl
@[simp] theorem State.onChannel_role (ch : Channel) (f : HouseChannel → HouseChannel) (q : Projector) : (s.onChannel ch f).role q = s.role q := rfl
@[simp] theorem State.onChannel_mark (ch : Channel) (f : HouseChannel → HouseChannel) (q : Projector) : (s.onChannel ch f).mark q = s.mark q := rfl
@[simp] theorem State.onChannel_shutter (ch : Channel) (f : HouseChannel → HouseChannel) (j : Shutter) : (s.onChannel ch f).shutter j = s.shutter j := rfl
@[simp] theorem State.onChannel_port (ch : Channel) (f : HouseChannel → HouseChannel) (m : Port) : (s.onChannel ch f).port m = s.port m := rfl
@[simp] theorem State.onChannel_route (ch : Channel) (f : HouseChannel → HouseChannel) (k : Notice) : (s.onChannel ch f).route k = s.route k := rfl

/-! #### onShutter -/

@[simp] theorem State.onShutter_mu (k : Shutter) (f : ShutterRecord → ShutterRecord) : (s.onShutter k f).mu = s.mu := rfl
@[simp] theorem State.onShutter_lc (k : Shutter) (f : ShutterRecord → ShutterRecord) : (s.onShutter k f).lc = s.lc := rfl
@[simp] theorem State.onShutter_lu (k : Shutter) (f : ShutterRecord → ShutterRecord) : (s.onShutter k f).lu = s.lu := rfl
@[simp] theorem State.onShutter_su (k : Shutter) (f : ShutterRecord → ShutterRecord) : (s.onShutter k f).su = s.su := rfl
@[simp] theorem State.onShutter_hu (k : Shutter) (f : ShutterRecord → ShutterRecord) : (s.onShutter k f).hu = s.hu := rfl
@[simp] theorem State.onShutter_pu (k : Shutter) (f : ShutterRecord → ShutterRecord) : (s.onShutter k f).pu = s.pu := rfl
@[simp] theorem State.onShutter_pins (k : Shutter) (f : ShutterRecord → ShutterRecord) : (s.onShutter k f).pins = s.pins := rfl
@[simp] theorem State.onShutter_pending (k : Shutter) (f : ShutterRecord → ShutterRecord) : (s.onShutter k f).pending = s.pending := rfl
@[simp] theorem State.onShutter_fu_state (k : Shutter) (f : ShutterRecord → ShutterRecord) : (s.onShutter k f).fu.state = s.fu.state := rfl
@[simp] theorem State.onShutter_fu_causes (k : Shutter) (f : ShutterRecord → ShutterRecord) : (s.onShutter k f).fu.causes = s.fu.causes := rfl
@[simp] theorem State.onShutter_fu_underTest (k : Shutter) (f : ShutterRecord → ShutterRecord) : (s.onShutter k f).fu.underTest = s.fu.underTest := rfl
@[simp] theorem State.onShutter_fu_alarm (k : Shutter) (f : ShutterRecord → ShutterRecord) : (s.onShutter k f).fu.alarm = s.fu.alarm := rfl
@[simp] theorem State.onShutter_fu_alarmRun (k : Shutter) (f : ShutterRecord → ShutterRecord) : (s.onShutter k f).fu.alarmRun = s.fu.alarmRun := rfl
@[simp] theorem State.onShutter_motion (k : Shutter) (f : ShutterRecord → ShutterRecord) (q : Projector) : (s.onShutter k f).motion q = s.motion q := rfl
@[simp] theorem State.onShutter_station (k : Shutter) (f : ShutterRecord → ShutterRecord) (q : Projector) : (s.onShutter k f).station q = s.station q := rfl
@[simp] theorem State.onShutter_watch (k : Shutter) (f : ShutterRecord → ShutterRecord) (c : Screen) : (s.onShutter k f).watch c = s.watch c := rfl
@[simp] theorem State.onShutter_lamp (k : Shutter) (f : ShutterRecord → ShutterRecord) (q : Projector) : (s.onShutter k f).lamp q = s.lamp q := rfl
@[simp] theorem State.onShutter_cue (k : Shutter) (f : ShutterRecord → ShutterRecord) (c : CueIx) : (s.onShutter k f).cue c = s.cue c := rfl
@[simp] theorem State.onShutter_screen (k : Shutter) (f : ShutterRecord → ShutterRecord) (c : Screen) : (s.onShutter k f).screen c = s.screen c := rfl
@[simp] theorem State.onShutter_role (k : Shutter) (f : ShutterRecord → ShutterRecord) (q : Projector) : (s.onShutter k f).role q = s.role q := rfl
@[simp] theorem State.onShutter_mark (k : Shutter) (f : ShutterRecord → ShutterRecord) (q : Projector) : (s.onShutter k f).mark q = s.mark q := rfl
@[simp] theorem State.onShutter_channel (k : Shutter) (f : ShutterRecord → ShutterRecord) (c : Channel) : (s.onShutter k f).channel c = s.channel c := rfl
@[simp] theorem State.onShutter_port (k : Shutter) (f : ShutterRecord → ShutterRecord) (m : Port) : (s.onShutter k f).port m = s.port m := rfl
@[simp] theorem State.onShutter_route (k : Shutter) (f : ShutterRecord → ShutterRecord) (k1 : Notice) : (s.onShutter k f).route k1 = s.route k1 := rfl

/-! #### setFire -/

@[simp] theorem State.setFire_mu (x : FireState) : (s.setFire x).mu = s.mu := rfl
@[simp] theorem State.setFire_lc (x : FireState) : (s.setFire x).lc = s.lc := rfl
@[simp] theorem State.setFire_lu (x : FireState) : (s.setFire x).lu = s.lu := rfl
@[simp] theorem State.setFire_su (x : FireState) : (s.setFire x).su = s.su := rfl
@[simp] theorem State.setFire_hu (x : FireState) : (s.setFire x).hu = s.hu := rfl
@[simp] theorem State.setFire_pu (x : FireState) : (s.setFire x).pu = s.pu := rfl
@[simp] theorem State.setFire_pins (x : FireState) : (s.setFire x).pins = s.pins := rfl
@[simp] theorem State.setFire_pending (x : FireState) : (s.setFire x).pending = s.pending := rfl
@[simp] theorem State.setFire_fu_causes (x : FireState) : (s.setFire x).fu.causes = s.fu.causes := rfl
@[simp] theorem State.setFire_fu_underTest (x : FireState) : (s.setFire x).fu.underTest = s.fu.underTest := rfl
@[simp] theorem State.setFire_fu_alarm (x : FireState) : (s.setFire x).fu.alarm = s.fu.alarm := rfl
@[simp] theorem State.setFire_fu_alarmRun (x : FireState) : (s.setFire x).fu.alarmRun = s.fu.alarmRun := rfl
@[simp] theorem State.setFire_fu_shutters (x : FireState) : (s.setFire x).fu.shutters = s.fu.shutters := rfl
@[simp] theorem State.setFire_fu_state (x : FireState) : (s.setFire x).fu.state = x := rfl
@[simp] theorem State.setFire_motion (x : FireState) (q : Projector) : (s.setFire x).motion q = s.motion q := rfl
@[simp] theorem State.setFire_station (x : FireState) (q : Projector) : (s.setFire x).station q = s.station q := rfl
@[simp] theorem State.setFire_watch (x : FireState) (c : Screen) : (s.setFire x).watch c = s.watch c := rfl
@[simp] theorem State.setFire_lamp (x : FireState) (q : Projector) : (s.setFire x).lamp q = s.lamp q := rfl
@[simp] theorem State.setFire_cue (x : FireState) (c : CueIx) : (s.setFire x).cue c = s.cue c := rfl
@[simp] theorem State.setFire_screen (x : FireState) (c : Screen) : (s.setFire x).screen c = s.screen c := rfl
@[simp] theorem State.setFire_role (x : FireState) (q : Projector) : (s.setFire x).role q = s.role q := rfl
@[simp] theorem State.setFire_mark (x : FireState) (q : Projector) : (s.setFire x).mark q = s.mark q := rfl
@[simp] theorem State.setFire_channel (x : FireState) (c : Channel) : (s.setFire x).channel c = s.channel c := rfl
@[simp] theorem State.setFire_shutter (x : FireState) (j : Shutter) : (s.setFire x).shutter j = s.shutter j := rfl
@[simp] theorem State.setFire_port (x : FireState) (m : Port) : (s.setFire x).port m = s.port m := rfl
@[simp] theorem State.setFire_route (x : FireState) (k : Notice) : (s.setFire x).route k = s.route k := rfl

/-! #### setCauses -/

@[simp] theorem State.setCauses_mu (l : List Cause) : (s.setCauses l).mu = s.mu := rfl
@[simp] theorem State.setCauses_lc (l : List Cause) : (s.setCauses l).lc = s.lc := rfl
@[simp] theorem State.setCauses_lu (l : List Cause) : (s.setCauses l).lu = s.lu := rfl
@[simp] theorem State.setCauses_su (l : List Cause) : (s.setCauses l).su = s.su := rfl
@[simp] theorem State.setCauses_hu (l : List Cause) : (s.setCauses l).hu = s.hu := rfl
@[simp] theorem State.setCauses_pu (l : List Cause) : (s.setCauses l).pu = s.pu := rfl
@[simp] theorem State.setCauses_pins (l : List Cause) : (s.setCauses l).pins = s.pins := rfl
@[simp] theorem State.setCauses_pending (l : List Cause) : (s.setCauses l).pending = s.pending := rfl
@[simp] theorem State.setCauses_fu_state (l : List Cause) : (s.setCauses l).fu.state = s.fu.state := rfl
@[simp] theorem State.setCauses_fu_underTest (l : List Cause) : (s.setCauses l).fu.underTest = s.fu.underTest := rfl
@[simp] theorem State.setCauses_fu_alarm (l : List Cause) : (s.setCauses l).fu.alarm = s.fu.alarm := rfl
@[simp] theorem State.setCauses_fu_alarmRun (l : List Cause) : (s.setCauses l).fu.alarmRun = s.fu.alarmRun := rfl
@[simp] theorem State.setCauses_fu_shutters (l : List Cause) : (s.setCauses l).fu.shutters = s.fu.shutters := rfl
@[simp] theorem State.setCauses_fu_causes (l : List Cause) : (s.setCauses l).fu.causes = l := rfl
@[simp] theorem State.setCauses_motion (l : List Cause) (q : Projector) : (s.setCauses l).motion q = s.motion q := rfl
@[simp] theorem State.setCauses_station (l : List Cause) (q : Projector) : (s.setCauses l).station q = s.station q := rfl
@[simp] theorem State.setCauses_watch (l : List Cause) (c : Screen) : (s.setCauses l).watch c = s.watch c := rfl
@[simp] theorem State.setCauses_lamp (l : List Cause) (q : Projector) : (s.setCauses l).lamp q = s.lamp q := rfl
@[simp] theorem State.setCauses_cue (l : List Cause) (c : CueIx) : (s.setCauses l).cue c = s.cue c := rfl
@[simp] theorem State.setCauses_screen (l : List Cause) (c : Screen) : (s.setCauses l).screen c = s.screen c := rfl
@[simp] theorem State.setCauses_role (l : List Cause) (q : Projector) : (s.setCauses l).role q = s.role q := rfl
@[simp] theorem State.setCauses_mark (l : List Cause) (q : Projector) : (s.setCauses l).mark q = s.mark q := rfl
@[simp] theorem State.setCauses_channel (l : List Cause) (c : Channel) : (s.setCauses l).channel c = s.channel c := rfl
@[simp] theorem State.setCauses_shutter (l : List Cause) (j : Shutter) : (s.setCauses l).shutter j = s.shutter j := rfl
@[simp] theorem State.setCauses_port (l : List Cause) (m : Port) : (s.setCauses l).port m = s.port m := rfl
@[simp] theorem State.setCauses_route (l : List Cause) (k : Notice) : (s.setCauses l).route k = s.route k := rfl

/-! #### setUnderTest -/

@[simp] theorem State.setUnderTest_mu (k : Option Shutter) : (s.setUnderTest k).mu = s.mu := rfl
@[simp] theorem State.setUnderTest_lc (k : Option Shutter) : (s.setUnderTest k).lc = s.lc := rfl
@[simp] theorem State.setUnderTest_lu (k : Option Shutter) : (s.setUnderTest k).lu = s.lu := rfl
@[simp] theorem State.setUnderTest_su (k : Option Shutter) : (s.setUnderTest k).su = s.su := rfl
@[simp] theorem State.setUnderTest_hu (k : Option Shutter) : (s.setUnderTest k).hu = s.hu := rfl
@[simp] theorem State.setUnderTest_pu (k : Option Shutter) : (s.setUnderTest k).pu = s.pu := rfl
@[simp] theorem State.setUnderTest_pins (k : Option Shutter) : (s.setUnderTest k).pins = s.pins := rfl
@[simp] theorem State.setUnderTest_pending (k : Option Shutter) : (s.setUnderTest k).pending = s.pending := rfl
@[simp] theorem State.setUnderTest_fu_state (k : Option Shutter) : (s.setUnderTest k).fu.state = s.fu.state := rfl
@[simp] theorem State.setUnderTest_fu_causes (k : Option Shutter) : (s.setUnderTest k).fu.causes = s.fu.causes := rfl
@[simp] theorem State.setUnderTest_fu_alarm (k : Option Shutter) : (s.setUnderTest k).fu.alarm = s.fu.alarm := rfl
@[simp] theorem State.setUnderTest_fu_alarmRun (k : Option Shutter) : (s.setUnderTest k).fu.alarmRun = s.fu.alarmRun := rfl
@[simp] theorem State.setUnderTest_fu_shutters (k : Option Shutter) : (s.setUnderTest k).fu.shutters = s.fu.shutters := rfl
@[simp] theorem State.setUnderTest_fu_underTest (k : Option Shutter) : (s.setUnderTest k).fu.underTest = k := rfl
@[simp] theorem State.setUnderTest_motion (k : Option Shutter) (q : Projector) : (s.setUnderTest k).motion q = s.motion q := rfl
@[simp] theorem State.setUnderTest_station (k : Option Shutter) (q : Projector) : (s.setUnderTest k).station q = s.station q := rfl
@[simp] theorem State.setUnderTest_watch (k : Option Shutter) (c : Screen) : (s.setUnderTest k).watch c = s.watch c := rfl
@[simp] theorem State.setUnderTest_lamp (k : Option Shutter) (q : Projector) : (s.setUnderTest k).lamp q = s.lamp q := rfl
@[simp] theorem State.setUnderTest_cue (k : Option Shutter) (c : CueIx) : (s.setUnderTest k).cue c = s.cue c := rfl
@[simp] theorem State.setUnderTest_screen (k : Option Shutter) (c : Screen) : (s.setUnderTest k).screen c = s.screen c := rfl
@[simp] theorem State.setUnderTest_role (k : Option Shutter) (q : Projector) : (s.setUnderTest k).role q = s.role q := rfl
@[simp] theorem State.setUnderTest_mark (k : Option Shutter) (q : Projector) : (s.setUnderTest k).mark q = s.mark q := rfl
@[simp] theorem State.setUnderTest_channel (k : Option Shutter) (c : Channel) : (s.setUnderTest k).channel c = s.channel c := rfl
@[simp] theorem State.setUnderTest_shutter (k : Option Shutter) (j : Shutter) : (s.setUnderTest k).shutter j = s.shutter j := rfl
@[simp] theorem State.setUnderTest_port (k : Option Shutter) (m : Port) : (s.setUnderTest k).port m = s.port m := rfl
@[simp] theorem State.setUnderTest_route (k : Option Shutter) (k1 : Notice) : (s.setUnderTest k).route k1 = s.route k1 := rfl

/-! #### onPort -/

@[simp] theorem State.onPort_mu (n : Port) (f : PortRecord → PortRecord) : (s.onPort n f).mu = s.mu := rfl
@[simp] theorem State.onPort_lc (n : Port) (f : PortRecord → PortRecord) : (s.onPort n f).lc = s.lc := rfl
@[simp] theorem State.onPort_lu (n : Port) (f : PortRecord → PortRecord) : (s.onPort n f).lu = s.lu := rfl
@[simp] theorem State.onPort_su (n : Port) (f : PortRecord → PortRecord) : (s.onPort n f).su = s.su := rfl
@[simp] theorem State.onPort_hu (n : Port) (f : PortRecord → PortRecord) : (s.onPort n f).hu = s.hu := rfl
@[simp] theorem State.onPort_fu (n : Port) (f : PortRecord → PortRecord) : (s.onPort n f).fu = s.fu := rfl
@[simp] theorem State.onPort_pins (n : Port) (f : PortRecord → PortRecord) : (s.onPort n f).pins = s.pins := rfl
@[simp] theorem State.onPort_pending (n : Port) (f : PortRecord → PortRecord) : (s.onPort n f).pending = s.pending := rfl
@[simp] theorem State.onPort_pu_routes (n : Port) (f : PortRecord → PortRecord) : (s.onPort n f).pu.routes = s.pu.routes := rfl
@[simp] theorem State.onPort_pu_passed (n : Port) (f : PortRecord → PortRecord) : (s.onPort n f).pu.passed = s.pu.passed := rfl
@[simp] theorem State.onPort_pu_answers (n : Port) (f : PortRecord → PortRecord) : (s.onPort n f).pu.answers = s.pu.answers := rfl
@[simp] theorem State.onPort_motion (n : Port) (f : PortRecord → PortRecord) (q : Projector) : (s.onPort n f).motion q = s.motion q := rfl
@[simp] theorem State.onPort_station (n : Port) (f : PortRecord → PortRecord) (q : Projector) : (s.onPort n f).station q = s.station q := rfl
@[simp] theorem State.onPort_watch (n : Port) (f : PortRecord → PortRecord) (c : Screen) : (s.onPort n f).watch c = s.watch c := rfl
@[simp] theorem State.onPort_lamp (n : Port) (f : PortRecord → PortRecord) (q : Projector) : (s.onPort n f).lamp q = s.lamp q := rfl
@[simp] theorem State.onPort_cue (n : Port) (f : PortRecord → PortRecord) (c : CueIx) : (s.onPort n f).cue c = s.cue c := rfl
@[simp] theorem State.onPort_screen (n : Port) (f : PortRecord → PortRecord) (c : Screen) : (s.onPort n f).screen c = s.screen c := rfl
@[simp] theorem State.onPort_role (n : Port) (f : PortRecord → PortRecord) (q : Projector) : (s.onPort n f).role q = s.role q := rfl
@[simp] theorem State.onPort_mark (n : Port) (f : PortRecord → PortRecord) (q : Projector) : (s.onPort n f).mark q = s.mark q := rfl
@[simp] theorem State.onPort_channel (n : Port) (f : PortRecord → PortRecord) (c : Channel) : (s.onPort n f).channel c = s.channel c := rfl
@[simp] theorem State.onPort_shutter (n : Port) (f : PortRecord → PortRecord) (j : Shutter) : (s.onPort n f).shutter j = s.shutter j := rfl
@[simp] theorem State.onPort_route (n : Port) (f : PortRecord → PortRecord) (k : Notice) : (s.onPort n f).route k = s.route k := rfl

end

end Sys2Proof.Machine
end

