-- ==== Sys2Proof/Laws/Tables.lean ====
section
/-! SUPPORT. Reading a table entry after a rewrite of it, and each record read after its own update. -/

namespace Sys2Proof

@[simp] theorem upd_get {α : Type} {n : Nat} (v : Vector α n) (i j : Fin n) (f : α → α) :
    (upd v i f)[j] = if i = j then f v[i] else v[j] := by
  simp only [upd, Fin.getElem_fin, Vector.getElem_set]
  by_cases h : i = j
  · simp [h]
  · have : (i : Nat) ≠ j := fun e => h (Fin.ext e)
    simp [h, this]

@[simp] theorem updAll_get {α : Type} {n : Nat} (v : Vector α n) (f : α → α) (i : Fin n) :
    (updAll v f)[i] = f v[i] := by
  simp [updAll]

@[simp] theorem updEach_get {α : Type} {n : Nat} (v : Vector α n) (f : Fin n → α → α) (i : Fin n) :
    (updEach v f)[i] = f i v[i] := by
  simp [updEach]

/-- Two tables with the same entries are the same. -/
theorem table_ext {α : Type} {n : Nat} {v w : Vector α n} (h : ∀ i : Fin n, v[i] = w[i]) : v = w :=
  Vector.ext (fun i hi => h ⟨i, hi⟩)

/-- `numbered` finds the thing of a number that is in range. -/
theorem numbered_numberOf {n : Nat} (i : Fin n) : numbered n (i.val + 1) = some i := by
  have h : 1 ≤ i.val + 1 ∧ i.val + 1 ≤ n := ⟨by omega, i.isLt⟩
  simp only [numbered, h, and_self, dite_true]
  simp

namespace Machine

variable (s : State)

@[simp] theorem State.motion_onMotion (p q : Projector) (f : Motion → Motion) :
    (s.onMotion p f).motion q = if p = q then f (s.motion p) else s.motion q := upd_get ..

@[simp] theorem State.station_onStation (p q : Projector) (f : Station → Station) :
    (s.onStation p f).station q = if p = q then f (s.station p) else s.station q := upd_get ..

@[simp] theorem State.station_onDesired (p q : Projector) (f : Desired → Desired) :
    (s.onDesired p f).station q =
      if p = q then { s.station p with desired := f (s.station p).desired } else s.station q := upd_get ..

@[simp] theorem State.watch_setWatch (a c : Screen) (w : Watch) :
    (s.setWatch a w).watch c = if a = c then w else s.watch c := upd_get ..

@[simp] theorem State.lamp_onLamp (p q : Projector) (f : Lamp → Lamp) :
    (s.onLamp p f).lamp q = if p = q then f (s.lamp p) else s.lamp q := upd_get ..

@[simp] theorem State.cue_onCue (x y : CueIx) (f : Cue → Cue) :
    (s.onCue x f).cue y = if x = y then f (s.cue x) else s.cue y := upd_get ..

@[simp] theorem State.screen_onScreen (a c : Screen) (f : ScreenRecord → ScreenRecord) :
    (s.onScreen a f).screen c = if a = c then f (s.screen a) else s.screen c := upd_get ..

@[simp] theorem State.screen_onChangeover (a c : Screen) (f : Changeover → Changeover) :
    (s.onChangeover a f).screen c =
      if a = c then { s.screen a with changeover := f (s.screen a).changeover } else s.screen c := upd_get ..

@[simp] theorem State.screen_setReel (a c : Screen) (r : ReelIx) (e : ReelEntry) :
    (s.setReel a r e).screen c =
      if a = c then { s.screen a with reels := upd (s.screen a).reels r (fun _ => e) } else s.screen c :=
  upd_get ..

@[simp] theorem State.role_setRole (p q : Projector) (r : Role) :
    (s.setRole p r).role q = if p = q then r else s.role q := upd_get ..

@[simp] theorem State.mark_setMark (p q : Projector) (m : Option Nat) :
    (s.setMark p m).mark q = if p = q then m else s.mark q := upd_get ..

@[simp] theorem State.channel_onChannel (a c : Channel) (f : HouseChannel → HouseChannel) :
    (s.onChannel a f).channel c = if a = c then f (s.channel a) else s.channel c := upd_get ..

@[simp] theorem State.shutter_onShutter (k j : Shutter) (f : ShutterRecord → ShutterRecord) :
    (s.onShutter k f).shutter j = if k = j then f (s.shutter k) else s.shutter j := upd_get ..

@[simp] theorem State.port_onPort (n m : Port) (f : PortRecord → PortRecord) :
    (s.onPort n f).port m = if n = m then f (s.port n) else s.port m := upd_get ..

@[simp] theorem State.mains_onMains (f : Mains → Mains) : (s.onMains f).hu.mains = f s.hu.mains := rfl

end Machine

end Sys2Proof
end

