-- ==== Sys2Proof/Laws/Notices.lean ====
section
/-! SUPPORT. Raising a notice and answering a command, and what both leave alone (R163, R165, R166). -/

namespace Sys2Proof.Machine

variable (s : State)

/-! ### raise -/

section

variable (n : Notice)

@[simp] theorem State.raise_mu : (s.raise n).mu = s.mu := rfl
@[simp] theorem State.raise_lc : (s.raise n).lc = s.lc := rfl
@[simp] theorem State.raise_lu : (s.raise n).lu = s.lu := rfl
@[simp] theorem State.raise_su : (s.raise n).su = s.su := rfl
@[simp] theorem State.raise_hu : (s.raise n).hu = s.hu := rfl
@[simp] theorem State.raise_fu : (s.raise n).fu = s.fu := rfl
@[simp] theorem State.raise_pins : (s.raise n).pins = s.pins := rfl
@[simp] theorem State.raise_pending : (s.raise n).pending = s.pending := rfl
@[simp] theorem State.raise_routes : (s.raise n).pu.routes = s.pu.routes := rfl
@[simp] theorem State.raise_passed : (s.raise n).pu.passed = s.pu.passed := rfl
@[simp] theorem State.raise_answers : (s.raise n).pu.answers = s.pu.answers := rfl
@[simp] theorem State.raise_motion (p : Projector) : (s.raise n).motion p = s.motion p := rfl
@[simp] theorem State.raise_station (p : Projector) : (s.raise n).station p = s.station p := rfl
@[simp] theorem State.raise_watch (c : Screen) : (s.raise n).watch c = s.watch c := rfl
@[simp] theorem State.raise_lamp (p : Projector) : (s.raise n).lamp p = s.lamp p := rfl
@[simp] theorem State.raise_cue (x : CueIx) : (s.raise n).cue x = s.cue x := rfl
@[simp] theorem State.raise_screen (c : Screen) : (s.raise n).screen c = s.screen c := rfl
@[simp] theorem State.raise_role (p : Projector) : (s.raise n).role p = s.role p := rfl
@[simp] theorem State.raise_mark (p : Projector) : (s.raise n).mark p = s.mark p := rfl
@[simp] theorem State.raise_channel (c : Channel) : (s.raise n).channel c = s.channel c := rfl
@[simp] theorem State.raise_shutter (k : Shutter) : (s.raise n).shutter k = s.shutter k := rfl
@[simp] theorem State.raise_route (k : Notice) : (s.raise n).route k = s.route k := rfl

/-- Every port of the route entry holds the notice pending, and no other port is touched (R165). -/
theorem State.port_raise (i : Port) :
    (s.raise n).port i =
      if (s.route n).getLsbD i.val then (s.port i).setPending ((s.port i).pendingSet ||| noticeBit n)
      else s.port i := updEach_get ..

end

/-! ### answer -/

section

variable (n : Port) (c : Instr) (st : Status) (data : List Byte)

@[simp] theorem State.answer_mu : (s.answer n c st data).mu = s.mu := rfl
@[simp] theorem State.answer_lc : (s.answer n c st data).lc = s.lc := rfl
@[simp] theorem State.answer_lu : (s.answer n c st data).lu = s.lu := rfl
@[simp] theorem State.answer_su : (s.answer n c st data).su = s.su := rfl
@[simp] theorem State.answer_hu : (s.answer n c st data).hu = s.hu := rfl
@[simp] theorem State.answer_fu : (s.answer n c st data).fu = s.fu := rfl
@[simp] theorem State.answer_pins : (s.answer n c st data).pins = s.pins := rfl
@[simp] theorem State.answer_pending : (s.answer n c st data).pending = s.pending := rfl
@[simp] theorem State.answer_ports : (s.answer n c st data).pu.ports = s.pu.ports := rfl
@[simp] theorem State.answer_routes : (s.answer n c st data).pu.routes = s.pu.routes := rfl
@[simp] theorem State.answer_motion (p : Projector) : (s.answer n c st data).motion p = s.motion p := rfl
@[simp] theorem State.answer_station (p : Projector) : (s.answer n c st data).station p = s.station p := rfl
@[simp] theorem State.answer_watch (a : Screen) : (s.answer n c st data).watch a = s.watch a := rfl
@[simp] theorem State.answer_lamp (p : Projector) : (s.answer n c st data).lamp p = s.lamp p := rfl
@[simp] theorem State.answer_cue (x : CueIx) : (s.answer n c st data).cue x = s.cue x := rfl
@[simp] theorem State.answer_screen (a : Screen) : (s.answer n c st data).screen a = s.screen a := rfl
@[simp] theorem State.answer_role (p : Projector) : (s.answer n c st data).role p = s.role p := rfl
@[simp] theorem State.answer_mark (p : Projector) : (s.answer n c st data).mark p = s.mark p := rfl
@[simp] theorem State.answer_channel (a : Channel) : (s.answer n c st data).channel a = s.channel a := rfl
@[simp] theorem State.answer_shutter (k : Shutter) : (s.answer n c st data).shutter k = s.shutter k := rfl
@[simp] theorem State.answer_port (i : Port) : (s.answer n c st data).port i = s.port i := rfl
@[simp] theorem State.answer_route (k : Notice) : (s.answer n c st data).route k = s.route k := rfl

end

/-! ### console -/

/-- A console command always answers a next state: the owner's rule, or the port unit's refusal, with the answer
set out (R161, R163). -/
theorem console_next (n : Port) (c : Instr) (rule : State → Ruling) :
    ∃ r : Ruling, console n c s rule = .next (r.state.answer n c r.status r.data)
      ∧ (r = refuse s .denied ∨ r = refuse s .range ∨ r = rule s) := by
  unfold console
  split
  · exact ⟨refuse s .denied, rfl, .inl rfl⟩
  · split
    · exact ⟨refuse s .range, rfl, .inr (.inl rfl)⟩
    · exact ⟨rule s, rfl, .inr (.inr rfl)⟩

/-- A command whose right the port holds and whose arguments are in range is ruled on by its owner (R161). -/
theorem console_taken (n : Port) (c : Instr) (rule : State → Ruling)
    (hr : (s.port n).grants (rightNeeded c) = true) (hi : inRange c = true) :
    console n c s rule = .next ((rule s).state.answer n c (rule s).status (rule s).data) := by
  simp [console, hr, hi]

end Sys2Proof.Machine
end

