-- ==== Sys2Proof/Laws/Acts.lean ====
section
/-! SUPPORT. What an ordinary act of an owner leaves alone, and the laws it keeps: one relation, and one lemma for
each record update that is such an act. -/

namespace Sys2Proof.Machine

/-- A port as raises leave it: untouched, or with notices added to its pending set. -/
def PortRecord.grownTo (r r' : PortRecord) : Prop := r' = r ∨ ∃ m, r' = r.setPending (r.pendingSet ||| m)

theorem PortRecord.grownTo_refl (r : PortRecord) : r.grownTo r := .inl rfl

theorem PortRecord.grownTo_trans {a b c : PortRecord} (h : a.grownTo b) (k : b.grownTo c) : a.grownTo c := by
  rcases h with rfl | ⟨m, rfl⟩
  · exact k
  · rcases k with rfl | ⟨m', rfl⟩
    · exact .inr ⟨m, rfl⟩
    · exact .inr ⟨m ||| m', by simp [PortRecord.setPending, PortRecord.refresh, BitVec.or_assoc]⟩

/-- A role that R95 speaks of. -/
def Role.readying (r : Role) : Prop := r = .armed ∨ r = .starting ∨ r = .standby

/-- From `s` to `t` by an ordinary act: no command answered, nothing of the fire unit, the pins, the queue, the
routes, the trips, the lists or presence touched, ports only gaining notices, and the laws kept. -/
structure State.Act (s t : State) : Prop where
  fu : t.fu = s.fu
  pins : t.pins = s.pins
  pending : t.pending = s.pending
  routes : t.pu.routes = s.pu.routes
  passed : t.pu.passed = s.pu.passed
  answers : t.pu.answers = s.pu.answers
  ports : ∀ i, (s.port i).grownTo (t.port i)
  lcTrip : t.lc.tripInForce = s.lc.tripInForce
  luTrip : t.lu.tripInForce = s.lu.tripInForce
  suTrip : t.su.tripInForce = s.su.tripInForce
  margin : t.su.margin = s.su.margin
  free : t.su.free = s.su.free
  lists : ∀ c, (t.screen c).list = (s.screen c).list
  generations : ∀ c, (t.screen c).generation = (s.screen c).generation
  presence : ∀ p, (t.station p).presence = (s.station p).presence
  mains : t.hu.mains = s.hu.mains
  override : ∀ c, (t.channel c).override = (s.channel c).override
  readying : ∀ p, (t.role p).readying → (s.role p).readying
  counter : s.counterBound → t.counterBound
  blade : s.bladeLaw → t.bladeLaw
  lineTrip : s.lineTripLaw → t.lineTripLaw
  after : s.afterLaw → t.afterLaw
  house : s.houseLaw → t.houseLaw

namespace State.Act

theorem refl (s : State) : s.Act s where
  fu := rfl
  pins := rfl
  pending := rfl
  routes := rfl
  passed := rfl
  answers := rfl
  ports _ := .inl rfl
  lcTrip := rfl
  luTrip := rfl
  suTrip := rfl
  margin := rfl
  free := rfl
  lists _ := rfl
  generations _ := rfl
  presence _ := rfl
  mains := rfl
  override _ := rfl
  readying _ := id
  counter := id
  blade := id
  lineTrip := id
  after := id
  house := id

theorem trans {s t u : State} (a : s.Act t) (b : t.Act u) : s.Act u where
  fu := b.fu.trans a.fu
  pins := b.pins.trans a.pins
  pending := b.pending.trans a.pending
  routes := b.routes.trans a.routes
  passed := b.passed.trans a.passed
  answers := b.answers.trans a.answers
  ports i := PortRecord.grownTo_trans (a.ports i) (b.ports i)
  lcTrip := b.lcTrip.trans a.lcTrip
  luTrip := b.luTrip.trans a.luTrip
  suTrip := b.suTrip.trans a.suTrip
  margin := b.margin.trans a.margin
  free := b.free.trans a.free
  lists c := (b.lists c).trans (a.lists c)
  generations c := (b.generations c).trans (a.generations c)
  presence p := (b.presence p).trans (a.presence p)
  mains := b.mains.trans a.mains
  override c := (b.override c).trans (a.override c)
  readying p := a.readying p ∘ b.readying p
  counter := b.counter ∘ a.counter
  blade := b.blade ∘ a.blade
  lineTrip := b.lineTrip ∘ a.lineTrip
  after := b.after ∘ a.after
  house := b.house ∘ a.house

end State.Act

/-- A step of a chain of acts. -/
theorem State.Act.andThen {s t : State} (a : s.Act t) {f : State → State} (h : ∀ u : State, u.Act (f u)) : s.Act (f t) :=
  a.trans (h t)

variable (s : State)

/-! ### Updates of single records -/

theorem State.act_raise (n : Notice) : s.Act (s.raise n) where
  __ := State.Act.refl s
  ports i := by
    rw [State.port_raise]
    split
    · exact .inr ⟨_, rfl⟩
    · exact .inl rfl

theorem State.act_onMotion (p : Projector) (f : Motion → Motion)
    (h : (s.motion p).framesRemaining ≤ (s.motion p).loadedLength →
      (f (s.motion p)).framesRemaining ≤ (f (s.motion p)).loadedLength) : s.Act (s.onMotion p f) where
  __ := State.Act.refl s
  counter hs q := by
    by_cases e : p = q
    · subst e; simpa using h (hs p)
    · simpa [e] using hs q

theorem State.act_onLamp (p : Projector) (f : Lamp → Lamp) : s.Act (s.onLamp p f) :=
  { State.Act.refl s with }

theorem State.act_onCue (x : CueIx) (f : Cue → Cue) : s.Act (s.onCue x f) := { State.Act.refl s with }

theorem State.act_setMark (p : Projector) (m : Option Nat) : s.Act (s.setMark p m) :=
  { State.Act.refl s with }

theorem State.act_setRole (p : Projector) (r : Role) (h : r.readying → (s.role p).readying) :
    s.Act (s.setRole p r) where
  __ := State.Act.refl s
  readying q hq := by
    by_cases e : p = q
    · subst e; exact h (by simpa using hq)
    · simpa [e] using hq

theorem State.act_setRole_idle (p : Projector) : s.Act (s.setRole p .idle) :=
  s.act_setRole p .idle (by simp [Role.readying])

/-- A screen record rewritten with its list, generation and the AFTER timer's law kept. -/
theorem State.act_onScreen (c : Screen) (f : ScreenRecord → ScreenRecord)
    (hl : (f (s.screen c)).list = (s.screen c).list)
    (hg : (f (s.screen c)).generation = (s.screen c).generation)
    (ha : ((s.screen c).afterTimer.isSome = true ↔ (s.screen c).state.performing = true) →
      ((f (s.screen c)).afterTimer.isSome = true ↔ (f (s.screen c)).state.performing = true)) :
    s.Act (s.onScreen c f) where
  __ := State.Act.refl s
  lists d := by by_cases e : c = d <;> simp_all
  generations d := by by_cases e : c = d <;> simp_all
  after hs d := by
    have key : ∀ r : ScreenRecord, (r.state = .dark ∨ r.state = .running ∨ r.state = .waiting) ↔
        r.state.performing = true := by
      intro r; cases h : r.state <;> simp [ScreenState.performing]
    by_cases e : c = d
    · subst e
      have := hs c
      rw [key] at this ⊢
      simpa using ha this
    · simpa [e] using hs d

theorem State.act_onChangeover (c : Screen) (f : Changeover → Changeover) : s.Act (s.onChangeover c f) :=
  s.act_onScreen c _ rfl rfl id

theorem State.act_setReel (c : Screen) (r : ReelIx) (e : ReelEntry) : s.Act (s.setReel c r e) :=
  s.act_onScreen c _ rfl rfl id

/-- A channel rewritten with its override kept and its fade's law kept. -/
theorem State.act_onChannel (c : Channel) (f : HouseChannel → HouseChannel)
    (ho : (f (s.channel c)).override = (s.channel c).override)
    (hf : (s.channel c).fadeLaw → (f (s.channel c)).fadeLaw) : s.Act (s.onChannel c f) where
  __ := State.Act.refl s
  override d := by by_cases e : c = d <;> simp_all
  house hs d := by
    by_cases e : c = d
    · subst e; simpa using hf (hs c)
    · simpa [e] using hs d

/-- The desired state of a station rewritten: no blade opened beside an open one, nothing made unsafe in a
trip. -/
theorem State.act_onDesired (p : Projector) (f : Desired → Desired)
    (hb : (f (s.station p).desired).blade = .opened →
      (s.station p).desired.blade = .opened ∨ (s.station (partner p)).desired.blade ≠ .opened)
    (ht : s.lc.tripInForce = true → (s.station p).desired = .safe → f (s.station p).desired = .safe) :
    s.Act (s.onDesired p f) where
  __ := State.Act.refl s
  presence q := by by_cases e : p = q <;> simp_all
  blade hs c := by
    have ha : ∀ c : Screen, partner (projectorOf c .a) = projectorOf c .b := by decide
    have hb' : ∀ c : Screen, partner (projectorOf c .b) = projectorOf c .a := by decide
    have hne : ∀ c : Screen, projectorOf c .a ≠ projectorOf c .b := by decide
    have := hs c
    by_cases e : p = projectorOf c .a
    · subst e
      simp only [State.station_onDesired, hne c, if_true, if_false]
      rintro ⟨h1, h2⟩
      rcases hb h1 with h | h
      · exact this ⟨h, h2⟩
      · rw [ha] at h; exact h h2
    · by_cases e' : p = projectorOf c .b
      · subst e'
        simp only [State.station_onDesired, (hne c).symm, if_true, if_false]
        rintro ⟨h1, h2⟩
        rcases hb h2 with h | h
        · exact this ⟨h1, h⟩
        · rw [hb'] at h; exact h h1
      · simpa [e, e'] using this
  lineTrip hs hi := by
    obtain ⟨h1, h2⟩ := hs hi
    refine ⟨fun q => ?_, h2⟩
    by_cases e : p = q
    · subst e; simpa [Desired.safe] using ht hi (h1 p)
    · simpa [e] using h1 q

/-- The burst queue rewritten with nothing new in it during a trip. -/
theorem State.act_setQueue (q : List Burst) (h : s.lc.tripInForce = true → ∀ b ∈ q, b ∈ s.lc.burstQueue) :
    s.Act (s.setQueue q) where
  __ := State.Act.refl s
  lineTrip hs hi := by
    obtain ⟨h1, h2, h3, h4⟩ := hs hi
    exact ⟨h1, h2, fun b hb => h3 b (h hi b hb), h4⟩

/-- A confirmation watch rewritten; it stays closed in a trip. -/
theorem State.act_setWatch (c : Screen) (w : Watch)
    (h : s.lc.tripInForce = true → s.watch c = .closed → w = .closed) : s.Act (s.setWatch c w) where
  __ := State.Act.refl s
  lineTrip hs hi := by
    obtain ⟨h1, h2, h3⟩ := hs hi
    refine ⟨h1, fun d => ?_, h3⟩
    by_cases e : c = d
    · subst e; simpa using h hi (h2 c)
    · simpa [e] using h2 d

theorem State.act_setWindow (w : Window) : s.Act (s.setWindow w) := { State.Act.refl s with }

theorem State.act_setSending_nothing : s.Act (s.setSending .nothing) where
  __ := State.Act.refl s
  lineTrip hs hi := by
    obtain ⟨h1, h2, h3, _⟩ := hs hi
    exact ⟨h1, h2, h3, fun _ _ h => by simp at h⟩

/-! ### Choices and conditions -/

theorem State.act_ite {c : Prop} [Decidable c] {t u : State} (h : c → s.Act t) (k : ¬c → s.Act u) :
    s.Act (if c then t else u) := by
  split
  · exact h ‹_›
  · exact k ‹_›

end Sys2Proof.Machine
end

