-- ==== Sys2Proof/Laws/ShowActs.lean ====
section
/-! SUPPORT. The shared operations of the line controller, motion unit, lamp unit, house light unit and show unit
are ordinary acts. -/

namespace Sys2Proof.Machine

variable (s : State)

/-! ### Notices with a cause -/

theorem State.act_projectorAttention (p : Projector) (c : MotionCause) : s.Act (s.projectorAttention p c) :=
  (s.act_onMotion p _ id).andThen (fun u => u.act_raise _)

theorem State.act_lampAttention (p : Projector) (c : LampCause) : s.Act (s.lampAttention p c) :=
  (s.act_onLamp p _).andThen (fun u => u.act_raise _)

/-! ### Requests to the line controller (R32, R33, R36, R115) -/

theorem State.act_askDouser (p : Projector) (v : Opening) : s.Act (s.askDouser p v).2 := by
  unfold State.askDouser State.energizingRuling
  split
  · refine s.act_onDesired p (fun d => { d with douser := v }) (fun h => .inl h) (fun ht hd => ?_)
    cases v <;> simp_all [Desired.safe]
  · exact .refl s

theorem State.act_askArc (p : Projector) (v : Switch) : s.Act (s.askArc p v).2 := by
  unfold State.askArc State.energizingRuling
  split
  · refine s.act_onDesired p (fun d => { d with arc := v }) (fun h => .inl h) (fun ht hd => ?_)
    cases v <;> simp_all [Desired.safe]
  · exact .refl s

theorem State.act_askBlade (p : Projector) (v : Opening) : s.Act (s.askBlade p v).2 := by
  unfold State.askBlade State.bladeRuling State.energizingRuling
  split
  · refine s.act_onDesired p (fun d => { d with blade := v }) (fun hv => .inr ?_) (fun ht hd => ?_)
    · have hv : v = .opened := hv
      subst hv
      cases hi : s.lc.tripInForce <;> simp_all
    · cases v <;> simp_all [Desired.safe]
  · exact .refl s

theorem State.act_closeDouser (p : Projector) : s.Act (s.closeDouser p) := s.act_askDouser p .closed
theorem State.act_closeBlade (p : Projector) : s.Act (s.closeBlade p) := s.act_askBlade p .closed
theorem State.act_arcOff (p : Projector) : s.Act (s.arcOff p) := s.act_askArc p .off

theorem State.act_askBurst (c : Screen) (side : Side) : s.Act (s.askBurst c side).2 := by
  unfold State.askBurst State.burstRuling
  split
  · refine s.act_setQueue _ (fun ht => ?_)
    simp_all
  · exact .refl s

theorem State.act_askWithdraw (c : Screen) : s.Act (s.askWithdraw c).2 := by
  unfold State.askWithdraw
  split
  · exact s.act_setQueue _ (fun _ b hb => List.mem_of_mem_filter hb)
  · exact .refl s

/-! ### Changeover and roles (R93, R111 to R115) -/

theorem State.act_moveReel (p : Projector) (a b : ReelState) : s.Act (s.moveReel p a b) := by
  unfold State.moveReel
  split
  · exact s.act_setReel ..
  · exact .refl s

theorem State.act_requestBurst (c : Screen) (p : Projector) : s.Act (s.requestBurst c p) := by
  have h := s.act_askBurst c (sideOf p)
  unfold State.requestBurst
  split
  · rename_i e; rw [e] at h; exact h.andThen (fun u => u.act_onChangeover ..)
  · rename_i e; rw [e] at h; exact h

theorem State.act_withdrawBurst (c : Screen) : s.Act (s.withdrawBurst c) := by
  have h := s.act_askWithdraw c
  unfold State.withdrawBurst
  split
  · rename_i e; rw [e] at h
    exact (h.andThen (fun u => u.act_onChangeover ..)).andThen (fun u => u.act_raise _)
  · rename_i e; rw [e] at h; exact h

theorem State.act_requestIfReady (c : Screen) (inc : Option Projector) : s.Act (s.requestIfReady c inc) := by
  unfold State.requestIfReady
  split
  · split
    · exact s.act_requestBurst ..
    · exact .refl s
  · exact .refl s

theorem State.act_examine (c : Screen) : s.Act (s.examine c) := by
  have h := s.act_onChangeover c (fun x => { x with incoming := s.incomingOf c })
  simp only [State.examine]
  split
  · exact h.andThen (fun u => u.act_requestIfReady ..)
  · split
    · exact h
    · exact h.andThen (fun u => u.act_withdrawBurst ..)
  all_goals exact .refl s

theorem State.act_waitUnlessQueued (c : Screen) : s.Act (s.waitUnlessQueued c) := by
  unfold State.waitUnlessQueued
  split
  · exact .refl s
  · refine (s.act_raise _).trans (State.act_onScreen _ c _ rfl rfl (fun h => ?_))
    simp only [h]
    split <;> simp_all [ScreenState.performing]

theorem State.act_openChangeover (c : Screen) (x : CueIx) : s.Act (s.openChangeover c x) :=
  ((s.act_onChangeover ..).andThen (fun u => u.act_requestIfReady ..)).andThen
    (fun u => u.act_waitUnlessQueued c)

/-- A chain of acts followed by a role given to a projector that was readying at its start. -/
theorem State.Act.thenSetRole {s t : State} (a : s.Act t) (p : Projector) (r : Role) (h : (s.role p).readying) :
    s.Act (t.setRole p r) where
  __ := a
  readying q hq := by
    by_cases e : p = q
    · subst e; exact h
    · exact a.readying q (by simpa [e] using hq)

theorem State.act_openDouserIf (p : Projector) (b : Bool) : s.Act (s.openDouserIf p b) := by
  unfold State.openDouserIf
  split
  · exact s.act_askDouser ..
  · exact .refl s

theorem State.Act.thenStandby {s t : State} (a : s.Act t) (p : Projector) (h : (s.role p).readying) :
    s.Act (t.becomeStandby p) :=
  ((a.thenSetRole p .standby h).andThen (fun u => u.act_openDouserIf ..)).andThen (fun u => u.act_examine _)

theorem State.act_onSpeed (p : Projector) (v : Speed) : s.Act (s.onSpeed p v) := by
  unfold State.onSpeed
  split
  · rename_i h; exact (State.Act.refl s).thenStandby p (by simp [h, Role.readying])
  · rename_i h
    exact (s.act_setRole p .starting (fun _ => by simp [h, Role.readying])).andThen (fun u => u.act_examine _)
  · rename_i h
    exact (s.act_setRole p .starting (fun _ => by simp [h, Role.readying])).andThen (fun u => u.act_examine _)
  · exact .refl s

theorem State.act_onLampState (p : Projector) (v : LampState) : s.Act (s.onLampState p v) :=
  (s.act_openDouserIf ..).andThen (fun u => u.act_examine _)

/-! ### Motion (R4 to R16) -/

theorem State.act_moveMotion (p : Projector) (m : Motion)
    (h : (s.motion p).framesRemaining ≤ (s.motion p).loadedLength → m.framesRemaining ≤ m.loadedLength) :
    s.Act (s.moveMotion p m) := by
  have h1 := s.act_onMotion p (fun _ => m) h
  simp only [State.moveMotion]
  split
  · exact h1
  · exact h1.andThen (fun u => u.act_onSpeed ..)

theorem State.act_gateFollows (p : Projector) (v : MotorCommand) : s.Act (s.gateFollows p v) := by
  unfold State.gateFollows
  split
  · exact s.act_moveMotion p _ id
  · exact s.act_moveMotion p _ id

theorem State.act_writeMotor (p : Projector) (v : MotorCommand)
    (h : s.lc.tripInForce = true → v = .stop) : s.Act (s.writeMotor p v) := by
  unfold State.writeMotor
  split
  · exact .refl s
  · refine (s.act_onDesired p (fun d => { d with motor := v }) (fun h => .inl h) (fun ht hd => ?_)).andThen (fun u => u.act_gateFollows ..)
    simp_all [Desired.safe]

theorem State.act_askMotor (p : Projector) (v : MotorCommand) : s.Act (s.askMotor p v).2 := by
  unfold State.askMotor State.energizingRuling
  split
  · refine s.act_writeMotor p v (fun ht => ?_)
    cases v <;> simp_all
  · exact .refl s

theorem State.act_stopMotor (p : Projector) : s.Act (s.stopMotor p) := s.act_askMotor p .stop

theorem State.act_loadCounter (p : Projector) (n : Nat) : s.Act (s.loadCounter p n) :=
  s.act_onMotion p _ (fun _ => Nat.le_refl n)

theorem State.act_clearCounter (p : Projector) : s.Act (s.clearCounter p) :=
  s.act_onMotion p _ (fun _ => Nat.zero_le _)

theorem State.act_setFrameWatch (p : Projector) (w : Option Nat) : s.Act (s.setFrameWatch p w) :=
  s.act_onMotion p _ id

/-- Timing a period leaves the counter and the loaded length. -/
theorem Motion.time_counter (m : Motion) :
    m.time.framesRemaining = m.framesRemaining ∧ m.time.loadedLength = m.loadedLength := by
  unfold Motion.time
  split
  · exact ⟨rfl, rfl⟩
  · exact ⟨rfl, rfl⟩
  · simp only [Motion.judge]
    split <;> simp only [Motion.judgeForSpeed, Motion.judgeAtSpeed]
    all_goals repeat' split
    all_goals simp

/-- Counting a pulse takes at most one from the counter and leaves the loaded length. -/
theorem Motion.count_counter (m : Motion) :
    m.count.framesRemaining = m.framesRemaining - 1 ∧ m.count.loadedLength = m.loadedLength := by
  unfold Motion.count
  split
  · rename_i h; exact ⟨by omega, rfl⟩
  · exact ⟨rfl, rfl⟩

theorem State.act_takePulse (p : Projector) : s.Act (s.takePulse p) := by
  have h := s.act_onMotion p (fun _ => (s.motion p).count.time) (fun h => by
    have h1 := (s.motion p).count_counter
    have h2 := (s.motion p).count.time_counter
    show (s.motion p).count.time.framesRemaining ≤ (s.motion p).count.time.loadedLength
    omega)
  simp only [State.takePulse]
  split
  · exact h.andThen (fun u => u.act_projectorAttention ..)
  · exact h

/-! ### Lamps (R44 to R62) -/

theorem State.act_handLamp (p : Projector) (l : Lamp) : s.Act (s.handLamp p l) :=
  (s.act_onLamp p _).andThen (fun u => u.act_onLampState ..)

theorem State.act_extinguish (p : Projector) : s.Act (s.extinguish p) := by
  unfold State.extinguish
  split
  · exact .refl s
  · exact ((s.act_arcOff p).andThen (fun u => u.act_handLamp ..)).andThen (fun u => u.act_lampAttention ..)

theorem State.act_strike (p : Projector) : s.Act (s.strike p).2 := by
  have h := s.act_askArc p .on
  unfold State.strike
  split
  · split
    · rename_i e; rw [e] at h
      exact (h.andThen (fun u => u.act_handLamp ..)).andThen (fun u => u.act_lampAttention ..)
    · exact .refl s
  · exact .refl s

theorem State.act_sampleStriking (p : Projector) (v i : Nat) : s.Act (s.sampleStriking p v i) := by
  simp only [State.sampleStriking]
  split
  · exact s.act_onLamp ..
  · split
    · exact s.act_onLamp ..
    · exact (s.act_handLamp ..).andThen (fun u => u.act_lampAttention ..)

theorem State.act_sampleBurning (p : Projector) (v i : Nat) : s.Act (s.sampleBurning p v i) := by
  simp only [State.sampleBurning]
  split
  · exact s.act_onLamp ..
  · split
    · exact s.act_onLamp ..
    · exact ((s.act_arcOff p).andThen (fun u => u.act_handLamp ..)).andThen (fun u => u.act_lampAttention ..)

theorem State.act_sample (p : Projector) (v i : Nat) : s.Act (s.sample p v i) := by
  unfold State.sample
  split
  · exact s.act_sampleStriking ..
  · exact s.act_sampleBurning ..
  · exact .refl s
  · exact .refl s
  · exact .refl s

theorem State.act_trimTest (p : Projector) : s.Act (s.trimTest p) := by
  unfold State.trimTest
  split
  · exact (s.act_onLamp ..).andThen (fun u => u.act_lampAttention ..)
  · exact .refl s

theorem State.act_exhaust (p : Projector) : s.Act (s.exhaust p) :=
  (s.act_onLamp ..).andThen (fun u => u.act_lampAttention ..)

theorem State.act_feedStep (p : Projector) : s.Act (s.feedStep p) := by
  unfold State.feedStep
  split
  · exact .refl s
  · rename_i t _
    refine ((s.act_onLamp p (fun l => l.stepFeed t)).andThen (fun u => u.act_trimTest p)).trans ?_
    unfold State.exhaustIf
    exact State.act_ite _ (fun _ => State.act_exhaust _ p) (fun _ => .refl _)

theorem State.act_lampPresence (p : Projector) (a b : Presence) : s.Act (s.lampPresence p a b) := by
  unfold State.lampPresence
  split
  · exact s.act_onLamp ..
  · split
    · exact s.act_onLamp ..
    · exact .refl s

theorem State.act_strikeFailed (p : Projector) : s.Act (s.strikeFailed p) :=
  ((s.act_arcOff p).andThen (fun u => u.act_handLamp ..)).andThen (fun u => u.act_lampAttention ..)

theorem State.act_holdEnded (p : Projector) : s.Act (s.holdEnded p) :=
  ((s.act_arcOff p).andThen (fun u => u.act_handLamp ..)).andThen (fun u => u.act_lampAttention ..)

theorem State.act_lampLineReset (p : Projector) : s.Act (s.lampLineReset p) :=
  (s.act_handLamp ..).andThen (fun u => u.act_lampAttention ..)

theorem State.act_lampTrip (p : Projector) : s.Act (s.lampTrip p) := by
  unfold State.lampTrip
  split
  · exact .refl s
  · exact s.act_handLamp ..

/-! ### House lights (R132, R133) -/

theorem HouseChannel.fadeLaw_arrive (c : HouseChannel) (t : Nat) : (c.arrive t).fadeLaw := ⟨rfl, rfl⟩

theorem HouseChannel.fadeLaw_startFade (c : HouseChannel) (t time h : Nat) (hn : c.atOnce t time h = false) :
    (c.startFade t time h).fadeLaw := by
  have hne : c.fine ≠ t * 256 := fun e => by simp [HouseChannel.atOnce, HouseChannel.distance, e] at hn
  simp only [HouseChannel.fadeLaw, HouseChannel.startFade]
  by_cases e : c.fine < t * 256
  · simp [e]
  · simp only [e, if_false]
    show t * 256 < c.fine
    omega

theorem State.act_fade (c : Channel) (t time : Nat) : s.Act (s.fade c t time) := by
  unfold State.fade
  split
  · exact (s.act_onChannel c _ rfl (fun _ => HouseChannel.fadeLaw_arrive ..)).andThen (fun u => u.act_raise _)
  · exact s.act_onChannel c _ rfl (fun _ => HouseChannel.fadeLaw_startFade _ _ _ _ (by simp_all))

theorem State.act_askFade (c : Channel) (t time : Nat) : s.Act (s.askFade c t time).2 := by
  unfold State.askFade
  split
  · exact .refl s
  · exact s.act_fade ..

/-! ### Withdrawal, run-out, the MOTOR action (R92, R94, R95) -/

theorem State.act_withdraw (p : Projector) : s.Act (s.withdraw p) :=
  ((((((s.act_moveReel ..).andThen (fun u => u.act_setRole_idle p)).andThen (fun u => u.act_stopMotor p)).andThen
    (fun u => u.act_closeDouser p)).andThen (fun u => u.act_clearCounter p)).andThen (fun u => u.act_raise _)).andThen
    (fun u => u.act_examine _)

theorem State.act_withdrawIf (p : Projector) (b : Bool) : s.Act (s.withdrawIf p b) := by
  unfold State.withdrawIf
  split
  · exact s.act_withdraw p
  · exact .refl s

theorem State.act_showShutter (p : Projector) (v : ShutterState) : s.Act (s.showShutter p v) :=
  (s.act_withdrawIf ..).andThen (fun u => u.act_examine _)

theorem State.act_forgetMark (p : Projector) (v : Presence) : s.Act (s.forgetMark p v) := by
  unfold State.forgetMark
  split
  · exact s.act_setMark ..
  · exact .refl s

theorem State.act_showPresence (p : Projector) (v : Presence) : s.Act (s.showPresence p v) :=
  ((s.act_forgetMark ..).andThen (fun u => u.act_withdrawIf ..)).andThen (fun u => u.act_examine _)

theorem State.act_handPresence (p : Projector) (old : Presence) : s.Act (s.handPresence p old) :=
  (s.act_lampPresence ..).andThen (fun u => u.act_showPresence ..)

theorem State.act_reelDone (p : Projector) (old : ReelState) : s.Act (s.reelDone p old) :=
  (s.act_moveReel ..).andThen (fun u => u.act_setRole_idle p)

theorem State.act_runDark (c : Screen) (p : Projector) : s.Act (s.onScreen c (ScreenRecord.runDark p)) := by
  refine s.act_onScreen c _ rfl rfl (fun h => ?_)
  simp only [ScreenRecord.runDark, h]
  cases (s.screen c).state <;> simp [ScreenState.performing]

theorem State.act_runOutOnScreen (p : Projector) : s.Act (s.runOutOnScreen p) := by
  simp only [State.runOutOnScreen]
  refine .trans ?_ (State.act_examine _ _)
  refine .trans ?_ (State.act_raise _ _)
  refine .trans ?_ (State.act_extinguish _ _)
  refine .trans ?_ (State.act_stopMotor _ _)
  refine .trans ?_ (State.act_closeBlade _ _)
  refine .trans ?_ (State.act_closeDouser _ _)
  exact .trans (State.act_reelDone ..) (State.act_runDark ..)

theorem State.act_runOutUnseen (p : Projector) : s.Act (s.runOutUnseen p) :=
  ((((s.act_reelDone ..).andThen (fun u => u.act_stopMotor p)).andThen (fun u => u.act_closeDouser p)).andThen
    (fun u => u.act_projectorAttention ..)).andThen (fun u => u.act_examine _)

theorem State.act_onCounterZero (p : Projector) : s.Act (s.onCounterZero p) := by
  unfold State.onCounterZero
  split
  · exact .refl s
  · exact ((s.act_reelDone ..).andThen (fun u => u.act_stopMotor p)).andThen (fun u => u.act_examine _)
  · exact s.act_runOutOnScreen p
  all_goals exact s.act_runOutUnseen p

/-- The MOTOR action is taken on a projector that is readying. -/
theorem State.Act.thenMotorAction {s t : State} (a : s.Act t) (p : Projector) (h : (s.role p).readying) :
    s.Act (t.motorAction p).2 := by
  have hm := t.act_askMotor p .run
  unfold State.motorAction
  split
  · rename_i u e
    rw [e] at hm
    have h2 : s.Act ((u.setRole p .starting).examine (screenOf p)) :=
      ((a.trans hm).thenSetRole p .starting h).andThen (fun u => u.act_examine _)
    simp only [State.standbyIf]
    split
    · exact h2.thenStandby p h
    · exact h2
  · exact a

/-! ### Cues (R102 to R106) -/

theorem State.readying_incomingOf {c : Screen} {p : Projector} (h : s.incomingOf c = some p) :
    (s.role p).readying := by
  simp only [State.incomingOf] at h
  split at h
  · simp at h
  · split at h
    · split at h
      · rename_i hr
        simp only [Option.some.injEq] at h
        rw [h] at hr
        revert hr
        cases s.role p <;> simp [Role.isReadying, Role.readying]
      · simp at h
    · simp at h

theorem State.act_strikeCue (c : Screen) : s.Act (s.strikeCue c).2 := by
  unfold State.strikeCue
  split
  · exact .refl s
  · split
    · exact .refl s
    · rename_i side _
      have h := s.act_strike (projectorOf c side)
      split
      · rename_i e; rw [e] at h; exact h
      · rename_i e; rw [e] at h; exact h

theorem State.act_motorCue (c : Screen) : s.Act (s.motorCue c).2 := by
  unfold State.motorCue
  split
  · rename_i p e
    refine (State.Act.refl s).thenMotorAction p ?_
    simp only [State.armedNext] at e
    split at e
    · rename_i q hq
      split at e
      · simp only [Option.some.injEq] at e
        subst e
        exact s.readying_incomingOf hq
      · simp at e
    · simp at e
  · exact s.act_onScreen c _ rfl rfl id

theorem State.act_douserCue (c : Screen) (t : DouserTarget) : s.Act (s.douserCue c t).2 := by
  unfold State.douserCue
  split
  · exact .refl s
  · rename_i p v _
    have h := s.act_askDouser p v
    split
    · rename_i e; rw [e] at h; exact h
    · rename_i e; rw [e] at h; exact h

theorem State.act_houseCue (c : Screen) (level time : Nat) : s.Act (s.houseCue c level time).2 := by
  have h := s.act_askFade c level time
  unfold State.houseCue
  split
  · rename_i e; rw [e] at h; exact h
  · rename_i e; rw [e] at h; exact h

theorem State.act_endCue (c : Screen) : s.Act (s.endCue c) :=
  (s.act_onScreen c _ rfl rfl (fun _ => by simp [ScreenState.performing])).andThen (fun u => u.act_raise _)

theorem State.act_cueAction (c : Screen) (x : CueIx) : s.Act (s.cueAction c x).2 := by
  unfold State.cueAction
  split
  · exact s.act_strikeCue c
  · exact s.act_motorCue c
  · exact s.act_openChangeover c x
  · exact s.act_douserCue c _
  · exact s.act_houseCue c _ _
  · exact s.act_endCue c

theorem State.act_dropCueWatch (c : Screen) (x : CueIx) : s.Act (s.dropCueWatch c x) := by
  unfold State.dropCueWatch
  split
  · exact s.act_setFrameWatch ..
  · exact s.act_setFrameWatch ..
  · exact .refl s

theorem State.act_fireCue (c : Screen) (x : CueIx) : s.Act (s.fireCue c x) :=
  ((((s.act_dropCueWatch c x).andThen (fun u => u.act_cueAction c x)).andThen (fun u => u.act_onCue x _)).andThen
    (fun u => u.act_raise _)).andThen (fun u => u.act_onScreen c _ rfl rfl (by simp [ScreenRecord.advance]))

theorem State.act_holdChange (c : Screen) (x : CueIx) : s.Act (s.holdChange c x) :=
  (s.act_dropCueWatch c x).andThen (fun u => u.act_onScreen c _ rfl rfl id)

theorem State.act_evaluate (c : Screen) (x : CueIx) : s.Act (s.evaluate c x).2 := by
  simp only [State.evaluate]
  split
  · exact .refl s
  · exact .refl s
  all_goals
    split
    · exact .refl s
    · split
      · exact .refl s
      · exact s.act_setFrameWatch ..

/-- However many cues fire one after another, it is an ordinary act. -/
theorem State.act_runCues (fuel : Nat) (c : Screen) (s : State) : s.Act (s.runCues fuel c) := by
  induction fuel generalizing s with
  | zero => exact .refl s
  | succ fuel ih =>
    unfold State.runCues
    split
    · exact .refl s
    · split
      · exact .refl s
      · rename_i x _
        have h := s.act_evaluate c x
        split
        · rename_i e; rw [e] at h; exact h
        · rename_i e; rw [e] at h
          split
          · exact h.andThen (fun u => u.act_holdChange ..)
          · exact (h.andThen (fun u => u.act_fireCue ..)).andThen (fun u => ih u)

theorem State.act_takeCue (c : Screen) (x : CueIx) : s.Act (s.takeCue c x) := by
  unfold State.takeCue
  split
  · exact s.act_holdChange ..
  · exact (s.act_fireCue ..).andThen (fun u => State.act_runCues _ _ u)

theorem State.act_onWatchReached (p : Projector) : s.Act (s.onWatchReached p) := by
  simp only [State.onWatchReached]
  split
  · exact .refl s
  · split
    · exact .refl s
    · split
      · exact s.act_takeCue ..
      · exact (s.act_raise _).andThen (fun u => u.act_takeCue ..)
      · exact .refl s
      · exact .refl s

theorem State.act_onMark (p : Projector) : s.Act (s.onMark p) := by
  simp only [State.onMark]
  split
  · exact .refl s
  · split
    · exact .refl s
    · split
      · split
        · exact s.act_raise _
        · split
          · exact s.act_takeCue ..
          · exact (s.act_raise _).andThen (fun u => u.act_takeCue ..)
      all_goals exact .refl s

theorem State.act_onMarkCount (p : Projector) (k : Nat) : s.Act (s.onMarkCount p k) := by
  unfold State.onMarkCount
  split
  · exact s.act_setMark ..
  · split
    · exact .refl s
    · exact (s.act_setMark ..).andThen (fun u => u.act_onMark p)

/-! ### The changeover sent, undone, settled, aborted (R116 to R123) -/

theorem State.act_toTail (p : Projector) : s.Act (s.toTail p) :=
  (((s.act_setRole p .tail (by simp [Role.readying])).andThen (fun u => u.act_setFrameWatch p _)).andThen
    (fun u => u.act_closeDouser p)).andThen (fun u => u.act_extinguish p)

theorem State.act_reevaluate (c : Screen) : s.Act (s.reevaluate c) := by
  unfold State.reevaluate
  split
  · exact .refl s
  · split
    · exact State.act_runCues _ _ s
    · exact State.act_runCues _ _ s
    · exact .refl s
    · exact .refl s

theorem State.act_takeOff (o : Option Projector) : s.Act (s.takeOff o) := by
  unfold State.takeOff
  split
  · exact s.act_toTail _
  · exact .refl s

theorem State.act_picture (c : Screen) : s.Act (s.onScreen c ScreenRecord.picture) := by
  refine s.act_onScreen c _ rfl rfl (fun h => ?_)
  simp only [ScreenRecord.picture, h]
  cases (s.screen c).state <;> simp [ScreenState.performing]

theorem State.act_putOn (c : Screen) (p : Projector) : s.Act (s.putOn c p) :=
  ((s.act_onChangeover ..).andThen (fun u => u.act_moveReel ..)).andThen
    (fun u => u.act_setRole p .onScreen (by simp [Role.readying]))

theorem State.act_changeoverDone (c : Screen) (p : Projector) : s.Act (s.changeoverDone c p) :=
  (((s.act_putOn c p).andThen (fun u => u.act_takeOff _)).andThen (fun u => u.act_picture c)).andThen
    (fun u => u.act_reevaluate c)

theorem State.act_reopenBlade (o : Option Projector) : s.Act (s.reopenBlade o) := by
  unfold State.reopenBlade
  split
  · exact s.act_askBlade ..
  · exact .refl s

theorem State.act_undoBurst (c : Screen) (side : Side) : s.Act (s.undoBurst c side) :=
  (((s.act_onChangeover ..).andThen (fun u => u.act_closeBlade _)).andThen (fun u => u.act_reopenBlade _)).andThen
    (fun u => u.act_raise _)

theorem State.act_onBurstSent (c : Screen) (side : Side) : s.Act (s.onBurstSent c side) := by
  unfold State.onBurstSent
  split
  · split
    · exact s.act_changeoverDone ..
    · exact s.act_undoBurst ..
  · exact s.act_undoBurst ..
  · exact (s.act_closeBlade _).andThen (fun u => u.act_closeBlade _)

theorem State.act_notConfirmed (p : Projector) : s.Act (s.notConfirmed p) :=
  (s.act_onChangeover ..).andThen (fun u => u.act_projectorAttention ..)

theorem State.act_confirm (p : Projector) (b : Bool) : s.Act (s.confirm p b) := by
  unfold State.confirm
  split
  · exact .refl s
  · exact s.act_notConfirmed p

theorem State.act_fireHeld (c : Screen) : s.Act (s.fireHeld c) := by
  have h : s.Act (s.onScreen c (fun r => { r with changeHeld := false })) := s.act_onScreen c _ rfl rfl id
  simp only [State.fireHeld]
  split
  · split
    · exact (h.andThen (fun u => u.act_fireCue ..)).andThen (fun u => State.act_runCues _ _ u)
    · exact h
  · exact .refl s

theorem State.act_onOutcome (c : Screen) (a b : Bool) : s.Act (s.onOutcome c a b) := by
  unfold State.onOutcome
  split
  · exact ((((s.act_onChangeover ..).andThen (fun u => u.act_confirm ..)).andThen (fun u => u.act_confirm ..)).andThen
      (fun u => u.act_raise _)).andThen (fun u => u.act_fireHeld c)
  · exact s.act_examine c

theorem State.act_onBurstDropped (c : Screen) : s.Act (s.onBurstDropped c) := s.act_onChangeover ..

/-- A poll judged by its screen's confirmation watch (R39). -/
theorem State.act_judgePoll (p : Projector) (blade : Option Opening) : s.Act (s.judgePoll p blade) := by
  have closed : ∀ side, Watch.judge side blade .closed = .closed := fun _ => rfl
  simp only [State.judgePoll]
  split
  · exact .refl s
  · rename_i a b e
    split
    · exact (s.act_setWatch (screenOf p) .closed (fun _ _ => rfl)).andThen (fun u => u.act_onOutcome ..)
    · refine s.act_setWatch (screenOf p) _ (fun _ hc => ?_)
      rw [hc, closed] at e
      simp at e

/-! ### Events of one projector or screen -/

theorem State.act_reportWatch (p : Projector) (b : Bool) : s.Act (s.reportWatch p b) := by
  unfold State.reportWatch
  exact s.act_ite (fun _ => s.act_onWatchReached p) (fun _ => .refl s)

theorem State.act_reportZero (p : Projector) (b : Bool) : s.Act (s.reportZero p b) := by
  unfold State.reportZero
  exact s.act_ite (fun _ => s.act_onCounterZero p) (fun _ => .refl s)

theorem State.act_reportSpeed (p : Projector) (v : Option Speed) : s.Act (s.reportSpeed p v) := by
  unfold State.reportSpeed
  split
  · exact s.act_onSpeed ..
  · exact .refl s

theorem State.act_handPulse (p : Projector) (r : PulseReports) : s.Act (s.handPulse p r) :=
  ((s.act_reportWatch ..).andThen (fun u => u.act_reportZero ..)).andThen (fun u => u.act_reportSpeed ..)

theorem State.act_acceptedPulse (p : Projector) : s.Act (s.acceptedPulse p) := by
  unfold State.acceptedPulse
  split
  · exact (s.act_takePulse p).andThen (fun u => u.act_handPulse ..)
  · exact .refl s

theorem State.act_slowStartOut (p : Projector) : s.Act (s.slowStartOut p) := by
  unfold State.slowStartOut
  split
  · exact .refl s
  · exact (s.act_onMotion p _ id).andThen (fun u => u.act_projectorAttention ..)

theorem State.act_silentAttention (p : Projector) (b : Bool) : s.Act (s.silentAttention p b) := by
  unfold State.silentAttention
  exact s.act_ite (fun _ => s.act_projectorAttention ..) (fun _ => .refl s)

theorem State.act_silence (p : Projector) : s.Act (s.silence p) := by
  unfold State.silence
  split
  · exact ((s.act_onMotion p _ id).andThen (fun u => u.act_silentAttention ..)).andThen
      (fun u => u.act_reportSpeed ..)
  · exact .refl s

theorem State.act_afterMet (c : Screen) : s.Act (s.afterMet c) := by
  unfold State.afterMet
  split
  · exact .refl s
  · split
    · exact (s.act_onScreen c _ rfl rfl (by simp [ScreenRecord.afterReached])).andThen (fun u => u.act_takeCue ..)
    all_goals exact .refl s

end Sys2Proof.Machine
end

