-- ==== Sys2Proof/Laws/Line.lean ====
section
/-! SUPPORT. What the line controller's poll, window and received frames can do: one lemma for each operation, and the
fields that the end of a poll leaves alone. -/

namespace Sys2Proof.Machine

/-! ### The end of a poll (R24, R26) -/

section

variable (l : LineControl)

theorem LineControl.pollSent_of_poll {p : Projector} {d : Desired} (h : l.sending = .poll p d) :
    l.pollSent = { l with sending := .nothing, window := .opened p .awaiting } := by
  simp [LineControl.pollSent, h]

theorem LineControl.pollSent_of_not_poll (h : ∀ p d, l.sending ≠ .poll p d) : l.pollSent = l := by
  unfold LineControl.pollSent
  split
  · exact absurd ‹_› (h _ _)
  all_goals rfl

/-- Nothing but the frame being sent and the window changes as a poll ends. -/
theorem LineControl.pollSent_eq : l.pollSent = { l with sending := l.pollSent.sending, window := l.pollSent.window } := by
  unfold LineControl.pollSent
  split <;> rfl

@[simp] theorem LineControl.pollSent_stations : l.pollSent.stations = l.stations := by rw [l.pollSent_eq]
@[simp] theorem LineControl.pollSent_tripInForce : l.pollSent.tripInForce = l.tripInForce := by rw [l.pollSent_eq]
@[simp] theorem LineControl.pollSent_burstQueue : l.pollSent.burstQueue = l.burstQueue := by rw [l.pollSent_eq]
@[simp] theorem LineControl.pollSent_resetPending : l.pollSent.resetPending = l.resetPending := by rw [l.pollSent_eq]
@[simp] theorem LineControl.pollSent_position : l.pollSent.position = l.position := by rw [l.pollSent_eq]
@[simp] theorem LineControl.pollSent_untilSlot : l.pollSent.untilSlot = l.untilSlot := by rw [l.pollSent_eq]
@[simp] theorem LineControl.pollSent_watches : l.pollSent.watches = l.watches := by rw [l.pollSent_eq]

/-- After it no poll is being sent. -/
theorem LineControl.pollSent_sending_ne (p : Projector) (d : Desired) : l.pollSent.sending ≠ .poll p d := by
  unfold LineControl.pollSent
  split <;> simp_all

@[simp] theorem LineControl.pollSent_pollSent : l.pollSent.pollSent = l.pollSent :=
  l.pollSent.pollSent_of_not_poll l.pollSent_sending_ne

end

section

variable (s : State)

@[simp] theorem State.pollSent_lc : s.pollSent.lc = s.lc.pollSent := rfl
@[simp] theorem State.pollSent_mu : s.pollSent.mu = s.mu := rfl
@[simp] theorem State.pollSent_lu : s.pollSent.lu = s.lu := rfl
@[simp] theorem State.pollSent_su : s.pollSent.su = s.su := rfl
@[simp] theorem State.pollSent_hu : s.pollSent.hu = s.hu := rfl
@[simp] theorem State.pollSent_fu : s.pollSent.fu = s.fu := rfl
@[simp] theorem State.pollSent_pu : s.pollSent.pu = s.pu := rfl
@[simp] theorem State.pollSent_pins : s.pollSent.pins = s.pins := rfl
@[simp] theorem State.pollSent_pending : s.pollSent.pending = s.pending := rfl
@[simp] theorem State.pollSent_motion (q : Projector) : s.pollSent.motion q = s.motion q := rfl
@[simp] theorem State.pollSent_lamp (q : Projector) : s.pollSent.lamp q = s.lamp q := rfl
@[simp] theorem State.pollSent_cue (c : CueIx) : s.pollSent.cue c = s.cue c := rfl
@[simp] theorem State.pollSent_screen (c : Screen) : s.pollSent.screen c = s.screen c := rfl
@[simp] theorem State.pollSent_role (q : Projector) : s.pollSent.role q = s.role q := rfl
@[simp] theorem State.pollSent_mark (q : Projector) : s.pollSent.mark q = s.mark q := rfl
@[simp] theorem State.pollSent_channel (c : Channel) : s.pollSent.channel c = s.channel c := rfl
@[simp] theorem State.pollSent_shutter (j : Shutter) : s.pollSent.shutter j = s.shutter j := rfl
@[simp] theorem State.pollSent_port (m : Port) : s.pollSent.port m = s.port m := rfl
@[simp] theorem State.pollSent_route (k : Notice) : s.pollSent.route k = s.route k := rfl
@[simp] theorem State.pollSent_station (q : Projector) : s.pollSent.station q = s.station q := by
  simp [State.station]
@[simp] theorem State.pollSent_watch (c : Screen) : s.pollSent.watch c = s.watch c := by
  simp [State.watch]

theorem State.act_pollSent : s.Act s.pollSent where
  __ := State.Act.refl s
  presence p := by simp
  lcTrip := by simp
  blade h := by simpa [State.bladeLaw] using h
  lineTrip h ht := by
    obtain ⟨h1, h2, h3, h4⟩ := h (by simpa using ht)
    refine ⟨by simpa using h1, by simpa using h2, by simpa using h3, fun c side => ?_⟩
    simp only [State.pollSent_lc]
    unfold LineControl.pollSent
    split
    · simp
    all_goals exact h4 c side

/-! ### The end of a window (R26, R27, R39) -/

/-- What the end of a reply window can do: nothing where none is open; the watch judges the poll that brought a good
reply; and any other poll is a miss. -/
theorem State.judgeWindow_cases :
    (s.lc.window = .closed ∧ s.judgeWindow = s)
      ∨ (∃ p blade, s.lc.window = .opened p (.good blade) ∧ s.judgeWindow = (s.setWindow .closed).judgePoll p blade)
      ∨ (∃ p, (s.lc.window = .opened p .awaiting ∨ s.lc.window = .opened p .bad)
          ∧ s.judgeWindow = ((s.setWindow .closed).miss p).judgePoll p none) := by
  unfold State.judgeWindow
  split
  · exact .inl ⟨‹_›, rfl⟩
  · exact .inr (.inl ⟨_, _, ‹_›, rfl⟩)
  · exact .inr (.inr ⟨_, .inl ‹_›, rfl⟩)
  · exact .inr (.inr ⟨_, .inr ‹_›, rfl⟩)

/-! ### A received frame (R20, R22, R26) -/

/-- The idle line is a frame's end: its time is that of the holds before, whatever transitions come after it. -/
theorem signalTime_of_idle (held rest : List Nat) (idle : Nat) (hh : ∀ h ∈ held, h < idleHold) (hi : idleHold ≤ idle) :
    signalTime (held ++ idle :: rest) = 16 * (held.sum / 2 + 1) := by
  have e : frameHolds (held ++ idle :: rest) = held := by
    unfold frameHolds
    have hd : ∀ h ∈ held, decide (h < idleHold) = true := fun h k => decide_eq_true (hh h k)
    cases rest with
    | nil => rw [List.dropLast_concat]; exact List.takeWhile_eq_self_iff.mpr hd
    | cons x xs =>
      rw [List.dropLast_append_of_ne_nil (by simp), List.takeWhile_append_of_pos hd]
      simp [Nat.not_lt.mpr hi]
  rw [signalTime, e]

/-- What a received frame can do: begun before a poll's last cell, or not ended by the end of its slot, it changes
nothing; else the poll is sent, and a frame outside the window changes nothing more, a good reply is taken, and any
other marks the window bad. -/
theorem State.receiveFrame_cases (begun : Nat) (signal : List Nat) :
    ((begun < 872 ∨ 5000 < begun + signalTime signal) ∧ s.receiveFrame begun signal = s)
      ∨ (872 ≤ begun ∧ begun + signalTime signal ≤ 5000 ∧ s.receiveFrame begun signal = s.pollSent
          ∧ ∀ p, s.lc.pollSent.window = .opened p .awaiting → 1272 < begun)
      ∨ (∃ p r, inWindow p begun s ∧ begun + signalTime signal ≤ 5000 ∧ goodReplyOf p signal = some r
          ∧ s.receiveFrame begun signal = s.pollSent.takeReply p r)
      ∨ (∃ p, inWindow p begun s ∧ begun + signalTime signal ≤ 5000 ∧ goodReplyOf p signal = none
          ∧ s.receiveFrame begun signal = s.pollSent.setWindow (.opened p .bad)) := by
  unfold State.receiveFrame
  split
  · exact .inl ⟨.inl ‹_›, rfl⟩
  rename_i hb
  have hb : 872 ≤ begun := Nat.le_of_not_lt hb
  split
  · rename_i he
    have he : begun + signalTime signal ≤ 5000 := of_decide_eq_true he
    unfold State.judgeFrame
    split
    · rename_i p hw
      split
      · rename_i hl
        exact .inr (.inl ⟨hb, he, rfl, fun _ _ => hl⟩)
      · rename_i hl
        have hi : inWindow p begun s := ⟨hw, hb, Nat.le_of_not_lt hl⟩
        split
        · exact .inr (.inr (.inl ⟨p, _, hi, he, ‹_›, rfl⟩))
        · exact .inr (.inr (.inr ⟨p, hi, he, ‹_›, rfl⟩))
    · rename_i hn
      exact .inr (.inl ⟨hb, he, rfl, fun p hp => absurd hp (hn p)⟩)
  · rename_i he
    have he : 5000 < begun + signalTime signal := Nat.lt_of_not_le (of_decide_eq_false (Bool.eq_false_iff.mpr he))
    exact .inl ⟨.inr he, rfl⟩

/-- A good reply heard in its window is taken (R26). -/
theorem State.receiveFrame_of_heardReply {p : Projector} {begun : Nat} {signal : List Nat} {toggle : Bool}
    {report : Option Report} (h : heardReply p begun signal toggle report s) :
    s.receiveFrame begun signal = s.pollSent.takeReply p ⟨numberOf p, toggle, report⟩ := by
  obtain ⟨⟨hw, hb, hl⟩, he, hr⟩ := h
  have h1 : ¬ begun < Config.pollTime := Nat.not_lt.mpr hb
  have h2 : ¬ Config.pollTime + Config.replyStart < begun := Nat.not_lt.mpr hl
  have h3 : endsInSlot begun signal = true := decide_eq_true he
  simp [State.receiveFrame, State.judgeFrame, goodReplyOf, h1, h2, h3, hw, hr]

end

end Sys2Proof.Machine
end

