-- ==== Sys2Proof/Laws/Ports.lean ====
section
/-! SUPPORT. What the operations of a port do to its direction line and its data lines (R158): one lemma for each. -/

namespace Sys2Proof.Machine

variable (r : PortRecord)

/-! ### Strobes, turns and bytes -/

section

variable (d : PortDirection) (turn : Option Nat)

@[simp] theorem PortRecord.strobed_direction : (r.strobed d turn).direction = d := rfl
@[simp] theorem PortRecord.strobed_untilWrite : (r.strobed d turn).untilWrite = turn := rfl
@[simp] theorem PortRecord.strobed_driven : (r.strobed d turn).driven = none := rfl
@[simp] theorem PortRecord.strobed_acknowledged : (r.strobed d turn).acknowledged = false := rfl
@[simp] theorem PortRecord.strobed_frameState : (r.strobed d turn).frameState = r.frameState := rfl
@[simp] theorem PortRecord.strobed_response : (r.strobed d turn).response = r.response := rfl
@[simp] theorem PortRecord.strobed_readPosition : (r.strobed d turn).readPosition = r.readPosition := rfl
@[simp] theorem PortRecord.strobed_clearHeld : (r.strobed d turn).clearHeld = r.clearHeld := rfl

end

@[simp] theorem PortRecord.turnToWrite_direction : r.turnToWrite.direction = .write := rfl
@[simp] theorem PortRecord.turnToWrite_driven : r.turnToWrite.driven = none := rfl
@[simp] theorem PortRecord.turnToWrite_untilWrite : r.turnToWrite.untilWrite = none := rfl

/-- Driving changes the data lines alone: the byte while the line says read, nothing while it says write. -/
theorem PortRecord.drive_eq (b : Option Byte) :
    r.drive b = { r with driven := if r.direction = .read then b else none } := by
  unfold PortRecord.drive
  cases h : r.direction <;> simp

/-- What giving a byte can do: nothing with no response; otherwise the byte is driven and acknowledged, and the read
position moves on, or the port is IDLE with no response after the check byte. -/
theorem PortRecord.give_cases :
    (r.response = none ∧ r.give = r)
      ∨ ∃ x, r.response = some x
        ∧ ((r.readPosition + 1 < x.bytes.length
              ∧ r.give = { r.drive x.bytes[r.readPosition]? with
                  acknowledged := true, readWaiting := false, readPosition := r.readPosition + 1 })
            ∨ (x.bytes.length ≤ r.readPosition + 1
              ∧ r.give = { r.drive x.bytes[r.readPosition]? with
                  acknowledged := true, readWaiting := false, response := none, readPosition := 0
                  frameState := .idle })) := by
  unfold PortRecord.give
  split
  · exact .inl ⟨‹_›, rfl⟩
  · rename_i x hx
    refine .inr ⟨x, hx, ?_⟩
    dsimp only
    split
    · exact .inl ⟨‹_›, rfl⟩
    · exact .inr ⟨Nat.le_of_not_lt ‹_›, rfl⟩

/-! ### The law of the data lines -/

theorem PortRecord.dataLineLaw_strobed_write : (r.strobed .write none).dataLineLaw := fun _ => ⟨rfl, rfl⟩

theorem PortRecord.dataLineLaw_strobed_read (turn : Option Nat) : (r.strobed .read turn).dataLineLaw := by
  intro h; cases h

theorem PortRecord.dataLineLaw_turnToWrite : r.turnToWrite.dataLineLaw := fun _ => ⟨rfl, rfl⟩

theorem PortRecord.dataLineLaw_powerOn (x : Straps) : (PortRecord.powerOn x).dataLineLaw := fun _ => ⟨rfl, rfl⟩

theorem PortRecord.dataLineLaw_tick (h : r.dataLineLaw) : r.tick.dataLineLaw := by
  unfold PortRecord.tick
  dsimp only
  split
  · exact PortRecord.dataLineLaw_turnToWrite _
  · intro hd
    obtain ⟨h1, h2⟩ := h hd
    exact ⟨h1, by simp [h2]⟩

theorem PortRecord.dataLineLaw_drive (b : Option Byte) (h : r.dataLineLaw) : (r.drive b).dataLineLaw := by
  rw [r.drive_eq]
  intro hd
  have hd : r.direction = .write := hd
  exact ⟨by simp [hd], (h hd).2⟩

theorem PortRecord.dataLineLaw_give (h : r.dataLineLaw) : r.give.dataLineLaw := by
  obtain ⟨-, e⟩ | ⟨x, -, ⟨-, e⟩ | ⟨-, e⟩⟩ := r.give_cases <;> rw [e]
  · exact h
  · exact PortRecord.dataLineLaw_drive r _ h
  · exact PortRecord.dataLineLaw_drive r _ h

theorem PortRecord.dataLineLaw_readByte (turn : Option Nat) : (r.readByte turn).dataLineLaw := by
  have h := r.dataLineLaw_strobed_read turn
  unfold PortRecord.readByte
  dsimp only
  split
  · exact h
  · split
    · exact PortRecord.dataLineLaw_give _ h
    all_goals exact h

theorem PortRecord.dataLineLaw_reply (x : Response) (h : r.dataLineLaw) : (r.reply x).dataLineLaw := by
  unfold PortRecord.reply
  dsimp only
  split
  · exact PortRecord.dataLineLaw_give _ h
  · exact h

theorem PortRecord.dataLineLaw_takeCode (b : Byte) (h : r.dataLineLaw) : (r.takeCode b).dataLineLaw :=
  fun hd => ⟨rfl, (h hd).2⟩

theorem PortRecord.dataLineLaw_sumByte (b : Byte) (h : r.dataLineLaw) : (r.sumByte b).dataLineLaw :=
  fun hd => ⟨rfl, (h hd).2⟩

theorem PortRecord.dataLineLaw_takeAnswer (st : Status) (data : List Byte) (h : r.dataLineLaw) :
    (r.takeAnswer st data).dataLineLaw := by
  have k := r.dataLineLaw_reply (Response.build st data) h
  unfold PortRecord.takeAnswer
  dsimp only
  split
  · exact k
  · exact fun hd => ⟨rfl, (k hd).2⟩

theorem PortRecord.dataLineLaw_clear (held : Bool) (h : r.dataLineLaw) : (r.clear held).dataLineLaw :=
  fun hd => ⟨rfl, (h hd).2⟩

theorem PortRecord.dataLineLaw_gapOut (h : r.dataLineLaw) : r.gapOut.dataLineLaw := by
  unfold PortRecord.gapOut
  split <;> exact h

end Sys2Proof.Machine
end

