-- ==== Sys2Proof/Tests/Slice0.lean ====
section
/-! SUPPORT. Small tests: ill-formed commands, the spec's own examples and tables, one or two facts of a command's
effect, and for each statement with hypotheses a state that meets them. -/

section tests

open Sys2Proof Sys2Proof.Machine

set_option maxRecDepth 20000
set_option Elab.async false

/-! ### WellFormed: an ill-formed command for each check -/

theorem test_wf_byte : (Instr.readCue 0 256).wellFormed = false := by decide
theorem test_wf_word : (Instr.boothSet 0 65536).wellFormed = false := by decide
theorem test_wf_cue_fields : (Instr.cueWrite 0 1 0 0 ⟨0, 256, 0, 0, 0, 0, 0, 0⟩).wellFormed = false := by decide
theorem test_wf_lamp_fields : (Instr.lampSet 0 1 ⟨65536, 0, 0, 0, 0, 0⟩).wellFormed = false := by decide
theorem test_wf_signal : (Instr.replyReceived 0 [1, 0]).wellFormed = false := by decide
theorem test_wf_generation : (Instr.cueNew 0 1 65536).wellFormed = false := by decide
theorem test_wf_accepts : (Instr.cueMoveAfter 2 4 65535 127 0).wellFormed = true := by decide

/-! ### Console frames (spec/10 section 10.1; spec/09, a frame lost and sent again) -/

/-- The six bytes 16, 3, 1, 0, 1, 235 of the worked sequence. -/
theorem test_cue_new_frame : commandFrame (.cueNew 1 1 1) = some (1, [16, 3, 1, 0, 1, 235]) := by decide
theorem test_cue_new_decode : decodeCommand 1 0x10 [1, 0, 1] = some (.cueNew 1 1 1) := by decide
theorem test_unknown_code : argumentCount 0x17 = none := by decide
/-- The response of section 10.1: status 0, count 3, then 5, 0, 6 and the check byte 242. -/
theorem test_response_bytes : (Response.build .ok [5, 0, 6]).bytes = [0, 3, 5, 0, 6, 242] := by decide
/-- Notice 63 is bit 63 of the eight bytes, the most significant first (R171). -/
theorem test_notice_set : noticeSetBytes (noticeBit 63) = [0x80, 0, 0, 0, 0, 0, 0, 0] := by decide

/-! ### The booth line (spec/02 section 2.2, spec/10 section 10.3) -/

/-- The check value of the CRC, over the digits 1 to 9 in ASCII. -/
theorem test_crc : crc [0x31, 0x32, 0x33, 0x34, 0x35, 0x36, 0x37, 0x38, 0x39] = 0x29B1 := by decide
/-- The frame times of section 2.2. -/
theorem test_poll_time : (LineFrame.mk .poll [0x34, 0x0B]).time = 872 := by decide
theorem test_burst_time : (LineFrame.mk .burst [0x04, 0x00]).time = 880 := by decide
theorem test_reset_time : (LineFrame.mk .lineReset [0x00]).time = 768 := by decide
theorem test_reply_time : (LineFrame.mk .reply [0x30]).time = 752 := by decide
theorem test_reply_read : replyOf (LineFrame.mk .reply [0x38]).signal = some ⟨3, true, none⟩ := by decide
/-- A reply's signal lasts as long as its frame (section 2.2). -/
theorem test_reply_signal_time : signalTime (LineFrame.mk .reply [0x30]).signal = 752
    ∧ signalTime (LineFrame.mk .reply (0x34 :: List.replicate 10 0xA5)).signal = 2032 := by decide
theorem test_poll_is_no_reply : replyOf (LineFrame.mk .poll [0x34, 0x0B]).signal = none := by decide

/-! ### Worked cases of the lamps and the house lights -/

/-- The four rows of the feed rate's worked cases (spec/03 section 3.4). -/
def trimLamp : Lamp := { Lamp.powerOn with state := .burning, carbon := 6500 }
theorem test_feed_rates : [trimLamp.regulated 552 850, trimLamp.regulated 537 840, trimLamp.regulated 1023 850,
    trimLamp.regulated 0 850] = [251, 227, 600, 0] := by decide
theorem test_feed_period : (trimLamp.regulate 552 850).feedTimer = some ⟨2390, ⟨2390, 0⟩⟩ := by decide
/-- A rate change in mid-interval keeps the counter (spec/03 section 3.5). -/
theorem test_feed_change : ({ trimLamp with feedRate := 251, feedTimer := some ⟨2390, ⟨1000, 0⟩⟩ } : Lamp).regulate 537 840
    = { trimLamp with feedRate := 227, feedTimer := some ⟨2643, ⟨1000, 0⟩⟩ } := by decide
/-- The worked cases of the firing delays (spec/07 section 7.3). -/
theorem test_firing_50 : [firingDelay 10000 200, firingDelay 10000 255, firingDelay 10000 16, firingDelay 10000 6,
    firingDelay 10000 5] = [some 3271, some 234, some 9062, some 9648, none] := by decide
theorem test_firing_60 : [firingDelay 8350 128, firingDelay 8350 255, firingDelay 8350 7, firingDelay 8350 6]
    = [some 4501, some 195, some 8007, none] := by decide

/-! ### Small runs of commands -/

/-- The state after a command, the same where it stops. -/
def after (c : Instr) (s : State) : State :=
  match exec c s with
  | .next t => t
  | .fault _ => s
  | .refused _ => s

/-- The worked sequence of two lists (spec/04 section 4.10), up to the refused edit. -/
def twoLists : State :=
  [Instr.cueNew 1 2 0, .cueNew 1 2 1, .cueNew 1 2 2, .cueNew 1 2 3, .cueNew 1 1 0, .cueFree 1 2 4 1,
    .cueNewAfter 1 2 5 0].foldl (fun s c => after c s) State.reset

theorem test_two_lists : (twoLists.screen 1).list = [0, 5, 2, 3] ∧ (twoLists.screen 0).list = [4]
    ∧ (twoLists.screen 1).generation = 6 ∧ twoLists.su.free.head? = some 6 ∧ twoLists.su.free.getLast? = some 1 := by
  decide
theorem test_two_lists_stale : (after (.cueNew 1 2 5) twoLists).pu.answers.getLast?
    = some ⟨1, none, .stale, [0, 6]⟩ := by decide
theorem test_read_list : listBytes (twoLists.screen 1).list 6 = [0, 3, 4, 0, 6] := by decide
theorem test_rearm_needs_safety : (after (.fireRearm 1) State.reset).pu.answers = [⟨1, none, .denied, []⟩] := by decide
theorem test_notice_next : (after (.noticeNext 0) State.reset).pu.answers = [⟨0, none, .ok, [0]⟩] := by decide
theorem test_first_byte : ((after (.writeStrobe 1 16) State.reset).port 1).runningSum = 16
    ∧ ((after (.writeStrobe 1 16) State.reset).port 1).gapTimer = some ⟨20, 0⟩ := by decide
/-- The reset frame has the first claim on the first slot (R24, R41). -/
theorem test_first_slot : (after .slotStart State.reset).lc.sending = .lineReset := by decide

/-! ### A rearmed booth, for the witnesses -/

/-- A booth at rest: every station PRESENT, every shutter OPEN, no trip, every port with both rights, two cues on
screen 1 and one reel, carbons entered. -/
def booth : State :=
  { State.reset with
    lc := { State.reset.lc with
      tripInForce := false, resetPending := false
      stations := Vector.replicate 8 { Station.powerOn with presence := .present } }
    lu := ⟨Vector.replicate 8 { Lamp.powerOn with carbon := 6500 }, false⟩
    su := { State.reset.su with
      tripInForce := false, free := (List.finRange 128).drop 2
      screens := State.reset.su.screens.set 0
        { ScreenRecord.powerOn with
          list := [0, 1], generation := 2, reels := (Vector.replicate 12 ReelEntry.empty).set 0 (.reel .listed 1000 .a) } }
    hu := ⟨⟨.low, 0, .timing, 7000, 10000, 10000, 0, .valid⟩,
      Vector.replicate 4 ⟨25600, 100, 0, .none, .off, none, none, 0⟩⟩
    fu := { State.reset.fu with
      state := .clear, causes := []
      shutters := Vector.replicate 12 ⟨.opened, .energized, .inactive, 0, none, .none⟩ }
    pu := { State.reset.pu with
      ports := State.reset.pu.ports.map (fun r => { r with safety := true, setup := true }) } }

/-- The booth in a trip, SHUT and clear. -/
def shutBooth : State :=
  { booth with
    lc := { booth.lc with tripInForce := true }
    lu := { booth.lu with tripInForce := true }
    su := { booth.su with tripInForce := true }
    hu := { booth.hu with channels := Vector.replicate 4 HouseChannel.powerOn }
    fu := { booth.fu with
      state := .shut, causes := [.manual 0]
      shutters := Vector.replicate 12 ⟨.closed, .released, .active, 0, none, .none⟩ } }

/-- A reply of station 1 with a report: the motor running, nothing flaming, `marks` marks, 85.0 A at 55.2 V. -/
def replyBytes (flags marks : Byte) : List Byte :=
  headerByte 1 false true :: [flags, marks, 0x02, 0x28, 0x03, 0x52, 40, 0, 0, 0]
def reply (flags marks : Byte) : List Nat := (LineFrame.mk .reply (replyBytes flags marks)).signal

theorem test_fire_trip : (after (.fireTrip 0) booth).fu.state = .tripped
    ∧ ((after (.fireTrip 0) booth).channel 0).fine = 65280 := by decide
theorem test_lamp_strike : ((after (.lampStrike 0 1) booth).lamp 0).state = .striking := by decide
theorem test_proj_motor : ((after (.projMotor 0 1 1) booth).motion 0).gate = .opened := by decide
theorem test_threaded : (after (.reelThreaded 0 1 1) booth).role 0 = .armed := by decide
theorem test_show_start : ((after (.showStart 0 1) booth).screen 0).state = .dark := by decide
theorem test_shutter_test : ((after (.shutterTest 0 10) booth).shutter 9).state = .dropping := by decide +kernel
theorem test_house_fade : ((after (.houseFade 0 1 200 10) booth).channel 0).step = 256 := by decide
theorem test_rearm : (after (.fireRearm 0) shutBooth).fu.state = .clear := by decide +kernel
/-- A poll's reply window opens with the poll's last cell, 872 us into the slot (R26). -/
theorem test_window_opens : (after .slotStart booth).lc.window = .closed
    ∧ ({ booth.lc with sending := .poll 0 .safe, untilSlot := 4129 } : LineControl).tick.window = .opened 0 .awaiting
    ∧ ({ booth.lc with sending := .poll 0 .safe, untilSlot := 4130 } : LineControl).tick.window = .closed := by
  decide +kernel
/-- A LINE_RESET during a poll leaves the poll its reply, which comes from a station then ABSENT (R26, R40). -/
theorem test_reset_in_poll :
    ((after (.replyReceived 900 (LineFrame.mk .reply [0x10]).signal) (after (.lineReset 0) (after .slotStart booth))).station
      0).goodRun = 1 := by decide +kernel
/-- A firing due at the microsecond of a crossing is cancelled by the crossing (R129). -/
theorem test_firing_at_crossing :
    let s := { booth.onMains (fun m => { m with sampleRun := 2 }) with pins := { booth.pins with zeroCross := .high } }
    (s.onChannel 0 (fun c => { c with firing := some 0 })).due.filter (fun c => c = .mainsCrossing || c = .dimmerFiring 0)
      = [.mainsCrossing] := by decide +kernel
theorem test_reply_report : (replyOf (reply 0x80 1)).isSome = true := by decide

/-! ### Witnesses: states that meet the hypotheses of each statement, at the boundaries of its clauses -/

section witnesses

/-- The booth with a command in its queue. -/
def busy : State := { booth with pending := [.noticeFlush 0] }

theorem witness_StepTakesTheFrontCommand : busy.pending = .noticeFlush 0 :: [] := rfl

theorem witness_IdleStepLetsTheClockRun :
    (booth.pending = [] ∧ booth.pu.passed = [] ∧ booth.pu.answers = [])
    ∧ (let s := after (.noticeNext 0) booth
       s.pending = [] ∧ ¬ (s.pu.passed = [] ∧ s.pu.answers = []))
    ∧ (∀ k ∈ [4129, 4130], let s := booth.setSending (.poll 0 .safe)
       let s := { s with lc := { s.lc with untilSlot := k } }
       s.pending = [] ∧ s.lc.sending = .poll 0 .safe ∧ s.lc.untilSlot = k) := by decide +kernel

theorem witness_EveryStepKeepsThePortLaws : busy.attentionLaw ∧ busy.dataLineLaw ∧ ∃ t, step busy = .next t :=
  ⟨by unfold State.attentionLaw; decide +kernel, by unfold State.dataLineLaw PortRecord.dataLineLaw; decide +kernel, _, rfl⟩

theorem witness_EveryStepKeepsTheLineLaws : (∃ t, step busy = .next t) ∧ busy.bladeLaw ∧ shutBooth.lineTripLaw
    ∧ ∃ t, step { shutBooth with pending := [.slotStart] } = .next t :=
  ⟨⟨_, rfl⟩, by unfold State.bladeLaw; decide +kernel,
    fun _ => ⟨by decide +kernel, by decide +kernel, by decide +kernel, fun _ _ h => by cases h⟩, _, rfl⟩

theorem witness_EveryStepKeepsTheProjectorLaws : (∃ t, step busy = .next t) ∧ busy.counterLaw ∧ busy.lampLaw :=
  ⟨⟨_, rfl⟩, ⟨by unfold State.counterBound; decide +kernel, fun p _ =>
      (show ∀ p, (busy.motion p).framesRemaining = 0 by decide +kernel) p⟩,
    by unfold State.lampLaw Lamp.feedLaw; decide +kernel⟩

theorem witness_EveryStepKeepsTheShowLaws : (∃ t, step busy = .next t) ∧ busy.poolLaw ∧ busy.afterLaw ∧ busy.armedLaw :=
  ⟨⟨_, rfl⟩, by unfold State.poolLaw; decide +kernel, by unfold State.afterLaw; decide +kernel,
    by unfold State.armedLaw; decide +kernel⟩

theorem witness_EveryStepKeepsTheHouseAndTripLaws : (∃ t, step busy = .next t) ∧ busy.houseLaw ∧ shutBooth.fullLaw
    ∧ (shutBooth.channel 0).override = .on ∧ busy.holdLaw ∧ busy.tripLaw ∧ shutBooth.holdLaw ∧ shutBooth.tripLaw
    ∧ ∃ t, step { shutBooth with pending := [.slotStart] } = .next t := by
  refine ⟨⟨_, rfl⟩, fun ch => ?_, by unfold State.fullLaw HouseChannel.fullLaw; decide +kernel, by decide +kernel,
    show ∀ k, (busy.shutter k).hold = if busy.fu.underTest = some k then .released else .energized by decide +kernel,
    by unfold State.tripLaw; decide +kernel,
    show shutBooth.fu.underTest = none ∧ ∀ k, (shutBooth.shutter k).hold = .released by decide +kernel,
    by unfold State.tripLaw; decide +kernel, _, rfl⟩
  have h : busy.channel ch = ⟨25600, 100, 0, .none, .off, none, none, 0⟩ := by revert ch; decide +kernel
  rw [h]
  exact ⟨rfl, rfl⟩

/-! #### Film motion -/

/-- Projector 1 turning with `r` frames left, AT_SPEED and judged. -/
def spin (r : Nat) : State :=
  booth.onMotion 0 (fun m => { m with
    gate := .opened, framesRemaining := r, loadedLength := 1000, phase := .judging, speed := .atSpeed
    runningCount := ⟨417, 0⟩ })

theorem witness_PulseIsCountedAndTimed :
    (∀ r ∈ [0, 2], ((spin r).motion 0).gate = .opened ∧ ((spin r).motion 0).framesRemaining ≠ 1
      ∧ ((spin r).motion 0).watch = none ∧ ((spin r).motion 0).phase = .judging)
    ∧ (let s := (spin 2).onMotion 0 (fun m => { m with phase := .awaiting, watch := some 1 })
       (s.motion 0).phase = .awaiting ∧ (s.motion 0).gate = .opened ∧ (s.motion 0).framesRemaining ≠ 1
        ∧ s.role 0 ≠ .onScreen)
    ∧ (let s := ((spin 3).setRole 0 .onScreen).onMotion 0 (fun m => { m with watch := some 1 })
       (s.motion 0).gate = .opened ∧ (s.motion 0).framesRemaining = 3 ∧ s.role 0 = .onScreen
        ∧ (s.motion 0).watch = some 1 ∧ 1 < 3 - 1)
    ∧ ((spin 2).onMotion 0 (fun m => { m with phase := .discarding })).motion 0
      = { (spin 2).motion 0 with phase := .discarding } := by decide +kernel

def judged (v : Speed) (period inRun outRun : Nat) : State :=
  (spin 2).onMotion 0 (fun m => { m with
    speed := v, runningCount := ⟨period, 0⟩, inBandRun := inRun, outOfBandRun := outRun })

theorem witness_SpeedStatesFollowThePeriods :
    (∀ s ∈ [judged .runningUp 408 1 0, judged .offSpeed 426 2 0, judged .runningUp 409 1 0, judged .offSpeed 425 2 0,
        judged .atSpeed 425 0 1, judged .atSpeed 408 0 0, judged .atSpeed 426 0 1],
      (s.motion 0).gate = .opened ∧ (s.motion 0).framesRemaining ≠ 1 ∧ (s.motion 0).watch = none
        ∧ (s.motion 0).phase = .judging ∧ (s.motion 0).speed ≠ .stopped)
    ∧ ((judged .runningUp 425 2 0).setRole 0 .starting).role 0 = .starting ∧ booth.lc.tripInForce = false := by
  decide +kernel

theorem witness_SprocketFilterTakesTheThirdSample :
    (booth.motion 0).accepted = .low ∧ (booth.motion 0).sampleRun < 2 ∧ (booth.motion 0).gate = .closed
    ∧ (let s := (spin 2).onMotion 0 (fun m => { m with accepted := .high, sampleRun := 2 })
       (s.motion 0).accepted = .high ∧ 2 ≤ (s.motion 0).sampleRun)
    ∧ (let s := (spin 2).onMotion 0 (fun m => { m with sampleRun := 2 })
       (s.motion 0).accepted = .low ∧ 2 ≤ (s.motion 0).sampleRun) := by decide +kernel

/-- Projector 1 of screen 1 on screen with its reel RUNNING, lamp BURNING, `r` frames left. -/
def onScreen (r : Nat) : State :=
  ((((spin r).setRole 0 .onScreen).setReel 0 0 (.reel .running 1000 .a)).onLamp 0
      (fun l => { l with state := .burning })).onScreen 0 (fun x => { x with
    state := .running, next := some 0, afterTimer := some ⟨0, 0⟩ })

theorem witness_RunOutIsActedOnByRole :
    (∀ v ∈ [Role.idle, .armed, .starting, .standby, .onScreen, .tail],
      let s := (onScreen 1).setRole 0 v
      (s.motion 0).gate = .opened ∧ (s.motion 0).framesRemaining = 1 ∧ (s.motion 0).watch = none ∧ s.role 0 = v)
    ∧ ((onScreen 1).lamp 0).state ≠ .cold ∧ (onScreen 1).reelOf 0 .running = some 0
    ∧ (let s := (onScreen 1).onChangeover 0 (fun c => { c with state := .queued, outgoing := some 0 })
       (s.screen 0).changeover.state = .queued ∧ (s.screen 0).changeover.outgoing = some 0)
    ∧ (((onScreen 1).setRole 0 .standby).setReel 0 0 (.reel .loaded 1000 .a)).reelOf 0 .loaded = some 0
    ∧ (let s := (onScreen 1).onMotion 0 (fun m => { m with watch := some 0 })
       (s.motion 0).watch = some 0 ∧ s.role 0 = .onScreen ∧ (s.screen (screenOf 0)).next = some 0
        ∧ (s.cue 0).trigger.ofFilm = false) := by
  decide +kernel

theorem witness_SlowStartAndSilence :
    ((booth.onMotion 0 (fun m => { m with slowStart := some ⟨0, 0⟩ })).motion 0).slowStart = some ⟨0, 0⟩
    ∧ (booth.motion 0).slowStart = none ∧ (booth.motion 0).gate = .closed
    ∧ ((spin 2).motion 0).gate = .opened ∧ ((spin 2).motion 0).phase ≠ .awaiting := by decide +kernel

theorem witness_ManualMotorAndDouser : (onScreen 1).role 0 ≠ .idle
    ∧ (shutBooth.role 0 = .idle ∧ shutBooth.lc.tripInForce = true)
    ∧ (booth.role 0 = .idle ∧ booth.lc.tripInForce = false) := by decide +kernel

/-! #### The booth line -/

/-- The booth with station 1 not PRESENT and its countdown at `k`. -/
def away (k : Nat) : State := booth.onStation 0 (fun r => { r with presence := .lost, rareCountdown := k })

theorem witness_SlotIsClaimedInOrder :
    (∀ s ∈ [booth, away 0, away 1, State.reset, booth.setQueue [.trip]],
      s.lc.sending = .nothing ∧ s.lc.window = .closed)
    ∧ State.reset.lc.resetPending = true ∧ booth.lc.resetPending = false ∧ booth.lc.burstQueue = []
    ∧ (booth.station booth.lc.position).presence = .present
    ∧ ((away 0).station 0).presence ≠ .present ∧ ((away 0).station 0).rareCountdown = 0
    ∧ ((away 1).station 0).rareCountdown ≠ 0 ∧ (booth.setQueue [.trip]).lc.burstQueue ≠ [] := by decide +kernel

/-- The booth waiting for the reply of station 1, and a report as `reply` sends it. -/
def polled : State := booth.setWindow (.opened 0 .awaiting)
/-- The booth still sending the poll of station 1. -/
def polling : State := booth.setSending (.poll 0 .safe)
def report (flame : Sensor) (marks : Nat) : Report :=
  ⟨.running, .opened, .opened, .off, .clear, flame, marks, 552, 850, 40⟩

/-- A frame that ends after its slot leaves the poll of the slot it ends in to its own reply (R22, R26). -/
theorem test_frame_outlasts_its_slot :
    (after (.replyReceived 1272 (List.replicate 500 1 ++ reply 0x07 5)) polling) = polling
      ∧ (after (.replyReceived 872 (reply 0x07 5)) polling).lc.window = .opened 0 (.good (some .opened)) := by
  decide +kernel

/-- Transitions after the idle line are no part of the reply before it (R20). -/
theorem test_frame_ends_at_the_idle_line :
    (after (.replyReceived 1272 (reply 0x07 5 ++ List.replicate 400 2)) polling).lc.window
      = .opened 0 (.good (some .opened)) := by decide +kernel

/-- A reply with a report and one without, begun at either end of the window, are heard as good replies. -/
theorem heard_report (b : Nat) (h : b = 872 ∨ b = 1272) (s : State) (hs : s.lc.pollSent.window = .opened 0 .awaiting) :
    heardReply 0 b (reply 0x07 5) false (some (report .clear 5)) s
      ∧ heardReply 0 b (LineFrame.mk .reply [0x10]).signal false none s
      ∧ heardReply 0 b (reply 0x27 5) false (some (report .set 5)) s := by
  have h1 : signalTime (reply 0x07 5) = 2032 ∧ signalTime (LineFrame.mk .reply [0x10]).signal = 752
      ∧ signalTime (reply 0x27 5) = 2032 := by decide +kernel
  have h2 : replyOf (reply 0x07 5) = some ⟨numberOf (0 : Projector), false, some (report .clear 5)⟩
      ∧ replyOf (LineFrame.mk .reply [0x10]).signal = some ⟨numberOf (0 : Projector), false, none⟩
      ∧ replyOf (reply 0x27 5) = some ⟨numberOf (0 : Projector), false, some (report .set 5)⟩ := by decide +kernel
  have hw : inWindow 0 b s := ⟨hs, by omega, by omega⟩
  exact ⟨⟨hw, by omega, h2.1⟩, ⟨hw, by omega, h2.2.1⟩, ⟨hw, by omega, h2.2.2⟩⟩

theorem witness_ReportsAreFreshOrStale :
    (∀ s ∈ [polled, polling], s.lc.pollSent.window = .opened 0 .awaiting ∧ (s.station 0).presence = .present
      ∧ (s.station 0).expectedToggle = false ∧ (s.station 0).lastReport = none ∧ s.role 0 ≠ .onScreen)
    ∧ heardReply 0 872 (reply 0x07 5) false (some (report .clear 5)) polled
    ∧ (let s := polled.onStation 0 (fun r => { r with expectedToggle := true, lastReport := some (report .clear 4) })
       s.lc.pollSent.window = .opened 0 .awaiting ∧ (s.station 0).expectedToggle ≠ false
        ∧ (s.station 0).lastReport = some (report .clear 4) ∧ (s.station 0).presence = .present) :=
  ⟨by decide +kernel, (heard_report 872 (.inl rfl) polled (by decide +kernel)).1, by decide +kernel⟩

/-- Station 1 awaited while LOST with `k` good replies in a row, and while PRESENT with `k` misses. -/
def returning (k : Nat) : State := polled.onStation 0 (fun r => { r with presence := .lost, goodRun := k })
def failing (k : Nat) : State := polled.onStation 0 (fun r => { r with missRun := k })

theorem witness_PresenceFollowsTheReplies :
    (∀ k ∈ [0, 1], (returning k).lc.pollSent.window = .opened 0 .awaiting
      ∧ ((returning k).station 0).presence ≠ .present ∧ ((returning k).station 0).goodRun = k)
    ∧ (heardReply 0 1272 (reply 0x07 5) false (some (report .clear 5)) (returning 0)
      ∧ heardReply 0 1272 (LineFrame.mk .reply [0x10]).signal false none (returning 0)
      ∧ heardReply 0 1272 (reply 0x27 5) false (some (report .set 5)) (returning 0))
    ∧ (∀ r, replyOf (LineFrame.mk .reply [0x38]).signal = some r → r.address ≠ numberOf (0 : Projector))
    ∧ (5000 < 1272 + signalTime (List.replicate 500 1 ++ reply 0x07 5)
      ∧ 1273 + signalTime (LineFrame.mk .reply [0x38]).signal ≤ 5000)
    ∧ (∀ q : Projector, booth.lc.pollSent.window ≠ .opened q .awaiting) ∧ booth.lc.pollSent.window = .closed
    ∧ (∀ k ∈ [1, 2], (failing k).lc.pollSent.window = .opened 0 .awaiting ∧ (failing k).watch (screenOf 0) = .closed
      ∧ ((failing k).station 0).presence = .present ∧ ((failing k).station 0).missRun = k)
    ∧ ((failing 2).setRole 0 .armed).role 0 = .armed
    ∧ ((((failing 2).setRole 0 .armed).setReel 0 0 (.reel .loaded 1000 .a)).reelOf 0 .loaded) = some 0 := by
  refine ⟨by decide +kernel, heard_report 1272 (.inr rfl) _ (by decide +kernel), ?_, by decide +kernel,
    by decide +kernel, by decide +kernel, by decide +kernel, by decide +kernel, by decide +kernel⟩
  intro r h
  have e : replyOf (LineFrame.mk .reply [0x38]).signal = some ⟨3, true, none⟩ := by decide +kernel
  rw [e] at h
  cases h
  decide

/-- Projector 1 on STANDBY with its reel LOADED, its lamp BURNING and its douser reported OPEN; projector 2 on screen. -/
def standby : State :=
  (((((booth.setRole 0 .standby).setRole 1 .onScreen).setReel 0 0 (.reel .loaded 1000 .a)).onLamp 0
      (fun l => { l with state := .burning })).onStation 0 (fun r => { r with lastReport := some (report .clear 5) })).onScreen
    0 (fun x => { x with state := .running, next := some 0, afterTimer := some ⟨0, 0⟩ })

def burstOut (v : ChangeoverState) (outgoing : Option Projector) : State :=
  (standby.setSending (.burst (.changeover 0 .a))).onChangeover 0 (fun c => { c with state := v, outgoing := outgoing })

theorem witness_ChangeoverBurstPassesThePicture :
    ∀ o ∈ [none, some (1 : Projector)],
      (burstOut .queued o).lc.sending = .burst (.changeover 0 .a) ∧ ((burstOut .queued o).screen 0).changeover.state = .queued
        ∧ (burstOut .queued o).incomingOf 0 = some (projectorOf 0 .a)
        ∧ (burstOut .queued o).ready (some (projectorOf 0 .a)) = true
        ∧ ((burstOut .queued o).screen 0).changeover.outgoing = o
        ∧ (o = none ∨ o = some (partner (projectorOf 0 .a)))
        ∧ ((burstOut .queued o).screen 0).next = some 0 ∧ ((burstOut .queued o).cue 0).trigger = .go := by decide +kernel

/-- The burst of screen 1 out with cue 0, an END, waiting for the film; 100 frames left on the incoming. -/
def burstFilm (t : Trigger) (v : ScreenState) : State :=
  (((burstOut .queued (some 1)).onCue 0 (fun _ => ⟨0, .end_, t, .pending⟩)).onMotion 0
    (fun m => { m with framesRemaining := 100, loadedLength := 100 })).onScreen 0 (fun r => { r with state := v })

theorem witness_FilmCuesMoveToTheIncoming :
    ∀ s ∈ [burstFilm (.frames 99) .running, burstFilm (.frames 100) .dark, burstFilm (.mark 99 200) .waiting,
        burstFilm (.mark 100 200) .running, burstFilm (.frames 100) .ended],
      s.lc.sending = .burst (.changeover 0 .a) ∧ (s.screen 0).changeover.state = .queued
        ∧ s.incomingOf 0 = some (projectorOf 0 .a) ∧ s.ready (some (projectorOf 0 .a)) = true
        ∧ (s.screen 0).changeover.outgoing = some (partner (projectorOf 0 .a)) ∧ (s.screen 0).next = some 0
        ∧ (s.cue 0).trigger.ofFilm = true ∧ (s.cue 0).kind = .end_
        ∧ (s.motion (projectorOf 0 .a)).framesRemaining = 100 := by decide +kernel

theorem witness_SentFramesEnd :
    (booth.setSending (.burst .trip)).lc.sending = .burst .trip ∧ (booth.setSending .lineReset).lc.sending = .lineReset
    ∧ (burstOut .aborted none).lc.sending = .burst (.changeover 0 .a)
    ∧ ((burstOut .aborted none).screen 0).changeover.state ≠ .queued
    ∧ (∀ o ∈ [none, some (1 : Projector)],
      let s := (burstOut .queued o).onLamp 0 (fun l => { l with state := .out })
      s.lc.sending = .burst (.changeover 0 .a) ∧ (s.screen 0).changeover.state = .queued
        ∧ s.ready (s.incomingOf 0) = false ∧ s.lc.tripInForce = false ∧ (s.screen 0).changeover.outgoing = o
        ∧ (o = none ∨ o = some (partner (projectorOf 0 .a)))) := by decide +kernel

theorem witness_LineResetClearsTheStations :
    (standby.port 0).setup = true ∧ standby.role 0 = .standby
    ∧ (let s := (booth.setRole 0 .armed).onDesired 1 (fun d => { d with motor := .run, arc := .on })
       (s.port 0).setup = true ∧ (∀ p, s.role p = .idle ∨ s.role p = .armed)
        ∧ (∀ sc, (s.screen sc).changeover.state ≠ .queued) ∧ s.role 0 = .armed ∧ (s.station 0).presence ≠ .absent
        ∧ (s.station 1).desired.motor = .run ∧ (s.station 1).desired.arc = .on
        ∧ (s.station 0).desired.motor = .stop ∧ (s.station 0).desired.arc = .off) := by decide +kernel

theorem witness_ReplyFramesAreReadBack : (15 < 16) ∧ ([7, 5, 2, 0x28, 3, 0x52, 40, 0, 0, 0] : List Byte).length = 10 := by
  decide

/-! #### Lamps -/

def lampIn (v : LampState) : State := booth.onLamp 0 (fun l => { l with state := v })

theorem witness_LampsAreStruckAndPutOut :
    shutBooth.lu.tripInForce = true
    ∧ (∀ v ∈ [LampState.striking, .burning], (lampIn v).lu.tripInForce = false ∧ ((lampIn v).lamp 0).state = v)
    ∧ ((booth.onLamp 0 (fun l => { l with carbon := 0 })).lamp 0).carbon = 0 ∧ ((away 0).station 0).presence ≠ .present
    ∧ (∀ s ∈ [booth, { booth with lc := shutBooth.lc }], s.lu.tripInForce = false ∧ (s.lamp 0).state ≠ .striking
      ∧ (s.lamp 0).state ≠ .burning ∧ (s.lamp 0).carbon ≠ 0 ∧ (s.station 0).presence = .present)
    ∧ booth.lc.tripInForce = false ∧ shutBooth.lc.tripInForce = true
    ∧ (onScreen 1).role 0 = .onScreen ∧ booth.role 0 ≠ .onScreen ∧ (booth.lamp 0).state = .cold
    ∧ ((lampIn .burning).lamp 0).state ≠ .cold ∧ (lampIn .burning).role 0 ≠ .onScreen := by decide +kernel

/-- A lamp burning at 251 with `k` steps of carbon. -/
def feeding (k : Nat) : State :=
  (lampIn .burning).onLamp 0 (fun l => { l with carbon := k, feedRate := 251, feedTimer := some ⟨2390, ⟨0, 0⟩⟩ })

theorem witness_LampTimersAndFeedSteps :
    (let s := booth.onLamp 0 (fun l => { l with strikeTimer := some ⟨0, 0⟩, holdTimer := some ⟨0, 0⟩ })
     (s.lamp 0).strikeTimer = some ⟨0, 0⟩ ∧ (s.lamp 0).holdTimer = some ⟨0, 0⟩)
    ∧ (booth.lamp 0).strikeTimer = none ∧ (booth.lamp 0).holdTimer = none ∧ (booth.lamp 0).feedTimer = none
    ∧ (∀ k ∈ [1, 601, 602], ((feeding k).lamp 0).feedTimer = some ⟨2390, ⟨0, 0⟩⟩ ∧ ((feeding k).lamp 0).carbon = k
      ∧ ((feeding k).lamp 0).trim = 600 ∧ ((feeding k).lamp 0).trimNoticed = false) := by decide +kernel

theorem witness_LampSettingsAndCarbonAreEntered :
    (State.reset.port 0).setup = false ∧ (booth.port 0).setup = true ∧ (booth.lamp 0).state = .cold
    ∧ ((lampIn .burning).port 0).setup = true ∧ ((lampIn .burning).lamp 0).state ≠ .cold := by decide +kernel

/-- Lamp 1 awaited in a state with a rated current and counts. -/
def sampled (v : LampState) (ir strikes outs : Nat) : State :=
  polled.onLamp 0 (fun l => { l with state := v, ir := ir, strikeCount := strikes, outCount := outs })

theorem witness_FreshSamplesStrikeRegulateAndFindArcOut :
    heardReply 0 1272 (reply 0x07 5) false (some (report .clear 5)) (sampled .striking 1700 2 0)
    ∧ (report .clear 5).amps = 850
    ∧ (∀ s ∈ [sampled .cold 800 0 0, sampled .striking 1701 1 0, sampled .striking 1700 1 0, sampled .striking 1700 2 0,
        sampled .burning 3400 0 4, sampled .burning 3401 0 3, sampled .burning 3401 0 4],
      s.lc.pollSent.window = .opened 0 .awaiting ∧ (s.station 0).expectedToggle = false
        ∧ (s.station 0).presence = .present ∧ s.role 0 ≠ .onScreen ∧ (s.lamp 0).feedTimer = none)
    ∧ (let s := ((sampled .burning 3401 0 4).setRole 0 .onScreen).setMark 0 (some 5)
       s.lc.pollSent.window = .opened 0 .awaiting ∧ s.role 0 = .onScreen ∧ s.mark 0 = some (report .clear 5).marks) :=
  ⟨(heard_report 1272 (.inr rfl) _ (by decide +kernel)).1, by decide +kernel, by decide +kernel, by decide +kernel⟩

/-! #### House lights -/

theorem witness_LampLawInterpolatesTheTable : (255 < 256) ∧ (240 ≤ 255) ∧ (239 ≤ 240 ∧ 240 < 256) := by decide

def mainsAt (state : MainsState) (k run : Nat) : State :=
  booth.onMains (fun m => { m with state := state, runningCount := k, validRun := run })
/-- Channel 1 fading by a step of 256. -/
def fading (v : Direction) (fine : Nat) : HouseChannel := ⟨fine, 100, 256, v, .off, none, none, 0⟩

theorem witness_MainsCrossingsAreJudged :
    (∀ k ∈ [7000, 12000], let m := (mainsAt .valid k 0).hu.mains
      m.state = .valid ∧ m.phase = .timing ∧ 7000 ≤ m.runningCount ∧ m.runningCount ≤ 12000)
    ∧ State.reset.hu.mains.phase = .awaiting
    ∧ (∀ run ∈ [2, 3], let m := (mainsAt .invalid 7000 run).hu.mains
      m.state = .invalid ∧ m.phase = .timing ∧ 7000 ≤ m.runningCount ∧ m.runningCount ≤ 12000 ∧ m.validRun = run)
    ∧ (∀ k ∈ [6999, 12001], let m := (mainsAt .valid k 0).hu.mains
      m.phase = .timing ∧ (m.runningCount < 7000 ∨ 12000 < m.runningCount))
    ∧ ((booth.onChannel 0 (fun c => { c with firing := some 0 })).channel 0).firing = some 0
    ∧ (booth.channel 0).firing = none
    ∧ (100 * 256 ≤ (fading .up 25344).fine + 256 ∧ (fading .up 25343).fine + 256 < 100 * 256)
    ∧ ((fading .down 25856).fine ≤ 100 * 256 + 256 ∧ 100 * 256 + 256 < (fading .down 25857).fine) := by decide +kernel

theorem witness_HouseFadesStartAndArrive : (255 < 256) ∧ (shutBooth.channel 0).override = .on
    ∧ (booth.channel 0).override = .off ∧ (booth.channel 0).fine = 100 * 256 ∧ booth.hu.mains.h = 10000
    ∧ (fading .none 25600).atOnce 200 10 10000 = false := by decide +kernel

/-! #### Fire and shutters -/

theorem witness_ACauseInClearMakesTheBoothSafe :
    polled.fu.state = .clear ∧ polled.fu.alarm = .inactive ∧ (polled.shutter 11).state = .opened
    ∧ (polled.shutter 11).limit = .inactive ∧ polled.fu.underTest ≠ some 11 ∧ (report .set 5).gateFlame = .set
    ∧ heardReply 0 872 (reply 0x27 5) false (some (report .set 5)) polled
    ∧ heardReply 0 872 (reply 0x27 5) false (some (report .set 5)) (returning 0) ∧ (returning 0).fu.state = .clear
    ∧ ((returning 0).station 0).presence = .lost :=
  ⟨by decide +kernel, by decide +kernel, by decide +kernel, by decide +kernel, by decide +kernel, by decide +kernel,
    (heard_report 872 (.inl rfl) _ (by decide +kernel)).2.2, (heard_report 872 (.inl rfl) _ (by decide +kernel)).2.2,
    by decide +kernel, by decide +kernel⟩

/-- The booth in a trip with shutter 1 in a state, its limit at a level. -/
def tripShutter (v : ShutterState) (x : Activity) : State :=
  shutBooth.onShutter 0 (fun r => { r with state := v, limit := x, dropTimer := some ⟨0, 0⟩ })

/-- The same booth with a record of causes, station 1 awaited. -/
def flaming (causes : List Cause) : State := (shutBooth.setCauses causes).setWindow (.opened 0 .awaiting)

theorem witness_EventsDuringATrip :
    (shutBooth.fu.state ≠ .clear ∧ .manual 0 ∈ shutBooth.fu.causes ∧ .manual 1 ∉ shutBooth.fu.causes
    ∧ shutBooth.fu.alarm = .inactive
    ∧ (∀ v ∈ [ShutterState.dropping, .jammed], ((tripShutter v .inactive).shutter 0).state = v
      ∧ ((tripShutter v .inactive).shutter 0).limit = .inactive)
    ∧ (shutBooth.shutter 0).limit = .active ∧ (shutBooth.shutter 0).state = .closed
    ∧ ((tripShutter .dropping .inactive).shutter 0).dropTimer = some ⟨0, 0⟩)
    ∧ (∀ causes ∈ [[Cause.manual 0], [.gateFlame 0, .alarmLine]],
      let s := flaming causes
      s.fu.state ≠ .clear ∧ s.fu.causes = causes ∧ s.fu.alarm = .inactive ∧ (report .set 5).gateFlame = .set
        ∧ (s.station 0).presence = .present ∧ s.role 0 ≠ .onScreen ∧ (s.lamp 0).state ≠ .striking
        ∧ (s.lamp 0).state ≠ .burning ∧ (s.screen (screenOf 0)).changeover.state ≠ .waitingReady
        ∧ (s.screen (screenOf 0)).changeover.state ≠ .queued)
    ∧ heardReply 0 872 (reply 0x27 5) false (some (report .set 5)) (flaming [.gateFlame 0, .alarmLine])
    ∧ heardReply 0 872 (reply 0x27 5) false (some (report .set 5)) (flaming [.manual 0]) :=
  ⟨by decide +kernel, by decide +kernel, (heard_report 872 (.inl rfl) _ (by decide +kernel)).2.2,
    (heard_report 872 (.inl rfl) _ (by decide +kernel)).2.2⟩

/-- The booth, CLEAR, with shutter 1 in a state, its limit at a level, perhaps under test. -/
def clearShutter (v : ShutterState) (x : Activity) (test : Option Shutter) : State :=
  (booth.setUnderTest test).onShutter 0 (fun r => { r with state := v, limit := x, dropTimer := some ⟨0, 0⟩ })

theorem witness_RearmAndDropTests :
    (State.reset.port 0).safety = false ∧ (booth.port 0).safety = true ∧ booth.fu.state ≠ .shut
    ∧ ((shutBooth.port 0).safety = true ∧ shutBooth.fu.state = .shut ∧ (∀ k, (shutBooth.shutter k).state = .closed)
      ∧ (∀ c ∈ shutBooth.fu.causes, shutBooth.causeClear c = true) ∧ (∀ p, shutBooth.role p = .idle)
      ∧ ∀ sc, (shutBooth.screen sc).changeover.state ≠ .waitingReady ∧ (shutBooth.screen sc).changeover.state ≠ .queued)
    ∧ (booth.fu.state = .clear ∧ booth.fu.underTest = none ∧ ∀ k, (booth.shutter k).state = .opened)
    ∧ (∀ p : Projector, shutterProjector 0 = some p → booth.role p = .idle)
    ∧ (let s := clearShutter .dropping .inactive (some 0)
       s.fu.state = .clear ∧ s.fu.underTest = some 0 ∧ (s.shutter 0).state = .dropping ∧ (s.shutter 0).limit = .inactive
        ∧ (s.shutter 0).dropTimer = some ⟨0, 0⟩)
    ∧ ((clearShutter .raising .active none).shutter 0).limit = .active
    ∧ ((clearShutter .jammed .inactive none).shutter 0).state = .jammed := by decide +kernel

/-! #### Ports and notices -/

/-- Port 2 with the frame of the worked sequence received up to its check byte. -/
def framed (code count : Byte) (args : List Byte) : State :=
  booth.onPort 1 (fun r => { r with
    frameState := .receiving, code := some code, statedCount := some count, arguments := args
    runningSum := (code :: count :: args).foldl (· + ·) 0 })

theorem witness_PortStrobesAndClear :
    ((booth.port 1).clearHeld = false ∧ (booth.port 1).frameState = .idle)
    ∧ (∀ v ∈ [FrameState.replying, .executing, .receiving],
      let s := booth.onPort 1 (fun r => { r with frameState := v })
      (s.port 1).frameState = v ∧ (s.port 1).clearHeld = false ∧ (s.port 1).statedCount = none)
    ∧ (let s := framed 0x10 3 [1, 0]
       (s.port 1).statedCount = some 3 ∧ (s.port 1).frameState = .receiving ∧ (s.port 1).arguments.length < 3)
    ∧ ((booth.onPort 1 (fun r => { r with clearHeld := true })).port 1).clearHeld = true := by decide +kernel

theorem witness_FramesAreCheckedInOrder :
    (∀ s ∈ [framed 0x10 3 [1, 0, 1], framed 0x17 0 [], framed 0x10 2 [1, 0], framed 0x10 3 [5, 0, 1]],
      (s.port 1).clearHeld = false ∧ (s.port 1).frameState = .receiving ∧ (s.port 1).code.isSome = true)
    ∧ ((framed 0x10 3 [1, 0, 1]).port 1).runningSum + 235 = 0
    ∧ decodeCommand 1 0x10 [1, 0, 1] = some (.cueNew 1 1 1) ∧ argumentCount 0x10 = some 3
    ∧ ((booth.port 1).grants (rightNeeded (.cueNew 1 1 1)) = true) ∧ inRange (.cueNew 1 1 1) = true
    ∧ argumentCount 0x17 = none ∧ (2 : Byte).toNat ≠ 3
    ∧ (State.reset.port 0).grants (rightNeeded (.boothSet 0 0)) = false ∧ inRange (.cueNew 1 5 1) = false := by
  decide +kernel

theorem witness_WrittenFrameReachesItsOwner :
    commandFrame (.cueNew 1 4 65535) = some (1, [16, 3, 4, 255, 255, 235]) ∧ (Instr.cueNew 1 4 65535).wellFormed = true
    ∧ (booth.port 1).grants (rightNeeded (.cueNew 1 4 65535)) = true ∧ inRange (.cueNew 1 4 65535) = true
    ∧ (booth.port 1).clearHeld = false ∧ (booth.port 1).frameState = .idle := by decide +kernel

theorem witness_CommandBytesAndCommandsAgree :
    ((Instr.cueNew 1 4 65535).wellFormed = true ∧ encodeCommand (.cueNew 1 4 65535) = some (1, 0x10, [4, 255, 255]))
    ∧ decodeCommand 1 0x10 [4, 255, 255] = some (.cueNew 1 4 65535) := by decide

def answered (v : FrameState) (tag : Option Nat) (held : Option Byte) : State :=
  let s := booth.onPort 0 (fun r => { r with frameState := v, answerOwed := true, frameTag := 1, writeHeld := held })
  { s with pu := { s.pu with answers := [⟨0, tag, .ok, [5]⟩] } }

/-- A port drives the byte it gives until its unit turns the direction line to write (R158). -/
theorem test_direction_line :
    (let s := after (.readStrobe ⟨0, some 1⟩) (booth.onPort 0 (fun r => { r with
        frameState := .replying, response := some (Response.build .ok []) }))
     (s.port 0).driven = some 0 ∧ (s.tick.port 0).driven = none ∧ (s.tick.port 0).direction = .write) := by
  decide +kernel

theorem witness_AnswersAreReadByTheirPort :
    (∀ k ∈ [0, 2], let s := booth.onPort 0 (fun r => { r with
        frameState := .replying, response := some (Response.build .ok []), readPosition := k })
      (s.port 0).response = some (Response.build .ok []) ∧ (s.port 0).clearHeld = false
        ∧ (s.port 0).frameState = .replying ∧ (s.port 0).readPosition = k)
    ∧ (booth.port 0).frameState ≠ .replying
    ∧ (∀ held ∈ [none, some (16 : Byte)], let s := answered .executing (some 1) held
      s.pu.answers = ⟨0, some 1, .ok, [5]⟩ :: [] ∧ (s.port 0).frameState = .executing ∧ (s.port 0).answerOwed = true
        ∧ (s.port 0).frameTag = 1 ∧ (s.port 0).writeHeld = held
        ∧ ∀ w ∈ [false, true], ((s.onPort 0 (fun r => { r with readWaiting := w })).port 0).readWaiting = w)
    ∧ ((after (.portClear 0 true) booth).port 0).clearHeld = true
    ∧ (∀ d ∈ [PortDirection.read, .write], ((booth.onPort 0 (fun r => { r with direction := d })).port 0).direction = d)
    ∧ ((answered .idle none none).port 0).frameState ≠ .executing := by decide +kernel

theorem witness_NoticesAreTakenAndHidden :
    ((booth.port 0).pendingSet.getLsbD 0 = true ∧ (booth.port 0).maskSet.getLsbD 0 = false)
    ∧ (∀ k : Notice, ((after (.noticeFlush 0) booth).port 0).pendingSet.getLsbD k.val = true →
        ((after (.noticeFlush 0) booth).port 0).maskSet.getLsbD k.val = true)
    ∧ (let s := (booth.onPort 0 (fun r => { r with pendingSet := 1 <<< 63 ||| 1, maskSet := 1 }))
       (s.port 0).pendingSet.getLsbD 63 = true ∧ (s.port 0).maskSet.getLsbD 63 = false) := by decide +kernel

theorem witness_NoticeRouteRulesTheNextRaise :
    (State.reset.port 0).setup = false ∧ (booth.port 0).setup = true
    ∧ (∀ k ∈ [10, 15, 64], (10 ≤ k ∧ k ≤ 15) ∨ 63 < k)
    ∧ (∀ k ∈ [0, 9, 16, 63], ¬ ((10 ≤ k ∧ k ≤ 15) ∨ 63 < k ∨ 7 < 7)) := by decide +kernel

/-! #### Lists, shows and changeovers -/

theorem witness_NewCuesArePlaced :
    booth.su.free = 2 :: (List.finRange 128).drop 3 ∧ (booth.screen 0).list = [] ++ 0 :: [1] ∧ (0 : CueIx) ∉ ([] : List CueIx)
    ∧ (booth.screen 0).state.performing = false ∧ (booth.screen 0).isLive 0 = false ∧ (booth.screen 0).isLive 1 = false
    ∧ ((onScreen 2).screen 0).next ≠ none ∧ ((onScreen 2).screen 0).isLive 1 = false ∧ 2 ∉ (booth.screen 0).list
    ∧ (let s := (onScreen 2).onScreen 0 (fun r => { r with next := none })
       (s.screen 0).list = [0] ++ 1 :: [] ∧ (1 : CueIx) ∉ [(0 : CueIx)] ∧ (s.screen 0).next = none
        ∧ (s.screen 0).state.performing = true ∧ s.su.free.head? = some 2 ∧ 2 ∉ (s.screen 0).list) := by decide +kernel

theorem witness_CuesAreMovedAndFreed :
    0 ∈ (booth.screen 0).list ∧ 1 ∈ (booth.screen 0).list ∧ (booth.screen 0).isLive 0 = false
    ∧ (booth.screen 0).list.erase 0 = [] ++ 1 :: [] ∧ (1 : CueIx) ∉ ([] : List CueIx) ∧ (0 : CueIx) ≠ 1
    ∧ (booth.screen 0).isLive 1 = false ∧ (booth.screen 0).liveAfter 1 = false
    ∧ (booth.screen 0).liveAfter 0 = false := by decide +kernel

theorem witness_CueWriteWritesTheContents :
    0 ∈ (booth.screen 0).list ∧ (booth.screen 0).isLive 0 = false
    ∧ (∀ k ∈ [0, 1, 2, 3, 4, 5], ∀ g ∈ [0, 1, 2, 3], ∀ tg ∈ [0, 1, 2, 3],
      let f : CueFields := ⟨999, k, g, 6000, 6001, tg, 255, 6001⟩
      f.wellFormed = true ∧ f.label ≤ 999 ∧ f.kind ≤ 5 ∧ f.trigger ≤ 3 ∧ f.first < f.second ∧ f.target ≤ 3) := by
  decide +kernel

theorem witness_EditsAreRuledOnInOrder :
    (booth.screen 0).generation = 2 ∧ (3 : Nat) ≠ 2 ∧ 5 ∉ (booth.screen 0).list
    ∧ (0 ∈ ((onScreen 2).screen 0).list ∧ 1 ∈ ((onScreen 2).screen 0).list ∧ ((onScreen 2).screen 0).isLive 0 = true)
    ∧ (booth.setFree []).su.free = [] ∧ (booth.screen 0).state.performing = false
    ∧ (((onScreen 2).screen 0).next = some 0 ∧ ((onScreen 2).screen 0).state.performing = true)
    ∧ (let s := (onScreen 2).onScreen 0 (fun r => { r with next := none })
       (s.screen 0).next = none ∧ (s.screen 0).state.performing = true
        ∧ nextIn 0 (s.screen 0).list = some 1 ∧ (s.screen 0).isLive 1 = true)
    ∧ (let f : CueFields := ⟨999, 3, 1, 5, 6, 3, 0, 0⟩
       f.wellFormed = true ∧ f.label ≤ 999 ∧ f.kind ≤ 5 ∧ f.trigger ≤ 3 ∧ f.first < f.second ∧ f.target ≤ 3)
    ∧ (let f : CueFields := ⟨0, 5, 1, 65535, 65535, 0, 0, 0⟩
       f.trigger = 1 ∧ f.first < 65536 ∧ f.second ≤ f.first)
    ∧ (nextIn 1 (booth.screen 0).list = none ∧ 1 ∈ ((booth.setFree []).screen 0).list
      ∧ nextIn 0 (booth.screen 0).list = some 1 ∧ (booth.screen 0).isLive 1 = false) := by decide +kernel

theorem witness_GenerationCountsTheEdits :
    (∃ t, exec (.cueNew 0 1 2) booth = .next t) ∧ ((after (.cueNew 0 1 2) booth).screen 0).generation = 3
    ∧ ((after (.showClear 0 1 2) booth).screen 0).generation = 3
    ∧ (after (.cueNew 0 1 2) booth).pu.answers.map (·.status) = [.ok]
    ∧ (after (.cueNew 0 1 3) booth).pu.answers.map (·.status) = [.stale] :=
  ⟨⟨_, rfl⟩, by decide +kernel, by decide +kernel, by decide +kernel, by decide +kernel⟩

def reelAt (v : ReelState) (role : Role) : State := (booth.setReel 0 0 (.reel v 1000 .a)).setRole 0 role

theorem witness_ReelsAreSetAndUnthreaded :
    booth.reel 0 11 = .empty ∧ booth.reel 0 0 = .reel .listed 1000 .a
    ∧ (reelAt .loaded .armed).reel 0 0 = .reel .loaded 1000 .a ∧ ReelState.loaded ≠ .listed
    ∧ (reelAt .loaded .armed).role (projectorOf 0 .a) = .armed
    ∧ (reelAt .loaded .starting).role (projectorOf 0 .a) ≠ .armed := by decide +kernel

theorem witness_ThreadingArmsTheProjector :
    shutBooth.su.tripInForce = true ∧ booth.su.tripInForce = false
    ∧ booth.reel 0 0 = .reel .listed 1000 .a ∧ booth.nextReel 0 = some 0
    ∧ booth.nextReel 0 ≠ some 11 ∧ booth.role (projectorOf 0 .a) = .idle ∧ (reelAt .listed .armed).role 0 ≠ .idle
    ∧ (booth.shutter (portShutter 0)).state = .opened ∧ ((clearShutter .dropping .inactive none).shutter 0).state ≠ .opened
    ∧ portShutter 0 = 0 ∧ (booth.station 0).presence = .present ∧ ((away 0).station 0).presence ≠ .present
    ∧ (booth.lamp 0).state ≠ .fault ∧ 0 < (booth.lamp 0).carbon
    ∧ ((booth.onLamp 0 (fun l => { l with carbon := 0 })).lamp 0).carbon = 0
    ∧ (1000 + 2880 ≤ 593 * 1440 / 220 ∧ ¬ 1000 + 2880 ≤ 592 * 1440 / 220) ∧ booth.su.margin = 2880
    ∧ (booth.screen 0).motorOwed = false
    ∧ (∀ v ∈ [MotorCommand.stop, .run], ∀ w ∈ [Speed.atSpeed, .runningUp],
      let s := ((booth.onDesired 0 (fun d => { d with motor := v })).onMotion 0 (fun m => { m with speed := w })).onScreen 0
        (fun r => { r with motorOwed := true })
      (s.screen 0).motorOwed = true ∧ s.lc.tripInForce = false ∧ (s.station 0).desired.motor = v
        ∧ (s.motion 0).speed = w ∧ s.nextReel 0 = some 0 ∧ s.role 0 = .idle ∧ s.su.tripInForce = false)
    ∧ (let s := { booth with lc := shutBooth.lc }
       s.su.tripInForce = false ∧ s.lc.tripInForce = true ∧ s.nextReel 0 = some 0) := by decide +kernel

theorem witness_ShowStartBeginsAPerformance :
    shutBooth.su.tripInForce = true ∧ booth.su.tripInForce = false ∧ ((onScreen 2).screen 0).state ≠ .idle
    ∧ (booth.screen 1).list = [] ∧ (booth.screen 0).list.head? = some 0 ∧ (booth.screen 0).state = .idle
    ∧ (booth.cue 0).trigger = .go := by decide +kernel

/-- A screen performing with cue 0 next, of a kind and a trigger. -/
def cued (k : CueKind) (t : Trigger) : State := standby.onCue 0 (fun c => { c with kind := k, trigger := t })

theorem witness_NextCueFiresWhenMet :
    (∀ k ∈ [CueKind.end_, .house 255 6000, .motor, .change], (((cued k (.after 0)).screen 0).next = some 0)
      ∧ ((cued k (.after 0)).screen 0).state.performing = true ∧ (cued k (.after 0)).su.tripInForce = false
      ∧ ((cued k (.after 0)).cue 0).kind = k ∧ ((cued k (.after 0)).cue 0).trigger = .after 0
      ∧ ((cued k (.after 0)).screen 0).changeHeld = false
      ∧ (∀ y, nextIn 0 ((cued k (.after 0)).screen 0).list = some y → ((cued k (.after 0)).cue y).trigger = .go))
    ∧ ({ cued .end_ .go with su := { (cued .end_ .go).su with tripInForce := true } } : State).su.tripInForce = true
    ∧ (((cued .change .go).onScreen 0 (fun r => { r with changeHeld := true })).screen 0).changeHeld = true
    ∧ ((booth.screen 0).state.performing = false ∧ booth.su.tripInForce = false)
    ∧ (standby.onScreen 0 (fun r => { r with next := none })).screen 0 = { standby.screen 0 with next := none }
    ∧ (standby.channel 0).override = .off
    ∧ (({ standby with hu := shutBooth.hu } : State).channel 0).override = .on
    ∧ (cued .motor (.after 0)).armedNext 0 = none := by decide +kernel

def screenIn (v : ScreenState) : State := booth.onScreen 0 (fun r => { r with state := v })

theorem witness_ShowStopMakesTheScreenSafe :
    (∀ v ∈ [ScreenState.idle, .stopped, .dark, .running, .waiting, .ended], ((screenIn v).screen 0).state = v)
    ∧ ((burstOut .queued none).screen 0).changeover.state = .queued
    ∧ ((onScreen 2).lamp 0).state ≠ .cold := by decide +kernel

theorem witness_RewindAndClearRestTheScreen :
    (∀ v ∈ [ScreenState.idle, .ended, .stopped], ((screenIn v).screen 0).state = v
      ∧ ¬ ∃ p, screenOf p = 0 ∧ ((screenIn v).role p = .starting ∨ (screenIn v).role p = .standby
        ∨ (screenIn v).role p = .onScreen ∨ (screenIn v).role p = .tail))
    ∧ (screenOf 0 = 0 ∧ standby.role 0 = .standby) ∧ ((screenIn .dark).screen 0).state = .dark := by decide +kernel

theorem witness_BoothSetClampsTheMargin : (State.reset.port 0).setup = false ∧ (booth.port 0).setup = true := by
  decide +kernel

theorem witness_ChangeCueOpensAChangeover :
    (∀ v ∈ [ChangeoverState.none, .sent],
      let s := (cued .change .go).onChangeover 0 (fun c => { c with state := v })
      (s.screen 0).next = some 0 ∧ (s.screen 0).state.performing = true ∧ (s.cue 0).kind = .change
        ∧ s.su.tripInForce = false ∧ (s.screen 0).changeHeld = false
        ∧ (∀ y, nextIn 0 (s.screen 0).list = some y → (s.cue y).trigger = .go) ∧ (s.screen 0).changeover.state = v)
    ∧ (cued .change .go).incomingOf 0 = some 0 ∧ (cued .change .go).ready (some 0) = true
    ∧ (cued .change .go).burstRuling 0 = .ok
    ∧ ((cued .change .go).onLamp 0 (fun l => { l with state := .out })).ready (some 0) = false
    ∧ (let s := (cued .change .go).setWatch 0 (.opened ⟨.opened, .waiting 3⟩ ⟨.closed, .waiting 3⟩)
       s.ready (some 0) = true ∧ s.incomingOf 0 = some 0 ∧ s.burstRuling 0 ≠ .ok) := by decide +kernel

/-- Station 1's poll done with a reported blade, its watch on its k-th last poll, station 2 in a status. -/
def confirming (result : PollResult) (k : Nat) (other : WatchStatus) : State :=
  (((standby.onChangeover 0 (fun c => { c with state := .sent })).setWindow (.opened 0 result)).setWatch 0
    (.opened ⟨.opened, .waiting k⟩ ⟨.closed, other⟩))

theorem witness_ConfirmationSettlesTheChangeover :
    (∀ result ∈ [PollResult.good (some .opened), .good (some .closed), .good none, .awaiting, .bad],
      ∀ left ∈ [1, 2, 3], ∀ other ∈ [WatchStatus.confirmed, .unconfirmed, .waiting 1],
      let s := confirming result left other
      s.lc.pollSent.window = .opened 0 result
        ∧ s.watch (screenOf 0) = .opened ⟨.opened, .waiting left⟩ ⟨.closed, other⟩ ∧ sideOf 0 = .a
        ∧ (s.screen (screenOf 0)).changeover.state = .sent ∧ (s.screen (screenOf 0)).changeHeld = false
        ∧ (s.station 0).presence = .present ∧ (s.station 0).missRun < 2)
    ∧ ((confirming .bad 1 .confirmed).onStation 0 (fun r => { r with missRun := 2 })).lc.pollSent.window
        = .opened 0 .bad := by decide +kernel

theorem witness_SettledWatchFiresTheHeldChange :
    (∀ v ∈ [ChangeoverState.sent, .none, .done, .aborted, .waitingReady], ∀ l ∈ [LampState.out, .burning],
      let s := (((confirming (.good (some .opened)) 3 .confirmed).onChangeover 0 (fun c => { c with state := v })).onCue 0
        (fun c => { c with kind := .change })).onLamp 0 (fun x => { x with state := l })
      let s := s.onScreen 0 (fun r => { r with changeHeld := true })
      s.lc.pollSent.window = .opened 0 (.good (some .opened))
        ∧ s.watch (screenOf 0) = .opened ⟨.opened, .waiting 3⟩ ⟨.closed, .confirmed⟩ ∧ sideOf 0 = .a
        ∧ (s.screen 0).changeover.state = v ∧ (s.screen 0).changeHeld = true ∧ (s.screen 0).state.performing = true
        ∧ (s.screen 0).next = some 0 ∧ (s.cue 0).kind = .change ∧ s.incomingOf 0 = some 0
        ∧ s.ready (some 0) = (l == .burning) ∧ s.lc.tripInForce = false ∧ s.lc.burstQueue = []
        ∧ s.lc.sending = .nothing ∧ (∀ y, nextIn 0 (s.screen 0).list = some y → (s.cue y).trigger = .go)) := by
  decide +kernel

/-- Screen 1's record in a state with its incoming on STANDBY and a queue, station 1 awaited with a stale toggle. -/
def examined (v : ChangeoverState) (lamp : LampState) (queue : List Burst) : State :=
  ((((standby.onChangeover 0 (fun c => { c with state := v })).onLamp 0 (fun l => { l with state := lamp })).setQueue
    queue).setWindow (.opened 0 .awaiting)).onStation 0 (fun r => { r with expectedToggle := true })

theorem witness_IncomingIsExamined :
    heardReply 0 872 (reply 0x07 5) false (some (report .clear 5)) (examined .queued .out [.changeover 0 .a])
    ∧ (∀ v ∈ [ChangeoverState.waitingReady, .queued, .sent], ∀ l ∈ [LampState.burning, .out],
      ∀ b ∈ [[], [Burst.changeover 0 .a]],
      let s := examined v l b
      (s.screen (screenOf 0)).changeover.state = v ∧ (s.station 0).presence = .present
        ∧ (s.station 0).expectedToggle = true ∧ s.lc.burstQueue = b ∧ s.lc.pollSent.window = .opened 0 .awaiting
        ∧ s.incomingOf 0 = some 0 ∧ s.role 0 = .standby ∧ (s.lamp 0).state ≠ .cold
        ∧ (s.burstRuling 0 = .ok ↔ b = [])
        ∧ (after (.replyReceived 872 (reply 0x07 5)) s).ready (some 0) = (l == .burning)) :=
  ⟨(heard_report 872 (.inl rfl) _ (by decide +kernel)).1, by decide +kernel⟩

theorem witness_CuesActOnTheirProjectors :
    (∀ k ∈ [CueKind.strike, .motor, .douser .outgoingOpen, .douser .outgoingClose, .douser .incomingOpen,
        .douser .incomingClose],
      let s := (cued k .go).setRole 0 .armed
      (s.screen 0).next = some 0 ∧ (s.screen 0).state.performing = true ∧ s.su.tripInForce = false
        ∧ s.lu.tripInForce = false ∧ s.lc.tripInForce = false ∧ (s.cue 0).kind = k
        ∧ (∀ y, nextIn 0 (s.screen 0).list = some y → (s.cue y).trigger = .go)
        ∧ s.nextReel 0 = some 0 ∧ s.reel 0 0 = .reel .loaded 1000 .a ∧ s.role (projectorOf 0 .a) = .armed
        ∧ (s.station (projectorOf 0 .a)).desired.motor = .stop ∧ (s.lamp (projectorOf 0 .a)).state = .burning
        ∧ s.incomingOf 0 = some 0 ∧ s.role 1 = .onScreen ∧ s.role (partner 1) ≠ .onScreen ∧ screenOf 1 = 0)
    ∧ (let s := (cued .strike .go).onLamp 0 (fun l => { l with state := .out })
       (s.lamp 0).state ≠ .striking ∧ (s.lamp 0).state ≠ .burning ∧ (s.lamp 0).carbon ≠ 0
        ∧ (s.station 0).presence = .present
        ∧ ((s.onLamp 0 (fun l => { l with carbon := 0 })).lamp 0).carbon = 0
        ∧ ((s.onStation 0 (fun r => { r with presence := .lost })).station 0).presence ≠ .present)
    ∧ (∀ k ∈ [CueKind.strike, .douser .incomingOpen, .douser .incomingClose],
      let s := (cued k .go).setReel 0 0 .empty
      s.nextReel 0 = some 0 ∧ s.reel 0 0 = .empty ∧ s.incomingOf 0 = none)
    ∧ (∀ k ∈ [CueKind.douser .outgoingOpen, .douser .outgoingClose],
      let s := (cued k .go).setRole 1 .idle
      ∀ d, screenOf d = 0 → s.role d ≠ .onScreen)
    ∧ ((cued .strike .go).onScreen 0 (fun r => { r with
        reels := Vector.replicate 12 (.reel .done 1 .a) })).nextReel 0 = none := by decide +kernel

/-- Projector 1 on screen with `r` frames left, its watch at 100, cue 0 an END with a trigger. -/
def filmCue (t : Trigger) (r : Nat) : State :=
  ((((onScreen r).onMotion 0 (fun m => { m with watch := some 100 })).onCue 0 (fun c => { c with trigger := t })).setWindow
    (.opened 0 .awaiting)).setMark 0 (some 4)

/-- The same with cue 0 a CHANGE held for the changeover in flight. -/
def heldCue (r : Nat) : State :=
  ((filmCue (.mark 100 200) r).onCue 0 (fun c => { c with kind := .change })).onScreen 0 (fun x =>
    { x with changeHeld := true, changeover := { x.changeover with state := .sent } })

theorem witness_FilmTriggersFireTheCue :
    (∀ s ∈ [filmCue (.frames 100) 101, filmCue (.mark 100 200) 101, filmCue .go 101, filmCue (.after 2) 101,
        filmCue (.mark 100 200) 200, filmCue (.mark 100 200) 201, filmCue (.mark 100 200) 100, filmCue (.frames 100) 1],
      s.role 0 = .onScreen ∧ s.role (partner 0) ≠ .onScreen ∧ (s.screen (screenOf 0)).state.performing = true
        ∧ (s.screen (screenOf 0)).next = some 0 ∧ (s.cue 0).kind = .end_
        ∧ (s.motion 0).gate = .opened ∧ 1 ≤ (s.motion 0).framesRemaining ∧ (s.motion 0).watch = some 100
        ∧ s.lc.pollSent.window = .opened 0 .awaiting ∧ (s.station 0).expectedToggle = false
        ∧ (s.station 0).presence = .present ∧ s.mark 0 = some 4)
    ∧ (100 < 101 ∧ 200 ≤ 200 ∧ 200 < 201 ∧ 100 ≤ 100) ∧ (101 - 1 ≤ 100)
    ∧ heardReply 0 1272 (reply 0x07 5) false (some (report .clear 5)) (filmCue (.mark 100 200) 101)
    ∧ ((filmCue .go 101).setMark 0 none).mark 0 = none
    ∧ (∀ r ∈ [100, 101, 200, 201], let s := heldCue r
      (s.cue 0).kind = .change ∧ (s.cue 0).trigger = .mark 100 200 ∧ (s.screen (screenOf 0)).changeHeld = true
        ∧ (s.screen (screenOf 0)).changeover.state.inFlight = true ∧ s.role 0 = .onScreen ∧ s.mark 0 = some 4
        ∧ (s.screen (screenOf 0)).next = some 0 ∧ (s.motion 0).framesRemaining = r) :=
  ⟨by decide +kernel, by decide, by decide, (heard_report 1272 (.inr rfl) _ (by decide +kernel)).1, by decide +kernel,
    by decide +kernel⟩

end witnesses

end tests
end

section
/-! PROOF. The lamp console commands LAMP_SET and LAMP_RECARBON (spec/03 R64, R65). -/

namespace Sys2Proof.Machine

/-! ### The port unit's checks, and the owner's rule on a numbered thing -/

/-- A command whose right the port lacks is refused with DENIED (R161, step 4). -/
theorem console_denied (n : Port) (c : Instr) (s : State) (rule : State → Ruling)
    (hr : (s.port n).grants (rightNeeded c) = false) :
    console n c s rule = .next (s.answer n c .denied []) := by
  simp [console, hr]

/-- The owner's rule is applied to the thing whose number was given. -/
@[simp] theorem onNumber_numberOf {m : Nat} (i : Fin m) (s : State) (rule : Fin m → Ruling) :
    onNumber (numberOf i) s rule = rule i := by
  simp only [onNumber, numberOf, numbered_numberOf]

/-- The number of a thing is in range. -/
@[simp] theorem oneTo_numberOf {m : Nat} (i : Fin m) : oneTo m (numberOf i) = true := by
  have hi : i.val + 1 ≤ m := i.isLt
  simp [oneTo, numberOf, hi]

/-! ### A lamp record written, and the command answered -/

section

variable (p : Projector) (f : Lamp → Lamp) (s : State) (n : Port) (c : Instr) (st : Status) (data : List Byte)

/-- The lamp named is the one written. -/
theorem lamp_onLamp_answer : ((s.onLamp p f).answer n c st data).lamp p = f (s.lamp p) := by simp

/-- The other lamps and the trip stay as they were. -/
theorem otherLampsKept_onLamp_answer : otherLampsKept p s ((s.onLamp p f).answer n c st data) :=
  ⟨fun q hq => by simp [Ne.symm hq], rfl⟩

/-- Besides the lamp unit, only the port unit's record of the answer changes. -/
theorem onlyTouches_onLamp_answer : onlyTouches [.lu, .pu] s ((s.onLamp p f).answer n c st data) := by
  simp [onlyTouches]

end

/-! ### The settings' limits -/

/-- `clamp` by its three regions, as R64 words it. -/
theorem clamp_eq_ite {low high : Nat} (h : low ≤ high) (k : Nat) :
    clamp low high k = if k < low then low else if high < k then high else k := by
  unfold clamp
  split
  · omega
  · split <;> omega

/-- The six settings as R64 words them: each clamped by its regions, Fmax then raised to B where it is less. -/
theorem Lamp.withSettings_eq_ite (l : Lamp) (f : LampFields) :
    let within (low high k : Nat) : Nat := if k < low then low else if high < k then high else k
    l.withSettings f = { l with
      vs := within 400 800 f.vs, ir := within 300 1500 f.ir, b := within 20 600 f.b, g := within 0 63 f.g
      fmax := if within 20 600 f.fmax < within 20 600 f.b then within 20 600 f.b else within 20 600 f.fmax
      trim := within 0 2000 f.trim } := by
  have raised (b k : Nat) : max b k = if k < b then b else k := (max_comm b k).trans (max_def_lt k b)
  simp only [Lamp.withSettings, raised, clamp_eq_ite (show 400 ≤ 800 by decide),
    clamp_eq_ite (show 300 ≤ 1500 by decide), clamp_eq_ite (show 20 ≤ 600 by decide),
    clamp_eq_ite (show 0 ≤ 63 by decide), clamp_eq_ite (show 0 ≤ 2000 by decide)]

/-- The record with a new carbon as R65 words it. -/
theorem Lamp.recarbon_eq_ite (l : Lamp) (length : Nat) :
    l.recarbon length = { l with
      carbon := if 12000 < length then 12000 else length
      trimNoticed := false
      fault := if l.fault = .carbonExhausted then .none else l.fault } := by
  have shorter : min length Config.carbonMax = if 12000 < length then 12000 else length :=
    (min_comm length 12000).trans (min_def_lt 12000 length)
  simp only [Lamp.recarbon, shorter]

/-! ### The two rules -/

section

variable (p : Projector) (s : State)

theorem lampSetRule_of_cold (f : LampFields) (h : (s.lamp p).state = .cold) :
    lampSetRule s f p = ⟨.ok, [], s.onLamp p (fun l => l.withSettings f)⟩ := by
  simp [lampSetRule, h]

theorem lampSetRule_of_not_cold (f : LampFields) (h : (s.lamp p).state ≠ .cold) :
    lampSetRule s f p = refuse s .state := by
  simp [lampSetRule, h]

theorem lampRecarbonRule_of_cold (length : Nat) (h : (s.lamp p).state = .cold) :
    lampRecarbonRule s length p = ⟨.ok, [], s.onLamp p (fun l => l.recarbon length)⟩ := by
  simp [lampRecarbonRule, h]

theorem lampRecarbonRule_of_not_cold (length : Nat) (h : (s.lamp p).state ≠ .cold) :
    lampRecarbonRule s length p = refuse s .state := by
  simp [lampRecarbonRule, h]

/-! ### The two commands -/

variable (n : Port)

theorem exec_lampSet (f : LampFields) : exec (.lampSet n (numberOf p) f) s =
    console n (.lampSet n (numberOf p) f) s (fun s => lampSetRule s f p) := by
  simp only [exec, execLampSet, onNumber_numberOf]

theorem exec_lampRecarbon (length : Nat) : exec (.lampRecarbon n (numberOf p) length) s =
    console n (.lampRecarbon n (numberOf p) length) s (fun s => lampRecarbonRule s length p) := by
  simp only [exec, execLampRecarbon, onNumber_numberOf]

/-- LAMP_SET needs SETUP (R164). -/
theorem exec_lampSet_denied (f : LampFields) (h : (s.port n).setup = false) :
    exec (.lampSet n (numberOf p) f) s = .next (s.answer n (.lampSet n (numberOf p) f) .denied []) :=
  (exec_lampSet ..).trans (console_denied n (.lampSet n (numberOf p) f) s _ h)

/-- LAMP_SET from a SETUP port answers the lamp unit's ruling. -/
theorem exec_lampSet_of_ruling (f : LampFields) {r : Ruling} (h : (s.port n).setup = true)
    (hr : lampSetRule s f p = r) :
    exec (.lampSet n (numberOf p) f) s =
      .next (r.state.answer n (.lampSet n (numberOf p) f) r.status r.data) := by
  subst hr
  exact (exec_lampSet ..).trans (console_taken s n (.lampSet n (numberOf p) f) _ h (oneTo_numberOf p))

/-- LAMP_RECARBON needs no right and answers the lamp unit's ruling. -/
theorem exec_lampRecarbon_of_ruling (length : Nat) {r : Ruling} (hr : lampRecarbonRule s length p = r) :
    exec (.lampRecarbon n (numberOf p) length) s =
      .next (r.state.answer n (.lampRecarbon n (numberOf p) length) r.status r.data) := by
  subst hr
  exact (exec_lampRecarbon ..).trans
    (console_taken s n (.lampRecarbon n (numberOf p) length) _ rfl (oneTo_numberOf p))

end

/-- Settles O28: the port unit's checks, then the lamp unit's ruling by whether the lamp is COLD; a ruling of OK
writes the one lamp record. -/
theorem lampSettingsAndCarbonAreEntered : Obligations.LampSettingsAndCarbonAreEntered := by
  unfold Obligations.LampSettingsAndCarbonAreEntered
  refine ⟨fun n p f s => ⟨?denied, ?setNotCold, ?setCold⟩, fun n p length s => ⟨?carbonNotCold, ?carbonCold⟩⟩
  case denied => exact exec_lampSet_denied p s n f
  case setNotCold =>
    intro setup notCold
    exact exec_lampSet_of_ruling p s n f setup (lampSetRule_of_not_cold p s f notCold)
  case setCold =>
    intro setup cold
    refine ⟨_, exec_lampSet_of_ruling p s n f setup (lampSetRule_of_cold p s f cold), ?_,
      otherLampsKept_onLamp_answer .., rfl, onlyTouches_onLamp_answer ..⟩
    exact (lamp_onLamp_answer ..).trans (Lamp.withSettings_eq_ite _ f)
  case carbonNotCold =>
    intro notCold
    exact exec_lampRecarbon_of_ruling p s n length (lampRecarbonRule_of_not_cold p s length notCold)
  case carbonCold =>
    intro cold
    refine ⟨_, exec_lampRecarbon_of_ruling p s n length (lampRecarbonRule_of_cold p s length cold), ?_,
      otherLampsKept_onLamp_answer .., rfl, onlyTouches_onLamp_answer ..⟩
    exact (lamp_onLamp_answer ..).trans (Lamp.recarbon_eq_ite _ length)

end Sys2Proof.Machine
end

section
/-! PROOF. The lamp law: the conduction of a level by interpolation in its table (spec/07 R128). -/

namespace Sys2Proof.Machine

/-! ### The segment of the table a level lies in -/

/-- The table point a level is interpolated from: R128's k. -/
def lawSegment (v : Nat) : Nat := if 240 ≤ v then 15 else v / 16

/-- The number of levels from point k to the next: R128's span. -/
def lawSpan (k : Nat) : Nat := if k = 15 then 15 else 16

/-- R128's formula, in the names of its parts. -/
theorem conduction_eq (v : Nat) :
    conduction v = lawPoint (lawSegment v) + (lawPoint (lawSegment v + 1) - lawPoint (lawSegment v))
      * (v - 16 * lawSegment v) / lawSpan (lawSegment v) := rfl

theorem lawSegment_lt {v : Nat} (hv : v < 256) : lawSegment v < 16 := by
  unfold lawSegment
  split <;> omega

theorem lawSegment_mono {v w : Nat} (hvw : v ≤ w) : lawSegment v ≤ lawSegment w := by
  unfold lawSegment
  split <;> split <;> omega

/-- A level lies at most a whole span above the point it is interpolated from. -/
theorem sub_lawSegment_le_lawSpan {v : Nat} (hv : v < 256) :
    v - 16 * lawSegment v ≤ lawSpan (lawSegment v) := by
  unfold lawSegment lawSpan
  split <;> split <;> omega

/-! ### The table's points -/

theorem lampLaw_getElem? {k : Nat} (hk : k ≤ 16) : Config.lampLaw[k]? = some (lawPoint k) := by
  have inTable : k < Config.lampLaw.length := Nat.lt_succ_of_le hk
  simp [lawPoint, inTable]

/-- The table rises from each point to the next. -/
theorem lawPoint_le_succ : ∀ k < 16, lawPoint k ≤ lawPoint (k + 1) := by decide

theorem lawPoint_mono {i j : Nat} (hij : i ≤ j) (hj : j ≤ 16) : lawPoint i ≤ lawPoint j := by
  induction j, hij using Nat.le_induction with
  | base => exact le_rfl
  | succ j _ ih => exact (ih (by omega)).trans (lawPoint_le_succ j hj)

/-! ### The conduction between two points -/

theorem conduction_of_at_point {v : Nat} (h : v - 16 * lawSegment v = 0) :
    conduction v = lawPoint (lawSegment v) := by
  simp [conduction_eq, h]

theorem lawPoint_le_conduction (v : Nat) : lawPoint (lawSegment v) ≤ conduction v := Nat.le_add_right ..

/-- Interpolation does not pass the next point. -/
theorem conduction_le_lawPoint {v : Nat} (hv : v < 256) : conduction v ≤ lawPoint (lawSegment v + 1) := by
  have rise : (lawPoint (lawSegment v + 1) - lawPoint (lawSegment v)) * (v - 16 * lawSegment v)
      / lawSpan (lawSegment v) ≤ lawPoint (lawSegment v + 1) - lawPoint (lawSegment v) :=
    Nat.div_le_of_le_mul ((Nat.mul_comm ..).trans_le (Nat.mul_le_mul_right _ (sub_lawSegment_le_lawSpan hv)))
  have step := lawPoint_le_succ _ (lawSegment_lt hv)
  rw [conduction_eq]
  omega

/-- In one segment a higher level is interpolated further. -/
theorem conduction_le_of_same_segment {v w : Nat} (hvw : v ≤ w) (h : lawSegment v = lawSegment w) :
    conduction v ≤ conduction w := by
  rw [conduction_eq, conduction_eq, h]
  gcongr

/-- Across segments the table's points stand between the two conductions. -/
theorem conduction_le_of_segment_lt {v w : Nat} (hv : v < 256) (hw : w < 256)
    (h : lawSegment v < lawSegment w) : conduction v ≤ conduction w :=
  calc conduction v
    _ ≤ lawPoint (lawSegment v + 1) := conduction_le_lawPoint hv
    _ ≤ lawPoint (lawSegment w) := lawPoint_mono h (lawSegment_lt hw).le
    _ ≤ conduction w := lawPoint_le_conduction w

theorem conduction_mono {v w : Nat} (hvw : v ≤ w) (hw : w < 256) : conduction v ≤ conduction w := by
  obtain same | below := (lawSegment_mono hvw).eq_or_lt
  · exact conduction_le_of_same_segment hvw same
  · exact conduction_le_of_segment_lt (hvw.trans_lt hw) hw below

/-- Settles O30: R128's formula read from the table, and its rise, within a segment and across the points. -/
theorem lampLawInterpolatesTheTable : Obligations.LampLawInterpolatesTheTable := by
  unfold Obligations.LampLawInterpolatesTheTable
  refine ⟨fun v hv => ?interpolates, fun v w hvw hw => conduction_mono hvw hw, ?values⟩
  case interpolates =>
    have segment : lawSegment v < 16 := lawSegment_lt hv
    exact ⟨_, _, lampLaw_getElem? segment.le, lampLaw_getElem? segment, conduction_eq v, conduction_of_at_point⟩
  case values => decide

end Sys2Proof.Machine
end

section
/-! PROOF. The notice commands of a console port: NOTICE_NEXT, NOTICE_FLUSH and NOTICE_MASK (spec/09 R167, R168). -/

namespace Sys2Proof.Machine

/-! ### The members of a notice set -/

theorem getLsbD_noticeBit (j k : Notice) : (noticeBit k).getLsbD j.val = decide (j = k) := by
  rw [noticeBit, BitVec.getLsbD_ofNat, Nat.testBit_two_pow]
  simp [Fin.ext_iff, eq_comm]

/-- A notice set that is not empty has a member. -/
theorem bne_zero_iff_exists_notice (m : NoticeSet) : (m != 0) = true ↔ ∃ j : Notice, m.getLsbD j.val = true := by
  constructor
  · intro notEmpty
    by_contra noMember
    have empty : m = 0 := BitVec.eq_of_getLsbD_eq fun i hi => by
      simpa using fun member => noMember ⟨⟨i, hi⟩, member⟩
    simp [empty] at notEmpty
  · rintro ⟨j, member⟩
    have notEmpty : m ≠ 0 := by
      rintro rfl
      simp at member
    simpa using notEmpty

theorem getLsbD_and_not (a b : NoticeSet) (j : Notice) :
    (a &&& ~~~b).getLsbD j.val = true ↔ a.getLsbD j.val = true ∧ b.getLsbD j.val = false := by
  simp

/-- A port sees the notices that are pending and not hidden (R166). -/
theorem PortRecord.getLsbD_visible (r : PortRecord) (j : Notice) :
    r.visible.getLsbD j.val = true ↔ r.pendingSet.getLsbD j.val = true ∧ r.maskSet.getLsbD j.val = false :=
  getLsbD_and_not ..

/-- A set's lowest notice is its member with no member below. -/
theorem lowestNotice_eq_some {m : NoticeSet} {k : Notice} (member : m.getLsbD k.val = true)
    (lowest : ∀ j < k, ¬ m.getLsbD j.val = true) : lowestNotice m = some k := by
  refine List.find?_eq_some_iff_getElem.mpr ⟨member, k.val, by simp, by simp, fun j below => ?_⟩
  simpa using lowest ⟨j, below.trans k.isLt⟩ below

theorem lowestNotice_eq_none {m : NoticeSet} (empty : ∀ j : Notice, ¬ m.getLsbD j.val = true) :
    lowestNotice m = none :=
  List.find?_eq_none.mpr fun j _ => empty j

/-! ### The attention line set afresh -/

/-- The attention line, set afresh, shows whether the port sees a notice (R166). -/
theorem PortRecord.refresh_attention_iff (r : PortRecord) :
    r.refresh.attention = true ↔
      ∃ j : Notice, r.pendingSet.getLsbD j.val = true ∧ r.maskSet.getLsbD j.val = false :=
  (bne_zero_iff_exists_notice _).trans (exists_congr fun j => getLsbD_and_not _ _ j)

theorem PortRecord.setPending_zero (r : PortRecord) :
    r.setPending 0 = { r with pendingSet := 0, attention := false } := by
  simp [PortRecord.setPending, PortRecord.refresh]

/-- A notice taken leaves the pending set, and the others stay in it. -/
theorem PortRecord.getLsbD_setPending_remove (r : PortRecord) (k j : Notice) :
    (r.setPending (r.pendingSet &&& ~~~noticeBit k)).pendingSet.getLsbD j.val =
      (decide (j ≠ k) && r.pendingSet.getLsbD j.val) :=
  calc (r.pendingSet &&& ~~~noticeBit k).getLsbD j.val
    _ = (r.pendingSet.getLsbD j.val && !(noticeBit k).getLsbD j.val) := by simp
    _ = (decide (j ≠ k) && r.pendingSet.getLsbD j.val) := by rw [getLsbD_noticeBit, Bool.and_comm, decide_not]

/-! ### A port record written, and the command answered -/

section

variable (n : Port) (f : PortRecord → PortRecord) (s : State) (c : Instr) (st : Status) (data : List Byte)

theorem port_onPort_answer : ((s.onPort n f).answer n c st data).port n = f (s.port n) := by simp

/-- Besides the one port record, only the port unit's record of the answer changes. -/
theorem onPort_answer_keeps :
    ((s.onPort n f).answer n c st data).pu.answers = (s.answer n c st data).pu.answers
    ∧ (∀ m, m ≠ n → ((s.onPort n f).answer n c st data).port m = s.port m)
    ∧ ((s.onPort n f).answer n c st data).pu.routes = s.pu.routes
    ∧ onlyTouches [.pu] s ((s.onPort n f).answer n c st data) := by
  refine ⟨rfl, fun m other => ?_, rfl, ?_⟩
  · simp [Ne.symm other]
  · simp [onlyTouches]

end

/-! ### The three commands: no right is needed and no argument is out of range -/

section

variable (n : Port) (s : State)

theorem exec_noticeNext : exec (.noticeNext n) s =
    .next ((noticeNextRule s n).state.answer n (.noticeNext n) (noticeNextRule s n).status (noticeNextRule s n).data) :=
  console_taken s n (.noticeNext n) (fun s => noticeNextRule s n) rfl rfl

/-- NOTICE_NEXT takes the lowest notice the port sees (R167). -/
theorem exec_noticeNext_of_lowest {k : Notice} (lowest : lowestNotice (s.port n).visible = some k) :
    exec (.noticeNext n) s =
      .next ((s.onPort n (fun r => r.setPending (r.pendingSet &&& ~~~noticeBit k))).answer n (.noticeNext n) .ok
        [BitVec.ofNat 8 k.val]) := by
  rw [exec_noticeNext]
  simp only [noticeNextRule, lowest, byte1]

/-- NOTICE_NEXT takes none where the port sees none (R167). -/
theorem exec_noticeNext_of_noneSeen (noneSeen : lowestNotice (s.port n).visible = none) :
    exec (.noticeNext n) s = .next (s.answer n (.noticeNext n) .ok [255]) := by
  rw [exec_noticeNext]
  simp only [noticeNextRule, noneSeen, byte1]
  rfl

theorem exec_noticeFlush : exec (.noticeFlush n) s =
    .next ((s.onPort n (fun r => r.setPending 0)).answer n (.noticeFlush n) .ok []) :=
  console_taken s n (.noticeFlush n) (fun s => noticeFlushRule s n) rfl rfl

theorem exec_noticeMask (hidden : NoticeSet) : exec (.noticeMask n hidden) s =
    .next ((s.onPort n (fun r => r.setMask hidden)).answer n (.noticeMask n hidden) .ok []) :=
  console_taken s n (.noticeMask n hidden) (fun s => noticeMaskRule s n hidden) rfl rfl

end

/-- Settles O41: each command rewrites the record of its own port, and the attention line, set afresh, shows what that
port still sees. -/
theorem noticesAreTakenAndHidden : Obligations.NoticesAreTakenAndHidden := by
  unfold Obligations.NoticesAreTakenAndHidden
  refine ⟨fun n s => ⟨?taken, ?noneSeen⟩, fun n hidden s => ⟨?flush, ?mask⟩⟩
  case taken =>
    intro k pending shown below
    have lowest : lowestNotice (s.port n).visible = some k := by
      refine lowestNotice_eq_some ((PortRecord.getLsbD_visible ..).mpr ⟨pending, shown⟩) fun j hj seen => ?_
      obtain ⟨jPending, jShown⟩ := (PortRecord.getLsbD_visible ..).mp seen
      exact Bool.eq_false_iff.mp jShown (below j hj jPending)
    refine ⟨_, exec_noticeNext_of_lowest n s lowest, ?_, ?_, ?_, ?_, onPort_answer_keeps ..⟩ <;>
      simp only [port_onPort_answer]
    · exact (s.port n).getLsbD_setPending_remove k
    · exact PortRecord.refresh_attention_iff _
    · rfl
    · rfl
  case noneSeen =>
    intro allHidden
    refine exec_noticeNext_of_noneSeen n s (lowestNotice_eq_none fun j seen => ?_)
    obtain ⟨pending, shown⟩ := (PortRecord.getLsbD_visible ..).mp seen
    exact Bool.eq_false_iff.mp shown (allHidden j pending)
  case flush =>
    exact ⟨_, exec_noticeFlush n s, (port_onPort_answer ..).trans (PortRecord.setPending_zero _),
      onPort_answer_keeps ..⟩
  case mask =>
    refine ⟨_, exec_noticeMask n s hidden, ?_, ?_, onPort_answer_keeps ..⟩ <;> simp only [port_onPort_answer]
    · rfl
    · exact PortRecord.refresh_attention_iff _

end Sys2Proof.Machine
end

section
/-! PROOF. NOTICE_ROUTE and the raise that follows it (spec/09 R165, R169). -/

namespace Sys2Proof.Machine

/-! ### The port unit's checks of NOTICE_ROUTE -/

/-- A command with an argument out of range is refused with RANGE where the port has its right (R161, step 5). -/
theorem console_range (n : Port) (c : Instr) (s : State) (rule : State → Ruling)
    (hr : (s.port n).grants (rightNeeded c) = true) (hi : inRange c = false) :
    console n c s rule = .next (s.answer n c .range []) := by
  simp [console, hr, hi]

/-- The arguments of NOTICE_ROUTE are in range for an assigned notice number and a set of the three ports (R169). -/
theorem inRange_noticeRoute_iff (n : Port) (notice ports : Nat) :
    inRange (.noticeRoute n notice ports) = true ↔
      ¬ ((10 ≤ notice ∧ notice ≤ 15) ∨ 63 < notice ∨ 7 < ports) := by
  simp only [inRange, Bool.and_eq_true, Bool.or_eq_true, decide_eq_true_eq]
  omega

/-- The set of ports that a byte's low three bits name. -/
theorem getLsbD_portSet (ports : Nat) (m : Port) :
    (BitVec.ofNat 3 ports : PortSet).getLsbD m.val = ports.testBit m.val := by
  rw [BitVec.getLsbD_ofNat, decide_eq_true m.isLt, Bool.true_and]

/-! ### A route entry replaced -/

section

variable (k : Notice) (ports : Nat) (s : State)

theorem route_noticeRouteRule (j : Notice) :
    (noticeRouteRule s ports k).state.route j = if k = j then BitVec.ofNat 3 ports else s.route j := upd_get ..

theorem onlyTouches_noticeRouteRule_answer (n : Port) (c : Instr) :
    onlyTouches [.pu] s ((noticeRouteRule s ports k).state.answer n c .ok []) := by
  simp [onlyTouches, noticeRouteRule]

variable (n : Port) (notice : Nat)

theorem exec_noticeRoute : exec (.noticeRoute n notice ports) s = console n (.noticeRoute n notice ports) s
    (fun s => if h : notice < 64 then noticeRouteRule s ports ⟨notice, h⟩ else refuse s .range) := rfl

theorem exec_noticeRoute_denied (noSetup : (s.port n).setup = false) :
    exec (.noticeRoute n notice ports) s = .next (s.answer n (.noticeRoute n notice ports) .denied []) :=
  (exec_noticeRoute ..).trans (console_denied n (.noticeRoute n notice ports) s _ noSetup)

theorem exec_noticeRoute_range (setup : (s.port n).setup = true)
    (outside : inRange (.noticeRoute n notice ports) = false) :
    exec (.noticeRoute n notice ports) s = .next (s.answer n (.noticeRoute n notice ports) .range []) :=
  (exec_noticeRoute ..).trans (console_range n (.noticeRoute n notice ports) s _ setup outside)

/-- NOTICE_ROUTE in range, from a SETUP port, replaces the entry of the notice its number names (R169). -/
theorem exec_noticeRoute_taken (setup : (s.port n).setup = true)
    (inside : inRange (.noticeRoute n k.val ports) = true) :
    exec (.noticeRoute n k.val ports) s =
      .next ((noticeRouteRule s ports k).state.answer n (.noticeRoute n k.val ports) .ok []) := by
  refine (exec_noticeRoute ..).trans ((console_taken s n (.noticeRoute n k.val ports) _ setup inside).trans ?_)
  simp only [k.isLt, dite_true]
  rfl

end

/-- Settles O42: the port unit's checks, then the one route entry replaced, which the next raise of its notice reads. -/
theorem noticeRouteRulesTheNextRaise : Obligations.NoticeRouteRulesTheNextRaise := by
  unfold Obligations.NoticeRouteRulesTheNextRaise
  intro n notice ports s
  refine ⟨exec_noticeRoute_denied ports s n notice, fun setup outside => ?range, fun setup inside => ?taken⟩
  case range =>
    refine exec_noticeRoute_range ports s n notice setup (Bool.eq_false_iff.mpr fun inside => ?_)
    exact (inRange_noticeRoute_iff n notice ports).mp inside outside
  case taken =>
    obtain ⟨k, rfl⟩ : ∃ k : Notice, k.val = notice := ⟨⟨notice, by omega⟩, rfl⟩
    refine ⟨_, exec_noticeRoute_taken k ports s n setup ((inRange_noticeRoute_iff ..).mpr inside), ?entry, ?others,
      rfl, rfl, onlyTouches_noticeRouteRule_answer ..⟩
    case entry =>
      intro j same
      obtain rfl : j = k := Fin.ext same
      have entry : (noticeRouteRule s ports j).state.route j = BitVec.ofNat 3 ports := by
        simp [route_noticeRouteRule]
      refine ⟨entry, fun m => ?_⟩
      rw [State.port_raise, State.answer_route, entry, getLsbD_portSet]
      rfl
    case others =>
      intro j other
      have ne : k ≠ j := fun same => other (congrArg Fin.val same.symm)
      exact (route_noticeRouteRule ..).trans (if_neg ne)

end Sys2Proof.Machine
end

section
/-! PROOF. What the shared operations of the line controller, the motion unit and the show unit write, and what they
leave alone: requests, the examination of an incoming, and the gate. -/

namespace Sys2Proof.Machine

variable (s : State)

/-! ### Requests to the line controller (R32, R33) -/

theorem State.closeDouser_eq (p : Projector) : s.closeDouser p = s.onDesired p (fun d => { d with douser := .closed }) := rfl
theorem State.closeBlade_eq (p : Projector) : s.closeBlade p = s.onDesired p (fun d => { d with blade := .closed }) := rfl

/-- An energizing request meets TRIP while a trip is in force at the line; every other request is taken (R32). -/
theorem State.energizingRuling_eq (b : Bool) :
    s.energizingRuling b = if b = true ∧ s.lc.tripInForce = true then .trip else .ok := by
  simp [State.energizingRuling]

theorem State.askDouser_eq (p : Projector) (v : Opening) :
    s.askDouser p v = if v = .opened ∧ s.lc.tripInForce = true then (.trip, s)
      else (.ok, s.onDesired p (fun d => { d with douser := v })) := by
  unfold State.askDouser
  rw [State.energizingRuling_eq]
  simp only [decide_eq_true_eq]
  split <;> simp_all

theorem State.askArc_eq (p : Projector) (v : Switch) :
    s.askArc p v = if v = .on ∧ s.lc.tripInForce = true then (.trip, s)
      else (.ok, s.onDesired p (fun d => { d with arc := v })) := by
  unfold State.askArc
  rw [State.energizingRuling_eq]
  simp only [decide_eq_true_eq]
  split <;> simp_all

theorem State.askMotor_eq (p : Projector) (v : MotorCommand) :
    s.askMotor p v = if v = .run ∧ s.lc.tripInForce = true then (.trip, s) else (.ok, s.writeMotor p v) := by
  unfold State.askMotor
  rw [State.energizingRuling_eq]
  simp only [decide_eq_true_eq]
  split <;> simp_all

/-! ### The examination of an incoming (R112 to R115) -/

/-- From `s` to `t` at most the burst queue, the changeover record of screen `c` and the ports' records differ. -/
structure State.Examines (c : Screen) (s t : State) : Prop where
  mu : t.mu = s.mu
  lc : t.lc = { s.lc with burstQueue := t.lc.burstQueue }
  lu : t.lu = s.lu
  su : t.su = { s.su with screens := t.su.screens }
  hu : t.hu = s.hu
  fu : t.fu = s.fu
  pu : t.pu = { s.pu with ports := t.pu.ports }
  pins : t.pins = s.pins
  pending : t.pending = s.pending
  screen : t.screen c = { s.screen c with changeover := (t.screen c).changeover }
  others : ∀ d, d ≠ c → t.screen d = s.screen d

namespace State.Examines

variable {c : Screen} {s t u : State}

theorem refl (c : Screen) (s : State) : s.Examines c s :=
  ⟨rfl, rfl, rfl, rfl, rfl, rfl, rfl, rfl, rfl, rfl, fun _ _ => rfl⟩

theorem trans (a : s.Examines c t) (b : t.Examines c u) : s.Examines c u where
  mu := b.mu.trans a.mu
  lc := by have h := b.lc; rw [a.lc] at h; exact h
  lu := b.lu.trans a.lu
  su := by have h := b.su; rw [a.su] at h; exact h
  hu := b.hu.trans a.hu
  fu := b.fu.trans a.fu
  pu := by have h := b.pu; rw [a.pu] at h; exact h
  pins := b.pins.trans a.pins
  pending := b.pending.trans a.pending
  screen := by have h := b.screen; rw [a.screen] at h; exact h
  others d hd := (b.others d hd).trans (a.others d hd)

end State.Examines

theorem State.examines_raise (c : Screen) (n : Notice) : s.Examines c (s.raise n) :=
  ⟨rfl, rfl, rfl, rfl, rfl, rfl, rfl, rfl, rfl, rfl, fun _ _ => rfl⟩

theorem State.examines_setQueue (c : Screen) (q : List Burst) : s.Examines c (s.setQueue q) :=
  ⟨rfl, rfl, rfl, rfl, rfl, rfl, rfl, rfl, rfl, rfl, fun _ _ => rfl⟩

theorem State.examines_onChangeover (c : Screen) (f : Changeover → Changeover) :
    s.Examines c (s.onChangeover c f) :=
  ⟨rfl, rfl, rfl, rfl, rfl, rfl, rfl, rfl, rfl, by simp, fun d hd => by simp [Ne.symm hd]⟩

theorem State.examines_requestBurst (c : Screen) (p : Projector) : s.Examines c (s.requestBurst c p) := by
  unfold State.requestBurst State.askBurst
  cases s.burstRuling c
  case ok => exact (s.examines_setQueue c _).trans (State.examines_onChangeover _ c _)
  all_goals exact .refl c s

theorem State.examines_withdrawBurst (c : Screen) : s.Examines c (s.withdrawBurst c) := by
  unfold State.withdrawBurst State.askWithdraw
  by_cases h : s.lc.burstQueue.any (Burst.isOf c) = true
  · simp only [h, if_true]
    exact ((s.examines_setQueue c _).trans (State.examines_onChangeover _ c _)).trans (State.examines_raise _ c _)
  · simp only [h]
    exact .refl c s

theorem State.examines_requestIfReady (c : Screen) (inc : Option Projector) :
    s.Examines c (s.requestIfReady c inc) := by
  unfold State.requestIfReady
  split
  · split
    · exact s.examines_requestBurst ..
    · exact .refl c s
  · exact .refl c s

theorem State.examines_examine (c : Screen) : s.Examines c (s.examine c) := by
  have h := s.examines_onChangeover c (fun x => { x with incoming := s.incomingOf c })
  simp only [State.examine]
  split
  · exact h.trans (State.examines_requestIfReady ..)
  · split
    · exact h
    · exact h.trans (State.examines_withdrawBurst ..)
  all_goals exact .refl c s

section

variable (c : Screen)

@[simp] theorem State.examine_mu : (s.examine c).mu = s.mu := (s.examines_examine c).mu
@[simp] theorem State.examine_lu : (s.examine c).lu = s.lu := (s.examines_examine c).lu
@[simp] theorem State.examine_hu : (s.examine c).hu = s.hu := (s.examines_examine c).hu
@[simp] theorem State.examine_fu : (s.examine c).fu = s.fu := (s.examines_examine c).fu
@[simp] theorem State.examine_pins : (s.examine c).pins = s.pins := (s.examines_examine c).pins
@[simp] theorem State.examine_pending : (s.examine c).pending = s.pending := (s.examines_examine c).pending
@[simp] theorem State.examine_stations : (s.examine c).lc.stations = s.lc.stations := by
  rw [(s.examines_examine c).lc]
@[simp] theorem State.examine_lcTrip : (s.examine c).lc.tripInForce = s.lc.tripInForce := by
  rw [(s.examines_examine c).lc]
@[simp] theorem State.examine_sending : (s.examine c).lc.sending = s.lc.sending := by
  rw [(s.examines_examine c).lc]
@[simp] theorem State.examine_window : (s.examine c).lc.window = s.lc.window := by
  rw [(s.examines_examine c).lc]
@[simp] theorem State.examine_watches : (s.examine c).lc.watches = s.lc.watches := by
  rw [(s.examines_examine c).lc]
@[simp] theorem State.examine_roles : (s.examine c).su.roles = s.su.roles := by rw [(s.examines_examine c).su]
@[simp] theorem State.examine_marks : (s.examine c).su.marks = s.su.marks := by rw [(s.examines_examine c).su]
@[simp] theorem State.examine_cues : (s.examine c).su.cues = s.su.cues := by rw [(s.examines_examine c).su]
@[simp] theorem State.examine_free : (s.examine c).su.free = s.su.free := by rw [(s.examines_examine c).su]
@[simp] theorem State.examine_suTrip : (s.examine c).su.tripInForce = s.su.tripInForce := by
  rw [(s.examines_examine c).su]
@[simp] theorem State.examine_margin : (s.examine c).su.margin = s.su.margin := by rw [(s.examines_examine c).su]
@[simp] theorem State.examine_answers : (s.examine c).pu.answers = s.pu.answers := by
  rw [(s.examines_examine c).pu]
@[simp] theorem State.examine_passed : (s.examine c).pu.passed = s.pu.passed := by
  rw [(s.examines_examine c).pu]
@[simp] theorem State.examine_routes : (s.examine c).pu.routes = s.pu.routes := by
  rw [(s.examines_examine c).pu]
@[simp] theorem State.examine_motion (q : Projector) : (s.examine c).motion q = s.motion q := by
  simp [State.motion]
@[simp] theorem State.examine_lamp (q : Projector) : (s.examine c).lamp q = s.lamp q := by simp [State.lamp]
@[simp] theorem State.examine_station (q : Projector) : (s.examine c).station q = s.station q := by
  simp [State.station]
@[simp] theorem State.examine_watch (d : Screen) : (s.examine c).watch d = s.watch d := by simp [State.watch]
@[simp] theorem State.examine_role (q : Projector) : (s.examine c).role q = s.role q := by simp [State.role]
@[simp] theorem State.examine_mark (q : Projector) : (s.examine c).mark q = s.mark q := by simp [State.mark]
@[simp] theorem State.examine_cue (x : CueIx) : (s.examine c).cue x = s.cue x := by simp [State.cue]
@[simp] theorem State.examine_channel (ch : Channel) : (s.examine c).channel ch = s.channel ch := by
  simp [State.channel]
@[simp] theorem State.examine_shutter (k : Shutter) : (s.examine c).shutter k = s.shutter k := by
  simp [State.shutter]
@[simp] theorem State.examine_route (k : Notice) : (s.examine c).route k = s.route k := by simp [State.route]
@[simp] theorem State.examine_reels (d : Screen) : ((s.examine c).screen d).reels = (s.screen d).reels := by
  by_cases h : d = c
  · subst h; rw [(s.examines_examine d).screen]
  · rw [(s.examines_examine c).others d h]
@[simp] theorem State.examine_reel (d : Screen) (r : ReelIx) : (s.examine c).reel d r = s.reel d r := by
  simp [State.reel]

/-- Only the changeover record of the examined screen can change. -/
theorem State.examine_screen (d : Screen) : (s.examine c).screen d =
    { s.screen d with changeover := ((s.examine c).screen d).changeover } := by
  by_cases h : d = c
  · subst h; exact (s.examines_examine d).screen
  · rw [(s.examines_examine c).others d h]

theorem State.examine_screen_ne {d : Screen} (h : d ≠ c) : (s.examine c).screen d = s.screen d :=
  (s.examines_examine c).others d h

/-- A changeover that waits for nothing is not examined (R113). -/
theorem State.examine_of_not_examined (h : (s.screen c).changeover.state.examined = false) : s.examine c = s := by
  simp only [State.examine]
  split <;> simp_all [ChangeoverState.examined]

end

/-! ### A role moved by a change of speed (R93) -/

/-- The role a speed change leaves projector `p` in. -/
def Role.afterSpeed (r : Role) (v : Speed) : Role :=
  match r, v with
  | .starting, .atSpeed => .standby
  | .standby, .offSpeed | .standby, .stopped => .starting
  | r, _ => r

section

variable (p : Projector)

/-! ### The douser asked for a burning lamp (R93) -/

theorem State.openDouserIf_eq (b : Bool) : s.openDouserIf p b =
    if b = true ∧ s.lc.tripInForce = false then s.onDesired p (fun d => { d with douser := .opened }) else s := by
  unfold State.openDouserIf
  rw [State.askDouser_eq]
  cases b <;> cases h : s.lc.tripInForce <;> simp

end

end Sys2Proof.Machine
end

section
/-! PROOF. What the shared operations do to the counters, the lamps and the house lights: no counter rises, a counter
whose reel goes is 0, and the lamps' and the full lights' laws are kept (spec/01 R6, spec/03 R48 to R62, spec/07 R136). -/

namespace Sys2Proof.Machine

/-- A lamp record that may stand on projector `p`: the feed law, and a hold timer only while BURNING with the station
not PRESENT. -/
def State.lampFits (s : State) (p : Projector) (l : Lamp) : Prop :=
  l.feedLaw ∧ (l.holdTimer.isSome = true → l.state = .burning ∧ (s.station p).presence ≠ .present)

/-- From `s` to `t` no counter rises, a projector that gives up its reel has its counter at 0, and the laws of the lamps
and of the full lights are kept. -/
structure State.Film (s t : State) : Prop where
  counter : ∀ p, (t.motion p).framesRemaining ≤ (s.motion p).framesRemaining
  reels : ∀ p, s.holdsReel p → t.holdsReel p ∨ (t.motion p).framesRemaining = 0
  lamps : s.lampLaw → t.lampLaw
  full : s.fullLaw → t.fullLaw

namespace State.Film

theorem refl (s : State) : s.Film s := ⟨fun _ => le_rfl, fun _ => .inl, id, id⟩

theorem trans {s t u : State} (a : s.Film t) (b : t.Film u) : s.Film u where
  counter p := (b.counter p).trans (a.counter p)
  reels p h := by
    obtain held | zero := a.reels p h
    · exact b.reels p held
    · exact .inr (Nat.le_zero.mp (zero ▸ b.counter p))
  lamps := b.lamps ∘ a.lamps
  full := b.full ∘ a.full

/-- A step of a chain of operations. -/
theorem andThen {s t : State} (a : s.Film t) {f : State → State} (h : ∀ u : State, u.Film (f u)) : s.Film (f t) :=
  a.trans (h t)

/-- A counter that stands at 0 stays there. -/
theorem zero {s t : State} (a : s.Film t) {p : Projector} (h : (s.motion p).framesRemaining = 0) :
    (t.motion p).framesRemaining = 0 := Nat.le_zero.mp (h ▸ a.counter p)

/-- The law of the counters is kept where no counter exceeds its length. -/
theorem counterFollowsReel {s t : State} (a : s.Film t) (h : s.counterFollowsReel) : t.counterFollowsReel := by
  intro p free
  by_cases held : s.holdsReel p
  · exact (a.reels p held).resolve_left free
  · exact a.zero (h p held)

/-- Where the motion records, the reel tables, the lamps, presence and the channels stay, so does all of this. -/
theorem of_eq {s t : State} (mu : t.mu = s.mu) (reels : ∀ c, (t.screen c).reels = (s.screen c).reels)
    (lamp : ∀ p, t.lamp p = s.lamp p) (presence : ∀ p, (t.station p).presence = (s.station p).presence)
    (channel : ∀ c, t.channel c = s.channel c) : s.Film t where
  counter p := by simp [State.motion, mu]
  reels p h := .inl (by simpa [State.holdsReel, State.reel, reels] using h)
  lamps h p := by simpa [lamp, presence] using h p
  full h c := by simpa [channel] using h c

end State.Film

variable (s : State)

/-! ### Updates of single records -/

theorem State.film_raise (n : Notice) : s.Film (s.raise n) := { State.Film.refl s with }
theorem State.film_onCue (x : CueIx) (f : Cue → Cue) : s.Film (s.onCue x f) := { State.Film.refl s with }
theorem State.film_setMark (p : Projector) (m : Option Nat) : s.Film (s.setMark p m) := { State.Film.refl s with }
theorem State.film_setRole (p : Projector) (r : Role) : s.Film (s.setRole p r) := { State.Film.refl s with }
theorem State.film_setQueue (q : List Burst) : s.Film (s.setQueue q) := { State.Film.refl s with }
theorem State.film_setWatch (c : Screen) (w : Watch) : s.Film (s.setWatch c w) := { State.Film.refl s with }
theorem State.film_setWindow (w : Window) : s.Film (s.setWindow w) := { State.Film.refl s with }
theorem State.film_examine (c : Screen) : s.Film (s.examine c) :=
  .of_eq (by simp) (by simp) (by simp) (by simp) (by simp)

theorem State.film_onScreen (c : Screen) (f : ScreenRecord → ScreenRecord)
    (h : (f (s.screen c)).reels = (s.screen c).reels) : s.Film (s.onScreen c f) :=
  .of_eq rfl (fun d => by by_cases e : c = d <;> simp_all) (by simp) (by simp) (by simp)

theorem State.film_onChangeover (c : Screen) (f : Changeover → Changeover) : s.Film (s.onChangeover c f) :=
  s.film_onScreen c _ rfl

theorem State.film_onDesired (p : Projector) (f : Desired → Desired) : s.Film (s.onDesired p f) :=
  .of_eq rfl (by simp) (by simp) (fun q => by by_cases e : p = q <;> simp_all) (by simp)

theorem State.film_onMotion (p : Projector) (f : Motion → Motion)
    (h : (f (s.motion p)).framesRemaining ≤ (s.motion p).framesRemaining) : s.Film (s.onMotion p f) where
  counter q := by by_cases e : p = q <;> simp_all
  reels _ := .inl
  lamps := id
  full := id

theorem State.film_onLamp (p : Projector) (f : Lamp → Lamp)
    (h : s.lampLaw → s.lampFits p (f (s.lamp p))) : s.Film (s.onLamp p f) where
  counter _ := le_rfl
  reels _ := .inl
  lamps law q := by
    by_cases e : p = q
    · subst e; simpa [State.lampFits] using h law
    · simpa [e] using law q
  full := id

theorem State.film_onChannel (c : Channel) (f : HouseChannel → HouseChannel)
    (h : (s.channel c).fullLaw → (f (s.channel c)).fullLaw) : s.Film (s.onChannel c f) where
  counter _ := le_rfl
  reels _ := .inl
  lamps := id
  full law d := by
    by_cases e : c = d
    · subst e; simpa using h (law c)
    · simpa [e] using law d

/-! ### Requests, roles and the gate -/

theorem State.film_ite {c : Prop} [Decidable c] {t u : State} (h : c → s.Film t) (k : ¬c → s.Film u) :
    s.Film (if c then t else u) := by
  split
  · exact h ‹_›
  · exact k ‹_›

theorem State.film_projectorAttention (p : Projector) (c : MotionCause) : s.Film (s.projectorAttention p c) :=
  (s.film_onMotion p (fun m => { m with cause := c }) le_rfl).andThen (fun u => u.film_raise _)

theorem State.film_lampAttention (p : Projector) (c : LampCause) : s.Film (s.lampAttention p c) :=
  (s.film_onLamp p (fun l => { l with cause := c }) (fun law => law p)).andThen (fun u => u.film_raise _)

theorem State.film_askDouser (p : Projector) (v : Opening) : s.Film (s.askDouser p v).2 := by
  rw [State.askDouser_eq]
  split
  · exact .refl s
  · exact s.film_onDesired p (fun d => { d with douser := v })

theorem State.film_askBlade (p : Projector) (v : Opening) : s.Film (s.askBlade p v).2 := by
  unfold State.askBlade
  split
  · exact s.film_onDesired p (fun d => { d with blade := v })
  · exact .refl s

theorem State.film_closeDouser (p : Projector) : s.Film (s.closeDouser p) :=
  s.film_onDesired p (fun d => { d with douser := .closed })
theorem State.film_closeBlade (p : Projector) : s.Film (s.closeBlade p) :=
  s.film_onDesired p (fun d => { d with blade := .closed })
theorem State.film_openDouserIf (p : Projector) (b : Bool) : s.Film (s.openDouserIf p b) := by
  unfold State.openDouserIf
  exact s.film_ite (fun _ => s.film_askDouser ..) (fun _ => .refl s)

theorem State.film_becomeStandby (p : Projector) : s.Film (s.becomeStandby p) :=
  ((s.film_setRole p _).andThen (fun u => u.film_openDouserIf ..)).andThen (fun u => u.film_examine _)

theorem State.film_onSpeed (p : Projector) (v : Speed) : s.Film (s.onSpeed p v) := by
  unfold State.onSpeed
  split
  · exact s.film_becomeStandby p
  · exact (s.film_setRole p _).andThen (fun u => u.film_examine _)
  · exact (s.film_setRole p _).andThen (fun u => u.film_examine _)
  · exact .refl s

theorem State.film_moveMotion (p : Projector) (m : Motion)
    (h : m.framesRemaining ≤ (s.motion p).framesRemaining) : s.Film (s.moveMotion p m) := by
  have moved := s.film_onMotion p (fun _ => m) h
  simp only [State.moveMotion]
  exact s.film_ite (fun _ => moved) (fun _ => moved.andThen (fun u => u.film_onSpeed ..))

theorem State.film_gateFollows (p : Projector) (v : MotorCommand) : s.Film (s.gateFollows p v) := by
  cases v
  · exact s.film_moveMotion p _ le_rfl
  · exact s.film_moveMotion p _ le_rfl

theorem State.film_writeMotor (p : Projector) (v : MotorCommand) : s.Film (s.writeMotor p v) := by
  unfold State.writeMotor
  exact s.film_ite (fun _ => .refl s) (fun _ => (s.film_onDesired p _).andThen (fun u => u.film_gateFollows ..))

theorem State.film_askMotor (p : Projector) (v : MotorCommand) : s.Film (s.askMotor p v).2 := by
  rw [State.askMotor_eq]
  split
  · exact .refl s
  · exact s.film_writeMotor p v

theorem State.film_stopMotor (p : Projector) : s.Film (s.stopMotor p) := s.film_writeMotor p .stop

theorem State.film_clearCounter (p : Projector) : s.Film (s.clearCounter p) := s.film_onMotion p _ (Nat.zero_le _)

theorem State.film_setFrameWatch (p : Projector) (w : Option Nat) : s.Film (s.setFrameWatch p w) :=
  s.film_onMotion p _ le_rfl

theorem State.film_takePulse (p : Projector) : s.Film (s.takePulse p) := by
  have counted := s.film_onMotion p (fun _ => (s.motion p).count.time) (by
    rw [(s.motion p).count.time_counter.1, (s.motion p).count_counter.1]
    exact Nat.sub_le ..)
  simp only [State.takePulse]
  exact s.film_ite (fun _ => counted.andThen (fun u => u.film_projectorAttention ..)) (fun _ => counted)

/-! ### Reels moved (R82, R94, R95) -/

/-- A reel found for projector `p` in a state stands so, on the projector's side. -/
theorem State.isAt_of_reelOf {p : Projector} {st : ReelState} {r : ReelIx} (h : s.reelOf p st = some r) :
    (s.reel (screenOf p) r).isAt st (sideOf p) = true := by
  simpa using List.find?_some h

/-- An entry moved to another state keeps its side. -/
theorem ReelEntry.isAt_withState (e : ReelEntry) (old new st : ReelState) (x y : Side)
    (h : e.isAt old x = true) : (e.withState new).isAt st y = (decide (st = new) && decide (x = y)) := by
  cases e with
  | empty => simp [ReelEntry.isAt] at h
  | reel now len z =>
    simp only [ReelEntry.isAt, Bool.and_eq_true, decide_eq_true_eq] at h
    simp [ReelEntry.withState, ReelEntry.isAt, h.2, eq_comm]

/-- Screen and side name a projector. -/
theorem projector_ext {p q : Projector} (hs : screenOf p = screenOf q) (hd : sideOf p = sideOf q) : p = q := by
  have h : ∀ p q : Projector, screenOf p = screenOf q → sideOf p = sideOf q → p = q := by decide
  exact h p q hs hd

theorem State.reel_setReel (c d : Screen) (r k : ReelIx) (e : ReelEntry) :
    (s.setReel c r e).reel d k = if c = d ∧ r = k then e else s.reel d k := by
  by_cases hc : c = d
  · subst hc
    simp only [State.reel, State.screen_setReel, if_true, true_and]
    exact upd_get ..
  · simp [State.reel, hc]

/-- A reel moved: the other projectors hold what they held, and this one too where the reel goes on to RUNNING. -/
theorem State.holdsReel_moveReel (p q : Projector) (old new : ReelState) (hq : q ≠ p ∨ new = .running)
    (h : s.holdsReel q) : (s.moveReel p old new).holdsReel q := by
  unfold State.moveReel
  split
  · rename_i r hr
    have at_old := s.isAt_of_reelOf hr
    obtain ⟨k, hk⟩ := h
    refine ⟨k, ?_⟩
    simp only [State.reel_setReel]
    split
    · rename_i same
      obtain ⟨hs, rfl⟩ := same
      rw [← hs] at hk
      by_cases side : sideOf p = sideOf q
      · have : new = .running := hq.resolve_left (fun ne => ne (projector_ext hs side).symm)
        simp [ReelEntry.isAt_withState _ _ _ _ _ _ at_old, this, side]
      · exfalso
        cases e : s.reel (screenOf p) r with
        | empty => simp [e, ReelEntry.isAt] at at_old
        | reel x len y =>
          simp only [e, ReelEntry.isAt, Bool.and_eq_true, decide_eq_true_eq] at at_old hk
          obtain ⟨-, rfl⟩ := at_old
          rcases hk with ⟨-, h⟩ | ⟨-, h⟩ <;> exact side h
    · exact hk
  · exact h

theorem State.moveReel_motion (p q : Projector) (old new : ReelState) :
    (s.moveReel p old new).motion q = s.motion q := by
  unfold State.moveReel
  split <;> rfl

/-- A reel moved away from a projector whose counter is 0, or on to RUNNING. -/
theorem State.film_moveReel (p : Projector) (old new : ReelState)
    (h : new = .running ∨ (s.motion p).framesRemaining = 0) : s.Film (s.moveReel p old new) where
  counter q := by rw [State.moveReel_motion]
  reels q held := by
    by_cases hq : q = p ∧ new ≠ .running
    · obtain ⟨rfl, ne⟩ := hq
      exact .inr (by rw [State.moveReel_motion]; exact h.resolve_left ne)
    · exact .inl (s.holdsReel_moveReel p q old new (by tauto) held)
  lamps law := by
    unfold State.moveReel
    split <;> exact law
  full law := by
    unfold State.moveReel
    split <;> exact law

/-- A chain of operations after which the counter of the one projector whose reel is given up is 0. -/
theorem State.Film.of_moveReel {p : Projector} {old new : ReelState} {t : State}
    (h : (s.moveReel p old new).Film t) (zero : (t.motion p).framesRemaining = 0) : s.Film t where
  counter q := by simpa only [State.moveReel_motion] using h.counter q
  reels q held := by
    by_cases hq : q = p
    · exact .inr (hq ▸ zero)
    · exact h.reels q (s.holdsReel_moveReel p q old new (.inl hq) held)
  lamps law := h.lamps (by unfold State.moveReel; split <;> exact law)
  full law := h.full (by unfold State.moveReel; split <;> exact law)

end Sys2Proof.Machine
end

section
/-! PROOF. The lamps, the cues and the changeover keep the counters falling and the laws of the lamps and of the full
lights (spec/01 R6, spec/03 R48 to R62, spec/07 R136). -/

namespace Sys2Proof.Machine

variable (s : State)

/-! ### Lamps (R45 to R62) -/

theorem State.film_onLampState (p : Projector) (v : LampState) : s.Film (s.onLampState p v) :=
  (s.film_openDouserIf ..).andThen (fun u => u.film_examine _)

theorem State.film_handLamp (p : Projector) (l : Lamp) (h : s.lampLaw → s.lampFits p l) : s.Film (s.handLamp p l) :=
  (s.film_onLamp p (fun _ => l) h).andThen (fun u => u.film_onLampState ..)

/-- A lamp whose feed is stopped keeps the feed law, whatever its state, where its strike timer is stopped too. -/
theorem Lamp.feedLaw_setFeed_zero {l l' : Lamp} (h : l.feedLaw) (rate : l'.feedRate = 0) (feed : l'.feedTimer = none)
    (carbon : l'.carbon = l.carbon) (strike : l'.strikeTimer = none) : l'.feedLaw := by
  obtain ⟨-, -, -, -, bound, -⟩ := h
  simp [Lamp.feedLaw, rate, feed, carbon, strike, bound]

theorem Lamp.feedLaw_putOut {l : Lamp} (h : l.feedLaw) : l.putOut.feedLaw :=
  Lamp.feedLaw_setFeed_zero h rfl rfl rfl rfl

theorem State.lampFits_putOut {p : Projector} {l : Lamp} (h : l.feedLaw) : s.lampFits p l.putOut :=
  ⟨Lamp.feedLaw_putOut h, fun held => nomatch held⟩

/-- In a state of the lamp law a strike timer runs only in a STRIKING lamp, which has no feed and no hold timer. -/
theorem State.lampLaw_striking {s : State} (law : s.lampLaw) {p : Projector} (h : (s.lamp p).state ≠ .burning) :
    (s.lamp p).feedRate = 0 ∧ (s.lamp p).feedTimer = none ∧ (s.lamp p).holdTimer = none := by
  obtain ⟨⟨-, off, -, timer, -, -⟩, hold⟩ := law p
  refine ⟨off h, ?_, ?_⟩
  · simpa [off h] using timer
  · by_contra running
    exact h (hold (Option.isSome_iff_ne_none.mpr running)).1

theorem State.lampLaw_burning {s : State} (law : s.lampLaw) {p : Projector} (h : (s.lamp p).state ≠ .striking) :
    (s.lamp p).strikeTimer = none := by
  obtain ⟨⟨-, -, -, -, -, strike⟩, -⟩ := law p
  by_contra running
  exact h (strike (Option.isSome_iff_ne_none.mpr running))

/-- The arc asked OFF or ON, the lamp record replaced and its notice raised. -/
theorem State.film_handLamp_onDesired (p : Projector) (f : Desired → Desired) (l : Lamp) (c : LampCause)
    (h : s.lampLaw → s.lampFits p l) : s.Film (((s.onDesired p f).handLamp p l).lampAttention p c) := by
  have presence : ∀ q, ((s.onDesired p f).station q).presence = (s.station q).presence := by
    intro q
    by_cases e : p = q <;> simp [e]
  refine ((s.film_onDesired p f).trans (State.film_handLamp _ p l fun law => ?_)).andThen
    (fun u => u.film_lampAttention ..)
  have law' : s.lampLaw := fun q => by
    have fits := law q
    rw [presence] at fits
    exact fits
  simpa [State.lampFits, presence] using h law'

theorem State.film_extinguish (p : Projector) : s.Film (s.extinguish p) := by
  unfold State.extinguish
  exact s.film_ite (fun _ => .refl s)
    (fun _ => s.film_handLamp_onDesired p _ _ _ (fun law => s.lampFits_putOut (law p).1))

theorem State.film_lampLineReset (p : Projector) : s.Film (s.lampLineReset p) :=
  (s.film_handLamp p _ (fun law => s.lampFits_putOut (law p).1)).andThen (fun u => u.film_lampAttention ..)

theorem State.film_lampTrip (p : Projector) : s.Film (s.lampTrip p) := by
  unfold State.lampTrip
  exact s.film_ite (fun _ => .refl s) (fun _ => s.film_handLamp p _ (fun law => s.lampFits_putOut (law p).1))

/-- A lamp that is neither STRIKING nor BURNING is struck. -/
theorem State.lampFits_strike {s : State} {p : Projector} (law : s.lampLaw) (h : (s.lamp p).state ≠ .burning) :
    s.lampFits p (s.lamp p).strike := by
  obtain ⟨rate, feed, hold⟩ := State.lampLaw_striking law h
  obtain ⟨⟨-, -, -, -, bound, -⟩, -⟩ := law p
  simp [State.lampFits, Lamp.feedLaw, Lamp.strike, rate, feed, hold, bound]

theorem State.film_strike (p : Projector) : s.Film (s.strike p).2 := by
  unfold State.strike
  split
  · rename_i taken
    have notBurning : (s.lamp p).state ≠ .burning := by
      intro burning
      unfold State.strikeRuling at taken
      split at taken <;> simp_all
    rw [State.askArc_eq]
    split
    · rename_i e
      split at e
      · simp at e
      · simp only [Prod.mk.injEq, true_and] at e
        subst e
        exact s.film_handLamp_onDesired p _ _ _ (fun law => State.lampFits_strike law notBurning)
    · exact .refl s
  · exact .refl s

/-- Regulation keeps the feed law of a BURNING lamp. -/
theorem Lamp.feedLaw_regulate {l : Lamp} (volts amps : Nat) (burning : l.state = .burning)
    (bound : l.carbon ≤ 12000) (strike : l.strikeTimer = none) : (l.regulate volts amps).feedLaw := by
  have rate : l.regulated volts amps ≤ l.fmax ∧ (l.carbon = 0 → l.regulated volts amps = 0) := by
    unfold Lamp.regulated
    split
    · exact ⟨Nat.zero_le _, fun _ => rfl⟩
    · exact ⟨Nat.min_le_right .., fun h => absurd h ‹_›⟩
  have timer : (setFeedTimer l.feedTimer (l.regulated volts amps)).isSome = true ↔ 0 < l.regulated volts amps := by
    unfold setFeedTimer
    split
    · simp_all
    · cases l.feedTimer <;> simp <;> omega
  exact ⟨rate.1, fun h => absurd burning h, rate.2, timer, bound, by simp [Lamp.regulate, Lamp.setFeed, strike]⟩

theorem State.film_sampleStriking (p : Projector) (v i : Nat) (h : (s.lamp p).state = .striking) :
    s.Film (s.sampleStriking p v i) := by
  simp only [State.sampleStriking]
  refine s.film_ite (fun _ => s.film_onLamp p (fun l => { l with strikeCount := 0 }) (fun law => law p)) (fun _ => ?_)
  refine s.film_ite (fun _ => s.film_onLamp p (fun l => { l with strikeCount := l.strikeCount + 1 })
    (fun law => law p)) (fun _ => ?_)
  refine (s.film_handLamp p _ (fun law => ?_)).andThen (fun u => u.film_lampAttention ..)
  obtain ⟨-, -, hold⟩ := State.lampLaw_striking law (p := p) (by simp [h])
  obtain ⟨⟨-, -, -, -, bound, -⟩, -⟩ := law p
  exact ⟨Lamp.feedLaw_regulate v i rfl bound rfl, by simp [Lamp.regulate, Lamp.setFeed, hold]⟩

/-- A sample of a BURNING lamp: a sample is handed on for a PRESENT station alone, where no hold timer runs. -/
theorem State.film_sampleBurning (p : Projector) (v i : Nat) (h : (s.lamp p).state = .burning)
    (present : (s.station p).presence = .present) : s.Film (s.sampleBurning p v i) := by
  have noHold : s.lampLaw → (s.lamp p).holdTimer = none := fun law => by
    by_contra running
    exact ((law p).2 (Option.isSome_iff_ne_none.mpr running)).2 present
  have regulated (n : Nat) : s.lampLaw →
      s.lampFits p (({ s.lamp p with outCount := n } : Lamp).regulate v i) := fun law => by
    obtain ⟨⟨-, -, -, -, bound, -⟩, -⟩ := law p
    exact ⟨Lamp.feedLaw_regulate v i h bound (State.lampLaw_burning law (by simp [h])),
      by simp [Lamp.regulate, Lamp.setFeed, noHold law]⟩
  simp only [State.sampleBurning]
  refine s.film_ite (fun _ => s.film_onLamp p _ (regulated 0)) (fun _ => ?_)
  refine s.film_ite (fun _ => s.film_onLamp p _ (regulated _)) (fun _ => ?_)
  refine s.film_handLamp_onDesired p _ _ _ (fun law => ⟨?_, ?_⟩)
  · exact Lamp.feedLaw_setFeed_zero (law p).1 rfl rfl rfl (State.lampLaw_burning law (by simp [h]))
  · simp [Lamp.setFeed, noHold law]

theorem State.film_sample (p : Projector) (v i : Nat) (present : (s.station p).presence = .present) :
    s.Film (s.sample p v i) := by
  unfold State.sample
  split
  · exact s.film_sampleStriking p v i ‹_›
  · exact s.film_sampleBurning p v i ‹_› present
  all_goals exact .refl s

/-! ### Steps of the feed and the lamp's timers (R48, R56 to R60) -/

/-- The lamp record a feed step leaves: one step of carbon taken, the trim notice first and the exhaustion second
(R56 to R58). -/
def Lamp.afterFeed (l : Lamp) (x : FeedTimer) : Lamp :=
  { l with
    carbon := l.carbon - 1, stepPulse := 1000
    trimNoticed := if l.carbon - 1 ≤ l.trim ∧ l.trimNoticed = false then true else l.trimNoticed
    feedRate := if l.carbon = 1 then 0 else l.feedRate
    feedTimer := if l.carbon = 1 then none else some ⟨x.reload, ⟨x.reload, 0⟩⟩
    fault := if l.carbon = 1 then .carbonExhausted else l.fault
    cause := if l.carbon = 1 then .carbonExhausted
      else if l.carbon - 1 ≤ l.trim ∧ l.trimNoticed = false then .trim else l.cause }

theorem State.feedStep_of_stopped {p : Projector} (h : (s.lamp p).feedTimer = none) : s.feedStep p = s := by
  simp [State.feedStep, h]

/-- A feed step of a running feed timer, by its two notices (R56 to R58). -/
theorem State.feedStep_of_running {p : Projector} {x : FeedTimer} (h : (s.lamp p).feedTimer = some x) :
    s.feedStep p = ((s.onLamp p (fun l => l.stepFeed x)).trimTest p).exhaustIf p (decide ((s.lamp p).carbon = 1)) := by
  simp [State.feedStep, h]

theorem State.lamp_trimTest (p : Projector) : (s.trimTest p).lamp p =
    if (s.lamp p).carbon ≤ (s.lamp p).trim ∧ (s.lamp p).trimNoticed = false then
      { s.lamp p with trimNoticed := true, cause := .trim }
    else s.lamp p := by
  unfold State.trimTest State.lampAttention
  simp only [Bool.and_eq_true, decide_eq_true_eq, Bool.not_eq_true']
  split <;> simp

theorem State.lamp_exhaustIf (p : Projector) (spent : Bool) : (s.exhaustIf p spent).lamp p =
    if spent = true then { s.lamp p with
      feedRate := 0, feedTimer := none, fault := .carbonExhausted, cause := .carbonExhausted } else s.lamp p := by
  cases spent <;> simp [State.exhaustIf, State.exhaust, State.lampAttention, Lamp.setFeed, setFeedTimer]

theorem State.lamp_feedStep {p : Projector} {x : FeedTimer} (h : (s.lamp p).feedTimer = some x) :
    (s.feedStep p).lamp p = (s.lamp p).afterFeed x := by
  rw [s.feedStep_of_running h, State.lamp_exhaustIf, State.lamp_trimTest]
  simp only [State.lamp_onLamp, if_true, Lamp.stepFeed, Lamp.afterFeed, decide_eq_true_eq, Timer.start,
    Config.stepPulse]
  split <;> split <;> rfl

/-- A feed step touches the one lamp and raises notices. -/
theorem State.feedStep_keeps (p : Projector) :
    otherLampsKept p s (s.feedStep p) ∧ onlyTouches [.lu, .pu] s (s.feedStep p) := by
  cases h : (s.lamp p).feedTimer with
  | none =>
    rw [s.feedStep_of_stopped h]
    exact ⟨⟨fun _ _ => rfl, rfl⟩, by simp [onlyTouches]⟩
  | some x =>
    rw [s.feedStep_of_running h]
    unfold State.exhaustIf State.trimTest State.exhaust State.lampAttention
    constructor
    · constructor
      · intro q other
        split <;> split <;> simp [Ne.symm other]
      · split <;> split <;> rfl
    · split <;> split <;> simp [onlyTouches]

theorem State.film_feedStep (p : Projector) : s.Film (s.feedStep p) := by
  obtain ⟨⟨others, -⟩, mu, lc, -, su, hu, -⟩ := s.feedStep_keeps p
  have mu : (s.feedStep p).mu = s.mu := mu (by simp)
  have lc : (s.feedStep p).lc = s.lc := lc (by simp)
  have su : (s.feedStep p).su = s.su := su (by simp)
  have hu : (s.feedStep p).hu = s.hu := hu (by simp)
  have station : ∀ q, (s.feedStep p).station q = s.station q := fun q => by simp [State.station, lc]
  refine ⟨fun q => by simp [State.motion, mu], fun q held => .inl ?_, fun law q => ?_, fun law c => ?_⟩
  · simpa [State.holdsReel, State.reel, State.screen, su] using held
  · rw [station]
    by_cases e : q = p
    · subst e
      cases h : (s.lamp q).feedTimer with
      | none => rw [s.feedStep_of_stopped h]; exact law q
      | some x =>
        rw [s.lamp_feedStep h]
        obtain ⟨⟨bound, off, spent, timer, carbon, strike⟩, hold⟩ := law q
        refine ⟨⟨?_, ?_, ?_, ?_, ?_, strike⟩, hold⟩ <;> simp only [Lamp.afterFeed]
        · split <;> omega
        · intro notBurning
          split <;> simp [off notBurning]
        · intro none
          have : (s.lamp q).carbon = 1 ∨ (s.lamp q).carbon = 0 := by omega
          obtain one | zero := this
          · simp [one]
          · simp [zero, spent zero]
        · split
          · simp
          · simpa [h] using timer
        · omega
    · rw [others q e]; exact law q
  · simpa [State.channel, hu] using law c

theorem State.film_strikeFailed (p : Projector) (running : (s.lamp p).strikeTimer.isSome = true) :
    s.Film (s.strikeFailed p) := by
  refine s.film_handLamp_onDesired p _ _ _ (fun law => ?_)
  obtain ⟨⟨-, -, -, -, -, strike⟩, -⟩ := law p
  have striking : (s.lamp p).state = .striking := strike running
  obtain ⟨rate, feed, hold⟩ := State.lampLaw_striking law (p := p) (by simp [striking])
  exact ⟨Lamp.feedLaw_setFeed_zero (law p).1 rate feed rfl rfl, by simp [hold]⟩

theorem State.film_holdEnded (p : Projector) (running : (s.lamp p).holdTimer.isSome = true) :
    s.Film (s.holdEnded p) := by
  refine s.film_handLamp_onDesired p _ _ _ (fun law => ?_)
  have burning : (s.lamp p).state = .burning := ((law p).2 running).1
  exact ⟨Lamp.feedLaw_setFeed_zero (law p).1 rfl rfl rfl (State.lampLaw_burning law (by simp [burning])),
    fun held => nomatch held⟩

end Sys2Proof.Machine
end

section
/-! PROOF. The cues, the changeover, run-out and withdrawal keep the counters falling and the laws of the lamps and of
the full lights (spec/01 R6, spec/05 R92 to R106, spec/06 R111 to R120). -/

namespace Sys2Proof.Machine

variable (s : State)

/-! ### Withdrawal and run-out (R94, R95) -/

theorem State.film_withdraw (p : Projector) : s.Film (s.withdraw p) := by
  refine State.Film.of_moveReel s (p := p) (old := .loaded) (new := .listed)
    (((((State.film_setRole _ p .idle).andThen (fun u => u.film_stopMotor p)).andThen
      (fun u => u.film_closeDouser p)).andThen (fun u => u.film_clearCounter p)).andThen
      (fun u => u.film_raise _) |>.andThen (fun u => u.film_examine _)) ?_
  simp [State.withdraw, State.clearCounter]

theorem State.film_withdrawIf (p : Projector) (b : Bool) : s.Film (s.withdrawIf p b) := by
  unfold State.withdrawIf
  exact s.film_ite (fun _ => s.film_withdraw p) (fun _ => .refl s)

theorem State.film_showShutter (p : Projector) (v : ShutterState) : s.Film (s.showShutter p v) :=
  (s.film_withdrawIf ..).andThen (fun u => u.film_examine _)

theorem State.film_forgetMark (p : Projector) (v : Presence) : s.Film (s.forgetMark p v) := by
  unfold State.forgetMark
  exact s.film_ite (fun _ => s.film_setMark ..) (fun _ => .refl s)

theorem State.film_showPresence (p : Projector) (v : Presence) : s.Film (s.showPresence p v) :=
  ((s.film_forgetMark ..).andThen (fun u => u.film_withdrawIf ..)).andThen (fun u => u.film_examine _)

theorem State.film_reelDone (p : Projector) (old : ReelState) (h : (s.motion p).framesRemaining = 0) :
    s.Film (s.reelDone p old) :=
  (s.film_moveReel p old .done (.inr h)).andThen (fun u => u.film_setRole ..)

theorem State.film_runOutOnScreen (p : Projector) (h : (s.motion p).framesRemaining = 0) :
    s.Film (s.runOutOnScreen p) := by
  simp only [State.runOutOnScreen]
  refine .trans ?_ (State.film_examine _ _)
  refine .trans ?_ (State.film_raise _ _)
  refine .trans ?_ (State.film_extinguish _ _)
  refine .trans ?_ (State.film_stopMotor _ _)
  refine .trans ?_ (State.film_closeBlade _ _)
  refine .trans ?_ (State.film_closeDouser _ _)
  exact (s.film_reelDone p .running h).trans (State.film_onScreen _ (screenOf p) (ScreenRecord.runDark p) rfl)

theorem State.film_runOutUnseen (p : Projector) (h : (s.motion p).framesRemaining = 0) :
    s.Film (s.runOutUnseen p) :=
  ((((s.film_reelDone p .loaded h).andThen (fun u => u.film_stopMotor p)).andThen
    (fun u => u.film_closeDouser p)).andThen (fun u => u.film_projectorAttention ..)).andThen
    (fun u => u.film_examine _)

theorem State.film_onCounterZero (p : Projector) (h : (s.motion p).framesRemaining = 0) :
    s.Film (s.onCounterZero p) := by
  unfold State.onCounterZero
  split
  · exact .refl s
  · exact ((s.film_reelDone p .running h).andThen (fun u => u.film_stopMotor p)).andThen
      (fun u => u.film_examine _)
  · exact s.film_runOutOnScreen p h
  all_goals exact s.film_runOutUnseen p h

/-! ### The MOTOR action and the actions of cues (R92, R105, R106) -/

theorem State.film_motorAction (p : Projector) : s.Film (s.motorAction p).2 := by
  unfold State.motorAction
  rw [State.askMotor_eq]
  split
  · rename_i u e
    split at e
    · simp at e
    · simp only [Prod.mk.injEq, true_and] at e
      subst e
      refine (((s.film_writeMotor p .run).andThen (fun u => u.film_setRole p .starting)).andThen
        (fun u => u.film_examine (screenOf p))).trans ?_
      unfold State.standbyIf
      exact State.film_ite _ (fun _ => State.film_becomeStandby _ p) (fun _ => .refl _)
  · exact .refl s

theorem State.film_strikeCue (c : Screen) : s.Film (s.strikeCue c).2 := by
  unfold State.strikeCue
  split
  · exact .refl s
  · split
    · exact .refl s
    · rename_i side _
      have h := s.film_strike (projectorOf c side)
      split
      all_goals
        rename_i e
        rw [e] at h
        exact h

theorem State.film_motorCue (c : Screen) : s.Film (s.motorCue c).2 := by
  unfold State.motorCue
  split
  · exact s.film_motorAction _
  · exact s.film_onScreen c (fun r => { r with motorOwed := true }) rfl

theorem State.film_douserCue (c : Screen) (t : DouserTarget) : s.Film (s.douserCue c t).2 := by
  unfold State.douserCue
  split
  · exact .refl s
  · rename_i p v _
    have h := s.film_askDouser p v
    split
    all_goals
      rename_i e
      rw [e] at h
      exact h

/-- A fade is started only on a channel whose override is OFF (R132). -/
theorem State.film_askFade (c : Channel) (t time : Nat) : s.Film (s.askFade c t time).2 := by
  unfold State.askFade
  split
  · exact .refl s
  · rename_i off
    have overridden (d : HouseChannel) (h : d.override = (s.channel c).override) : d.fullLaw :=
      fun on => absurd (h ▸ on) off
    unfold State.fade
    split
    · exact (s.film_onChannel c _ (fun _ => overridden _ rfl)).andThen (fun u => u.film_raise _)
    · exact s.film_onChannel c _ (fun _ => overridden _ rfl)

theorem State.film_houseCue (c : Screen) (level time : Nat) : s.Film (s.houseCue c level time).2 := by
  have h := s.film_askFade c level time
  unfold State.houseCue
  split
  all_goals
    rename_i e
    rw [e] at h
    exact h

theorem State.film_endCue (c : Screen) : s.Film (s.endCue c) :=
  (s.film_onScreen c (fun r => { r with state := .ended, afterTimer := none, motorOwed := false }) rfl).andThen
    (fun u => u.film_raise _)

theorem State.film_requestIfReady (c : Screen) (inc : Option Projector) : s.Film (s.requestIfReady c inc) := by
  have h := s.examines_requestIfReady c inc
  refine .of_eq h.mu (fun d => ?_) (fun p => ?_) (fun p => ?_) (fun ch => ?_)
  · by_cases e : d = c
    · subst e; rw [h.screen]
    · rw [h.others d e]
  · simp [State.lamp, h.lu]
  · simp only [State.station]; rw [h.lc]
  · simp [State.channel, h.hu]

theorem State.film_waitUnlessQueued (c : Screen) : s.Film (s.waitUnlessQueued c) := by
  unfold State.waitUnlessQueued
  exact s.film_ite (fun _ => .refl s) (fun _ => (s.film_raise _).andThen (fun u => u.film_onScreen c _ rfl))

theorem State.film_openChangeover (c : Screen) (x : CueIx) : s.Film (s.openChangeover c x) :=
  ((s.film_onChangeover c _).andThen (fun u => u.film_requestIfReady c (s.incomingOf c))).andThen
    (fun u => u.film_waitUnlessQueued c)

theorem State.film_cueAction (c : Screen) (x : CueIx) : s.Film (s.cueAction c x).2 := by
  unfold State.cueAction
  split
  · exact s.film_strikeCue c
  · exact s.film_motorCue c
  · exact s.film_openChangeover c x
  · exact s.film_douserCue c _
  · exact s.film_houseCue c _ _
  · exact s.film_endCue c

/-! ### Firing (R102 to R104) -/

theorem State.film_dropCueWatch (c : Screen) (x : CueIx) : s.Film (s.dropCueWatch c x) := by
  unfold State.dropCueWatch
  split
  · exact s.film_setFrameWatch ..
  · exact s.film_setFrameWatch ..
  · exact .refl s

theorem State.film_fireCue (c : Screen) (x : CueIx) : s.Film (s.fireCue c x) :=
  ((((s.film_dropCueWatch c x).andThen (fun u => u.film_cueAction c x)).andThen (fun u => u.film_onCue x _)).andThen
    (fun u => u.film_raise _)).andThen (fun u => u.film_onScreen c (ScreenRecord.advance x) rfl)

theorem State.film_holdChange (c : Screen) (x : CueIx) : s.Film (s.holdChange c x) :=
  (s.film_dropCueWatch c x).andThen (fun u => u.film_onScreen c (fun r => { r with changeHeld := true }) rfl)

theorem State.film_evaluate (c : Screen) (x : CueIx) : s.Film (s.evaluate c x).2 := by
  simp only [State.evaluate]
  split
  · exact .refl s
  · exact .refl s
  all_goals
    split
    · exact .refl s
    · split
      · exact .refl s
      · exact s.film_setFrameWatch ..

/-- However many cues fire one after another. -/
theorem State.film_runCues (fuel : Nat) (c : Screen) (s : State) : s.Film (s.runCues fuel c) := by
  induction fuel generalizing s with
  | zero => exact .refl s
  | succ fuel ih =>
    unfold State.runCues
    split
    · exact .refl s
    · split
      · exact .refl s
      · rename_i x _
        have h := s.film_evaluate c x
        split
        · rename_i e; rw [e] at h; exact h
        · rename_i e; rw [e] at h
          split
          · exact h.andThen (fun u => u.film_holdChange ..)
          · exact (h.andThen (fun u => u.film_fireCue ..)).andThen (fun u => ih u)

theorem State.film_takeCue (c : Screen) (x : CueIx) : s.Film (s.takeCue c x) := by
  unfold State.takeCue
  exact s.film_ite (fun _ => s.film_holdChange ..)
    (fun _ => (s.film_fireCue ..).andThen (fun u => State.film_runCues _ _ u))

theorem State.film_onWatchReached (p : Projector) : s.Film (s.onWatchReached p) := by
  simp only [State.onWatchReached]
  refine s.film_ite (fun _ => .refl s) (fun _ => ?_)
  split
  · exact .refl s
  · split
    · exact s.film_takeCue ..
    · exact (s.film_raise _).andThen (fun u => u.film_takeCue ..)
    · exact .refl s
    · exact .refl s

theorem State.film_onMark (p : Projector) : s.Film (s.onMark p) := by
  simp only [State.onMark]
  refine s.film_ite (fun _ => .refl s) (fun _ => ?_)
  split
  · exact .refl s
  · split
    · refine s.film_ite (fun _ => s.film_raise _) (fun _ => ?_)
      exact s.film_ite (fun _ => s.film_takeCue ..) (fun _ => (s.film_raise _).andThen (fun u => u.film_takeCue ..))
    all_goals exact .refl s

theorem State.film_onMarkCount (p : Projector) (k : Nat) : s.Film (s.onMarkCount p k) := by
  unfold State.onMarkCount
  split
  · exact s.film_setMark ..
  · exact s.film_ite (fun _ => .refl s) (fun _ => (s.film_setMark ..).andThen (fun u => u.film_onMark p))

/-! ### The changeover sent, undone, settled, aborted (R116 to R123) -/

theorem State.film_toTail (p : Projector) : s.Film (s.toTail p) :=
  (((s.film_setRole p .tail).andThen (fun u => u.film_setFrameWatch p _)).andThen
    (fun u => u.film_closeDouser p)).andThen (fun u => u.film_extinguish p)

theorem State.film_reevaluate (c : Screen) : s.Film (s.reevaluate c) := by
  unfold State.reevaluate
  split
  · exact .refl s
  · split
    · exact State.film_runCues _ _ s
    · exact State.film_runCues _ _ s
    · exact .refl s
    · exact .refl s

theorem State.film_takeOff (o : Option Projector) : s.Film (s.takeOff o) := by
  unfold State.takeOff
  split
  · exact s.film_toTail _
  · exact .refl s

theorem State.film_putOn (c : Screen) (p : Projector) : s.Film (s.putOn c p) :=
  ((s.film_onChangeover c _).andThen (fun u => u.film_moveReel p _ _ (.inl rfl))).andThen
    (fun u => u.film_setRole p .onScreen)

theorem State.film_changeoverDone (c : Screen) (p : Projector) : s.Film (s.changeoverDone c p) :=
  (((s.film_putOn c p).andThen (fun u => u.film_takeOff _)).andThen
    (fun u => u.film_onScreen c ScreenRecord.picture rfl)).andThen (fun u => u.film_reevaluate c)

theorem State.film_reopenBlade (o : Option Projector) : s.Film (s.reopenBlade o) := by
  unfold State.reopenBlade
  split
  · exact s.film_askBlade ..
  · exact .refl s

theorem State.film_undoBurst (c : Screen) (side : Side) : s.Film (s.undoBurst c side) :=
  (((s.film_onChangeover c _).andThen (fun u => u.film_closeBlade _)).andThen (fun u => u.film_reopenBlade _)).andThen
    (fun u => u.film_raise _)

theorem State.film_onBurstSent (c : Screen) (side : Side) : s.Film (s.onBurstSent c side) := by
  unfold State.onBurstSent
  split
  · exact s.film_ite (fun _ => s.film_changeoverDone ..) (fun _ => s.film_undoBurst ..)
  · exact s.film_undoBurst ..
  · exact (s.film_closeBlade _).andThen (fun u => u.film_closeBlade _)

theorem State.film_confirm (p : Projector) (b : Bool) : s.Film (s.confirm p b) := by
  unfold State.confirm
  exact s.film_ite (fun _ => .refl s)
    (fun _ => (s.film_onChangeover _ _).andThen (fun u => u.film_projectorAttention ..))

theorem State.film_fireHeld (c : Screen) : s.Film (s.fireHeld c) := by
  have h : s.Film (s.onScreen c (fun r => { r with changeHeld := false })) := s.film_onScreen c _ rfl
  simp only [State.fireHeld]
  refine s.film_ite (fun _ => ?_) (fun _ => .refl s)
  split
  · exact (h.andThen (fun u => u.film_fireCue ..)).andThen (fun u => State.film_runCues _ _ u)
  · exact h

theorem State.film_onOutcome (c : Screen) (a b : Bool) : s.Film (s.onOutcome c a b) := by
  unfold State.onOutcome
  refine s.film_ite (fun _ => ?_) (fun _ => s.film_examine c)
  exact ((((s.film_onChangeover c _).andThen (fun u => u.film_confirm ..)).andThen (fun u => u.film_confirm ..)).andThen
      (fun u => u.film_raise _)).andThen (fun u => u.film_fireHeld c)

theorem State.film_onBurstDropped (c : Screen) : s.Film (s.onBurstDropped c) := s.film_onChangeover c _

theorem State.film_judgePoll (p : Projector) (blade : Option Opening) : s.Film (s.judgePoll p blade) := by
  simp only [State.judgePoll]
  split
  · exact .refl s
  · exact s.film_ite (fun _ => (s.film_setWatch _ _).andThen (fun u => u.film_onOutcome ..))
      (fun _ => s.film_setWatch _ _)

/-! ### Events of one projector or screen -/

theorem State.film_reportSpeed (p : Projector) (v : Option Speed) : s.Film (s.reportSpeed p v) := by
  unfold State.reportSpeed
  split
  · exact s.film_onSpeed ..
  · exact .refl s

theorem State.film_reportWatch (p : Projector) (b : Bool) : s.Film (s.reportWatch p b) := by
  unfold State.reportWatch
  exact s.film_ite (fun _ => s.film_onWatchReached p) (fun _ => .refl s)

/-- A pulse taken and its reports: COUNTER_ZERO is reported by the pulse that brings the counter to 0. -/
theorem State.film_acceptedPulse (p : Projector) : s.Film (s.acceptedPulse p) := by
  unfold State.acceptedPulse
  split
  · have watched := (s.film_takePulse p).andThen (fun u => u.film_reportWatch p (s.motion p).pulseReports.watch)
    refine (watched.trans ?_).andThen (fun u => u.film_reportSpeed ..)
    unfold State.reportZero
    refine State.film_ite _ (fun made => State.film_onCounterZero _ p ?_) (fun _ => .refl _)
    have one : (s.motion p).framesRemaining = 1 := by simpa [Motion.pulseReports] using made
    refine (State.film_reportWatch _ p _).zero ?_
    unfold State.takePulse State.projectorAttention
    simp only
    split <;> simp [(s.motion p).count.time_counter.1, (s.motion p).count_counter.1, one]
  · exact .refl s

theorem State.film_slowStartOut (p : Projector) : s.Film (s.slowStartOut p) := by
  unfold State.slowStartOut
  split
  · exact .refl s
  · exact (s.film_onMotion p (fun m => { m with slowStart := none }) le_rfl).andThen
      (fun u => u.film_projectorAttention ..)

theorem State.film_silence (p : Projector) : s.Film (s.silence p) := by
  unfold State.silence State.silentAttention
  refine s.film_ite (fun _ => ?_) (fun _ => .refl s)
  refine ((s.film_onMotion p Motion.silent le_rfl).trans ?_).andThen (fun u => u.film_reportSpeed ..)
  exact State.film_ite _ (fun _ => State.film_projectorAttention ..) (fun _ => .refl _)

theorem State.film_afterMet (c : Screen) : s.Film (s.afterMet c) := by
  unfold State.afterMet
  split
  · exact .refl s
  · split
    · exact (s.film_onScreen c _ rfl).andThen (fun u => u.film_takeCue ..)
    all_goals exact .refl s

end Sys2Proof.Machine
end

section
/-! PROOF. What a command keeps: the queue of waiting commands and the laws of the device, for the operations of the
line, the fire unit and the lists that are no ordinary acts (spec/02, spec/04, spec/08, spec/09). -/

namespace Sys2Proof.Machine

/-- From `s` to `t` the queue stays, and the laws that hold between the parts of one act too are kept. -/
structure State.Steady (s t : State) : Prop where
  pending : t.pending = s.pending
  attention : s.attentionLaw → t.attentionLaw
  dataLine : s.dataLineLaw → t.dataLineLaw
  blade : s.bladeLaw → t.bladeLaw
  lineTrip : s.lineTripLaw → t.lineTripLaw
  counter : s.counterLaw → t.counterLaw
  pool : s.poolLaw → t.poolLaw
  after : s.afterLaw → t.afterLaw
  house : s.houseLaw → t.houseLaw
  full : s.fullLaw → t.fullLaw
  hold : s.holdLaw → t.holdLaw

/-- From `s` to `t` the queue stays and every law of the device is kept. -/
structure State.Lawful (s t : State) : Prop extends s.Steady t where
  armed : s.armedLaw → t.armedLaw
  lamps : s.lampLaw → t.lampLaw
  trip : s.tripLaw → t.tripLaw

theorem State.Steady.refl (s : State) : s.Steady s := ⟨rfl, id, id, id, id, id, id, id, id, id, id⟩

theorem State.Steady.trans {s t u : State} (a : s.Steady t) (b : t.Steady u) : s.Steady u where
  pending := b.pending.trans a.pending
  attention := b.attention ∘ a.attention
  dataLine := b.dataLine ∘ a.dataLine
  blade := b.blade ∘ a.blade
  lineTrip := b.lineTrip ∘ a.lineTrip
  counter := b.counter ∘ a.counter
  pool := b.pool ∘ a.pool
  after := b.after ∘ a.after
  house := b.house ∘ a.house
  full := b.full ∘ a.full
  hold := b.hold ∘ a.hold

theorem State.Lawful.refl (s : State) : s.Lawful s := { State.Steady.refl s with armed := id, lamps := id, trip := id }

theorem State.Lawful.trans {s t u : State} (a : s.Lawful t) (b : t.Lawful u) : s.Lawful u :=
  { a.toSteady.trans b.toSteady with
    armed := b.armed ∘ a.armed
    lamps := b.lamps ∘ a.lamps
    trip := b.trip ∘ a.trip }

/-! ### Ordinary acts -/

theorem PortRecord.attention_grownTo {r r' : PortRecord} (h : r.grownTo r')
    (law : r.attention = (r.pendingSet &&& ~~~r.maskSet != 0)) :
    r'.attention = (r'.pendingSet &&& ~~~r'.maskSet != 0) := by
  obtain rfl | ⟨m, rfl⟩ := h
  · exact law
  · rfl

theorem PortRecord.dataLineLaw_grownTo {r r' : PortRecord} (h : r.grownTo r') (law : r.dataLineLaw) :
    r'.dataLineLaw := by
  obtain rfl | ⟨m, rfl⟩ := h <;> exact law

theorem State.poolLaw_congr {s t : State} (free : t.su.free = s.su.free)
    (lists : ∀ c, (t.screen c).list = (s.screen c).list) : t.poolLaw ↔ s.poolLaw := by
  simp [State.poolLaw, free, lists]

theorem State.holdLaw_congr {s t : State} (fu : t.fu = s.fu) : t.holdLaw ↔ s.holdLaw := by
  simp [State.holdLaw, State.shutter, fu]

/-- An ordinary act in the course of which the counters and lamps behave keeps every law. -/
theorem State.Act.lawful {s t : State} (a : s.Act t) (f : s.Film t) : s.Lawful t where
  pending := a.pending
  attention law n := PortRecord.attention_grownTo (a.ports n) (law n)
  dataLine law n := PortRecord.dataLineLaw_grownTo (a.ports n) (law n)
  blade := a.blade
  lineTrip := a.lineTrip
  counter law := ⟨a.counter law.1, f.counterFollowsReel law.2⟩
  pool := (State.poolLaw_congr a.free a.lists).mpr
  after := a.after
  house := a.house
  full := f.full
  hold := (State.holdLaw_congr a.fu).mpr
  armed law p h := by
    have held := law p (a.readying p h)
    rw [a.presence]
    simpa [State.shutter, a.fu] using held
  lamps := f.lamps
  trip law := by
    obtain ⟨lc, lu, su, hu⟩ := law
    refine ⟨?_, ?_, ?_, fun c => ?_⟩
    · rw [a.lcTrip, a.fu]; exact lc
    · rw [a.luTrip, a.fu]; exact lu
    · rw [a.suTrip, a.fu]; exact su
    · rw [a.override, a.fu]; exact hu c

variable (s : State)

/-! ### Answers, pins and ports -/

theorem State.lawful_answer (n : Port) (c : Instr) (st : Status) (data : List Byte) :
    s.Lawful (s.answer n c st data) := { State.Lawful.refl s with }

theorem State.lawful_pins (x : Pins) : s.Lawful { s with pins := x } := { State.Lawful.refl s with }

/-- A port record rewritten so that its attention line and its data lines keep their laws. -/
theorem State.lawful_onPort (n : Port) (f : PortRecord → PortRecord)
    (attention : (s.port n).attention = ((s.port n).pendingSet &&& ~~~(s.port n).maskSet != 0) →
      (f (s.port n)).attention = ((f (s.port n)).pendingSet &&& ~~~(f (s.port n)).maskSet != 0))
    (dataLine : (s.port n).dataLineLaw → (f (s.port n)).dataLineLaw) : s.Lawful (s.onPort n f) where
  __ := State.Lawful.refl s
  attention law m := by
    by_cases e : n = m
    · subst e; simpa using attention (law n)
    · simpa [e] using law m
  dataLine law m := by
    by_cases e : n = m
    · subst e; simpa using dataLine (law n)
    · simpa [e] using law m

/-- Frames passed on and answers set out are no part of any law. -/
theorem State.lawful_passed (l : List Passed) : s.Lawful { s with pu := { s.pu with passed := l } } :=
  { State.Lawful.refl s with }

theorem State.lawful_answers (l : List Answer) : s.Lawful { s with pu := { s.pu with answers := l } } :=
  { State.Lawful.refl s with }

theorem State.lawful_routes (v : Vector PortSet 64) : s.Lawful { s with pu := { s.pu with routes := v } } :=
  { State.Lawful.refl s with }

end Sys2Proof.Machine
end

section
/-! PROOF. The lists, the reels and the show commands keep the laws (spec/04, spec/05). -/

namespace Sys2Proof.Machine

variable (s : State)

/-! ### Records of the show unit -/

/-- A screen record rewritten with its list, its reels and the AFTER timer's law kept. -/
theorem State.lawful_onScreen (c : Screen) (f : ScreenRecord → ScreenRecord)
    (list : (f (s.screen c)).list = (s.screen c).list) (reels : (f (s.screen c)).reels = (s.screen c).reels)
    (after : ((s.screen c).afterTimer.isSome = true ↔ (s.screen c).state.performing = true) →
      ((f (s.screen c)).afterTimer.isSome = true ↔ (f (s.screen c)).state.performing = true)) :
    s.Lawful (s.onScreen c f) := by
  have kept := (s.act_onScreen c (fun r => { f r with generation := r.generation }) list rfl after).lawful
    (s.film_onScreen c _ reels)
  refine { kept with pool := ?pool, after := ?after, counter := ?counter }
  case pool =>
    refine (State.poolLaw_congr (s := s) (t := s.onScreen c f) rfl fun d => ?_).mpr
    by_cases e : c = d
    · subst e; simpa using list
    · simp [e]
  case after =>
    intro law d
    have h := kept.after law d
    by_cases e : c = d
    · subst e; simpa using h
    · simpa [e] using h
  case counter =>
    intro law
    refine ⟨law.1, State.Film.counterFollowsReel ?_ law.2⟩
    exact s.film_onScreen c f reels

theorem State.lawful_raiseGeneration (c : Screen) : s.Lawful (s.raiseGeneration c) :=
  s.lawful_onScreen c _ rfl rfl id

theorem State.lawful_margin (k : Nat) : s.Lawful { s with su := { s.su with margin := k } } :=
  { State.Lawful.refl s with }

theorem State.lawful_resetCues (c : Screen) : s.Lawful (s.resetCues c) := { State.Lawful.refl s with }

/-- A role given where the shutter is OPEN and the station PRESENT, if it is one that R95 speaks of. -/
theorem State.lawful_setRole (p : Projector) (r : Role)
    (h : r.readying → (s.shutter (portShutter p)).state = .opened ∧ (s.station p).presence = .present) :
    s.Lawful (s.setRole p r) :=
  { State.Lawful.refl s with
    armed := fun law q hq => by
      by_cases e : p = q
      · subst e; exact h (by simpa [Role.readying] using hq)
      · exact law q (by simpa [e] using hq) }

/-- A counter loaded on a projector that holds a reel. -/
theorem State.lawful_loadCounter (p : Projector) (n : Nat) (h : s.holdsReel p) : s.Lawful (s.loadCounter p n) :=
  { State.Lawful.refl s with
    counter := fun law => by
      refine ⟨(s.act_loadCounter p n).counter law.1, fun q free => ?_⟩
      by_cases e : p = q
      · subst e; exact absurd h free
      · simpa [State.loadCounter, e] using law.2 q free }

/-! ### The pool (R69, R70) -/

/-- The pool is whole when each record is counted once over the five lists (R69). -/
theorem State.poolLaw_iff_count : s.poolLaw ↔ ∀ x : CueIx,
    s.su.free.count x + ((s.screen 0).list.count x + ((s.screen 1).list.count x
      + ((s.screen 2).list.count x + (s.screen 3).list.count x))) = 1 := by
  have screens : List.finRange 4 = [0, 1, 2, 3] := by decide
  have once : ∀ x : CueIx, (List.finRange 128).count x = 1 := fun x =>
    List.count_eq_one_of_mem (List.nodup_finRange 128) (List.mem_finRange x)
  simp [State.poolLaw, List.perm_iff_count, screens, once]

/-- A list rewritten and the free list with it, no record lost and none doubled. -/
theorem State.poolLaw_onList (c : Screen) (l free : List CueIx) {t : State} (hfree : t.su.free = free)
    (hlist : (t.screen c).list = l) (others : ∀ d, d ≠ c → (t.screen d).list = (s.screen d).list)
    (h : (free ++ l).Perm (s.su.free ++ (s.screen c).list)) (law : s.poolLaw) : t.poolLaw := by
  rw [State.poolLaw_iff_count] at law ⊢
  intro x
  have whole := law x
  have moved := h.count_eq x
  simp only [List.count_append] at moved
  have list : ∀ d, (t.screen d).list = if d = c then l else (s.screen d).list := fun d => by
    by_cases e : d = c
    · subst e; simpa using hlist
    · simpa [e] using others d e
  rw [hfree, list 0, list 1, list 2, list 3]
  match c with
  | 0 | 1 | 2 | 3 => simp; omega

theorem placeBefore_perm (y new : CueIx) (l : List CueIx) (h : y ∈ l) : (placeBefore y new l).Perm (new :: l) := by
  induction l with
  | nil => simp at h
  | cons a rest ih =>
    unfold placeBefore
    split
    · exact .refl _
    · rename_i ne
      have mem : y ∈ rest := (List.mem_cons.mp h).resolve_left (Ne.symm ne)
      exact ((ih mem).cons a).trans (.swap new a rest)

theorem placeAfter_perm (y new : CueIx) (l : List CueIx) (h : y ∈ l) : (placeAfter y new l).Perm (new :: l) := by
  induction l with
  | nil => simp at h
  | cons a rest ih =>
    unfold placeAfter
    split
    · exact .swap new a rest
    · rename_i ne
      have mem : y ∈ rest := (List.mem_cons.mp h).resolve_left (Ne.symm ne)
      exact ((ih mem).cons a).trans (.swap new a rest)

/-- The lists and the free list rewritten, and no record lost: the other laws do not speak of them. -/
theorem State.lawful_onList (c : Screen) (f : List CueIx → List CueIx) (free : List CueIx)
    (h : (free ++ f (s.screen c).list).Perm (s.su.free ++ (s.screen c).list)) :
    s.Lawful ((s.onList c f).setFree free) := by
  have same : ∀ d, ((s.onList c f).setFree free).screen d =
      { s.screen d with list := if c = d then f (s.screen c).list else (s.screen d).list } := by
    intro d
    by_cases e : c = d
    · subst e; simp [State.onList]
    · simp [State.onList, e]
  refine { State.Lawful.refl s with pool := ?pool, after := ?after, counter := ?counter }
  case pool =>
    refine s.poolLaw_onList c (f (s.screen c).list) free rfl (by rw [same]; simp) (fun d hd => ?_) h
    rw [same, if_neg (Ne.symm hd)]
  case after =>
    intro law d
    rw [same]; exact law d
  case counter =>
    intro law
    refine ⟨law.1, State.Film.counterFollowsReel (.of_eq (s := s) rfl (fun d => ?_) ?_ ?_ ?_) law.2⟩
    · rw [same]
    all_goals exact fun _ => rfl

theorem State.lawful_takeAndPlace (c : Screen) (place : CueIx → List CueIx → List CueIx)
    (h : ∀ x, (place x (s.screen c).list).Perm (x :: (s.screen c).list)) : s.Lawful (s.takeAndPlace c place) := by
  unfold State.takeAndPlace
  split
  · exact .refl s
  · rename_i x rest free
    have written : s.Lawful (s.onCue x (fun _ => Cue.fresh)) := { State.Lawful.refl s with }
    refine written.trans (State.lawful_onList (s.onCue x (fun _ => Cue.fresh)) c (place x) rest ?_)
    show (rest ++ place x (s.screen c).list).Perm (s.su.free ++ (s.screen c).list)
    rw [free]
    exact (List.Perm.append_left rest (h x)).trans List.perm_middle

theorem State.lawful_giveBack (c : Screen) (x : CueIx) (h : x ∈ (s.screen c).list) : s.Lawful (s.giveBack c x) := by
  refine s.lawful_onList c (fun l => l.erase x) (s.su.free ++ [x]) ?_
  rw [List.append_assoc]
  exact List.Perm.append_left _ (List.perm_cons_erase h).symm

theorem State.lawful_clearList (c : Screen) : s.Lawful (s.clearList c) := by
  refine State.Lawful.trans (s.lawful_onList c (fun _ => []) (s.su.free ++ (s.screen c).list) ?_)
    (State.lawful_raiseGeneration _ c)
  simp

/-- A list put in another order. -/
theorem State.lawful_reorder (c : Screen) (f : List CueIx → List CueIx) (h : (f (s.screen c).list).Perm (s.screen c).list) :
    s.Lawful (s.onList c f) :=
  s.lawful_onList c f s.su.free (List.Perm.append_left _ h)

theorem State.lawful_onCue (x : CueIx) (f : Cue → Cue) : s.Lawful (s.onCue x f) := { State.Lawful.refl s with }

/-! ### Edits (R72 to R81) -/

/-- A taken edit acts and raises the generation; one refused changes nothing. -/
theorem edit_cases (c : Screen) (gen : Nat) (tests : EditTests) (index : Nat) (act : State → State) :
    ((edit s c gen tests index act).status ≠ .ok ∧ (edit s c gen tests index act).state = s)
      ∨ (gen = (s.screen c).generation ∧ tests.outOfRange = false ∧ tests.live = false
          ∧ edit s c gen tests index act =
              ⟨.ok, byte1 index ++ byte2 ((gen + 1) % Config.generations), (act s).raiseGeneration c⟩) := by
  unfold edit
  split
  · exact .inl ⟨by simp, rfl⟩
  · split
    · exact .inl ⟨by simp [refuse], rfl⟩
    · split
      · exact .inl ⟨by simp [refuse], rfl⟩
      · split
        · exact .inl ⟨by simp [refuse], rfl⟩
        · exact .inr ⟨by simp_all, by simp_all, by simp_all, rfl⟩

theorem lawful_edit {s : State} {c : Screen} {gen : Nat} {tests : EditTests} {index : Nat} {act : State → State}
    (h : tests.outOfRange = false → s.Lawful (act s)) : s.Lawful (edit s c gen tests index act).state := by
  obtain ⟨-, e⟩ | ⟨-, inside, -, e⟩ := edit_cases s c gen tests index act
  · rw [e]; exact .refl s
  · rw [e]; exact (h inside).trans (State.lawful_raiseGeneration _ c)

theorem State.lawful_runCues (fuel : Nat) (c : Screen) : s.Lawful (s.runCues fuel c) :=
  (State.act_runCues fuel c s).lawful (State.film_runCues fuel c s)

theorem State.lawful_pointToAppended (c : Screen) (x : CueIx) : s.Lawful (s.pointToAppended c x) := by
  unfold State.pointToAppended
  split
  · exact (s.lawful_onScreen c (fun r => { r with next := some x }) rfl rfl id).trans (State.lawful_runCues _ _ c)
  · exact .refl s

theorem lawful_thenAppended {s : State} {r : Ruling} (c : Screen) (x : CueIx) (h : s.Lawful r.state) :
    s.Lawful (r.thenAppended c x).state := by
  unfold Ruling.thenAppended
  split
  · exact h.trans (State.lawful_pointToAppended _ c x)
  · exact h

theorem lawful_cueNewRule (c : Screen) (gen : Nat) : s.Lawful (cueNewRule s c gen).state :=
  lawful_thenAppended c _ (lawful_edit fun _ => s.lawful_takeAndPlace c _ fun x => List.perm_append_singleton x _)

theorem lawful_cueNewBeforeRule (c : Screen) (gen : Nat) (x : CueIx) :
    s.Lawful (cueNewBeforeRule s c gen x).state :=
  lawful_edit fun inside => s.lawful_takeAndPlace c _ fun new =>
    placeBefore_perm x new _ (by simpa using inside)

theorem lawful_cueNewAfterRule (c : Screen) (gen : Nat) (x : CueIx) :
    s.Lawful (cueNewAfterRule s c gen x).state :=
  lawful_thenAppended c _ (lawful_edit fun inside => s.lawful_takeAndPlace c _ fun new =>
    placeAfter_perm x new _ (by simpa using inside))

/-- A record moved beside another of its list. -/
theorem State.lawful_move (c : Screen) (x y : CueIx) (place : CueIx → CueIx → List CueIx → List CueIx)
    (perm : ∀ l, y ∈ l → (place y x l).Perm (x :: l)) (hx : x ∈ (s.screen c).list) (hy : y ∈ (s.screen c).list) :
    s.Lawful (if x = y then s else s.onList c (fun l => place y x (l.erase x))) := by
  split
  · exact .refl s
  · rename_i ne
    refine s.lawful_reorder c _ ((perm _ ?_).trans (List.perm_cons_erase hx).symm)
    exact (List.mem_erase_of_ne (Ne.symm ne)).mpr hy

theorem lawful_cueMoveBeforeRule (c : Screen) (gen : Nat) (x y : CueIx) :
    s.Lawful (cueMoveBeforeRule s c gen x y).state :=
  lawful_edit fun inside => by
    obtain ⟨hx, hy⟩ : x ∈ (s.screen c).list ∧ y ∈ (s.screen c).list := by simpa using inside
    exact s.lawful_move c x y placeBefore (placeBefore_perm y x) hx hy

theorem lawful_cueMoveAfterRule (c : Screen) (gen : Nat) (x y : CueIx) :
    s.Lawful (cueMoveAfterRule s c gen x y).state :=
  lawful_edit fun inside => by
    obtain ⟨hx, hy⟩ : x ∈ (s.screen c).list ∧ y ∈ (s.screen c).list := by simpa using inside
    exact s.lawful_move c x y placeAfter (placeAfter_perm y x) hx hy

theorem lawful_cueWriteRule (c : Screen) (gen : Nat) (x : CueIx) (f : CueFields) :
    s.Lawful (cueWriteRule s c gen x f).state :=
  lawful_edit fun _ => s.lawful_onCue x _

theorem lawful_cueFreeRule (c : Screen) (gen : Nat) (x : CueIx) : s.Lawful (cueFreeRule s c gen x).state :=
  lawful_edit fun inside => s.lawful_giveBack c x (by simpa using inside)

end Sys2Proof.Machine
end

section
/-! PROOF. The rules on reels, shows, lamps and house lights keep the laws (spec/04 R83, R84, spec/05 R90 to R101). -/

namespace Sys2Proof.Machine

variable (s : State)

/-! ### Reels set, threaded and unthreaded (R83, R84, R90, R91) -/

/-- An entry set that no projector holds. -/
theorem State.film_setReel (c : Screen) (r : ReelIx) (e : ReelEntry)
    (h : ∀ side, (s.reel c r).isAt .loaded side = false ∧ (s.reel c r).isAt .running side = false) :
    s.Film (s.setReel c r e) where
  counter _ := le_rfl
  reels q held := by
    obtain ⟨k, hk⟩ := held
    refine .inl ⟨k, ?_⟩
    rw [State.reel_setReel, if_neg]
    · exact hk
    · rintro ⟨rfl, rfl⟩
      have none := h (sideOf q)
      simp [none] at hk
  lamps := id
  full := id

/-- An entry set on the projector that held it, whose counter is cleared after it. -/
theorem State.Film.of_setReel {c : Screen} {r : ReelIx} {e : ReelEntry} {st : ReelState} {n : Nat} {side : Side}
    {t : State} (old : s.reel c r = .reel st n side) (h : (s.setReel c r e).Film t)
    (zero : (t.motion (projectorOf c side)).framesRemaining = 0) : s.Film t where
  counter := h.counter
  reels q held := by
    by_cases owner : q = projectorOf c side
    · exact .inr (owner ▸ zero)
    · refine h.reels q ?_
      obtain ⟨k, hk⟩ := held
      refine ⟨k, ?_⟩
      rw [State.reel_setReel, if_neg]
      · exact hk
      · rintro ⟨rfl, rfl⟩
        have own : ∀ q : Projector, q = projectorOf (screenOf q) (sideOf q) := by decide
        simp only [old, ReelEntry.isAt, Bool.and_eq_true, decide_eq_true_eq] at hk
        obtain ⟨-, rfl⟩ | ⟨-, rfl⟩ := hk <;> exact owner (own q)
  lamps := h.lamps
  full := h.full

theorem lawful_reelSetRule (c : Screen) (gen : Nat) (r : ReelIx) (length side : Nat) :
    s.Lawful (reelSetRule s c gen r length side).state := by
  obtain ⟨-, e⟩ | ⟨-, -, settable, e⟩ := edit_cases s c gen
    ⟨!oneTo Config.reelMax length || (sideOfCode side).isNone, !(s.reel c r).settable, false⟩ (numberOf r)
    (fun s => s.setReel c r (.reel .listed length ((sideOfCode side).getD .a)))
  · rw [reelSetRule, e]; exact .refl s
  · rw [reelSetRule, e]
    refine State.Lawful.trans ((s.act_setReel c r _).lawful (s.film_setReel c r _ fun side => ?_))
      (State.lawful_raiseGeneration _ c)
    cases h : s.reel c r with
    | empty => simp [ReelEntry.isAt]
    | reel st n x =>
      have : st = .listed := by simpa [h, ReelEntry.settable] using settable
      simp [ReelEntry.isAt, this]

theorem lawful_reelUnthreadRule (c : Screen) (r : ReelIx) : s.Lawful (reelUnthreadRule s c r).state := by
  unfold reelUnthreadRule
  split
  · rename_i length side old
    dsimp only
    split
    · refine State.Act.lawful ?act (State.Film.of_setReel (e := .reel .listed length side) s old ?film ?zero)
      case act =>
        exact (((s.act_setReel ..).andThen (fun u => u.act_setRole_idle _)).andThen
          (fun u => u.act_clearCounter _)).andThen (fun u => u.act_examine c)
      case film =>
        exact ((State.film_setRole _ _ .idle).andThen (fun u => u.film_clearCounter _)).andThen
          (fun u => u.film_examine c)
      case zero => simp [State.clearCounter]
    · exact .refl s
  · exact .refl s

theorem State.lawful_examine (c : Screen) : s.Lawful (s.examine c) := (s.act_examine c).lawful (s.film_examine c)

theorem State.lawful_motorAction (p : Projector) (h : (s.role p).readying) : s.Lawful (s.motorAction p).2 :=
  ((State.Act.refl s).thenMotorAction p h).lawful (s.film_motorAction p)

theorem State.lawful_payMotor (c : Screen) (p : Projector) (h : (s.role p).readying) :
    s.Lawful (s.payMotor c p) := by
  unfold State.payMotor
  split
  · exact (s.lawful_motorAction p h).trans (State.lawful_onScreen _ c _ rfl rfl id)
  · exact .refl s

/-- The six tests passed (R90). -/
theorem State.armingFault_eq_none {c : Screen} {r : ReelIx} (h : s.armingFault c r = none) :
    ∃ length side, s.reel c r = .reel .listed length side
      ∧ (s.shutter (portShutter (projectorOf c side))).state = .opened
      ∧ (s.station (projectorOf c side)).presence = .present := by
  unfold State.armingFault at h
  split at h
  · rename_i length side e
    grind
  · simp at h

theorem screenOf_projectorOf (c : Screen) (side : Side) : screenOf (projectorOf c side) = c := by
  have h : ∀ c : Screen, screenOf (projectorOf c .a) = c ∧ screenOf (projectorOf c .b) = c := by decide
  cases side
  · exact (h c).1
  · exact (h c).2

theorem sideOf_projectorOf (c : Screen) (side : Side) : sideOf (projectorOf c side) = side := by
  have h : ∀ c : Screen, sideOf (projectorOf c .a) = .a ∧ sideOf (projectorOf c .b) = .b := by decide
  cases side
  · exact (h c).1
  · exact (h c).2

/-- Arming where the tests have passed. -/
theorem State.lawful_arm (c : Screen) (r : ReelIx) (length : Nat) (side : Side)
    (listed : ∃ n x, s.reel c r = .reel .listed n x)
    (shutter : (s.shutter (portShutter (projectorOf c side))).state = .opened)
    (present : (s.station (projectorOf c side)).presence = .present) : s.Lawful (s.arm c r length side) := by
  obtain ⟨n, x, listed⟩ := listed
  have loaded := (s.act_setReel c r (.reel .loaded length side)).lawful
    (s.film_setReel c r _ fun side => by simp [listed, ReelEntry.isAt])
  refine (((loaded.trans (State.lawful_setRole _ (projectorOf c side) .armed fun _ => ⟨shutter, present⟩)).trans
    (State.lawful_loadCounter _ (projectorOf c side) length ?_)).trans (State.lawful_examine _ c)).trans
    (State.lawful_payMotor _ c (projectorOf c side) ?_)
  · refine ⟨r, .inl ?_⟩
    rw [screenOf_projectorOf, sideOf_projectorOf]
    show ((s.setReel c r (.reel .loaded length side)).reel c r).isAt .loaded side = true
    rw [State.reel_setReel]
    simp [ReelEntry.isAt]
  · simp [Role.readying, State.loadCounter]

theorem lawful_reelThreadedRule (c : Screen) (r : ReelIx) : s.Lawful (reelThreadedRule s c r).state := by
  unfold reelThreadedRule
  split
  · exact .refl s
  · split
    · rename_i length side passed e
      obtain ⟨n, x, listed, shutter, present⟩ := s.armingFault_eq_none passed
      obtain ⟨rfl, rfl⟩ : length = n ∧ side = x := by simp_all
      exact s.lawful_arm c r length side ⟨_, _, listed⟩ shutter present
    · exact .refl s
    · exact .refl s

/-! ### Shows (R96 to R101) -/

theorem lawful_showStartRule (c : Screen) : s.Lawful (showStartRule s c).state := by
  unfold showStartRule
  dsimp only
  split
  · exact .refl s
  · split
    · exact .refl s
    · split
      · exact .refl s
      · refine ((s.lawful_resetCues c).trans (State.lawful_onScreen _ c _ rfl rfl fun _ => ?_)).trans
          (State.lawful_runCues _ _ c)
        simp [ScreenState.performing]

theorem State.lawful_takeCue (c : Screen) (x : CueIx) : s.Lawful (s.takeCue c x) :=
  (s.act_takeCue c x).lawful (s.film_takeCue c x)

theorem lawful_goRule (c : Screen) : s.Lawful (goRule s c).state := by
  unfold goRule
  dsimp only
  split
  · exact .refl s
  · split
    · exact .refl s
    · split
      · exact .refl s
      · dsimp only
        split
        · exact .refl s
        · exact s.lawful_takeCue c _

theorem State.lawful_makeSafe (p : Projector) : s.Lawful (s.makeSafe p) :=
  State.Act.lawful
    (((((s.act_stopMotor p).andThen (fun u => u.act_closeDouser p)).andThen (fun u => u.act_closeBlade p)).andThen
      (fun u => u.act_extinguish p)).andThen (fun u => u.act_clearCounter p))
    (((((s.film_stopMotor p).andThen (fun u => u.film_closeDouser p)).andThen (fun u => u.film_closeBlade p)).andThen
      (fun u => u.film_extinguish p)).andThen (fun u => u.film_clearCounter p))

theorem State.lawful_onChangeover (c : Screen) (f : Changeover → Changeover) : s.Lawful (s.onChangeover c f) :=
  (s.act_onChangeover c f).lawful (s.film_onChangeover c f)

theorem State.film_askWithdraw (c : Screen) : s.Film (s.askWithdraw c).2 := by
  unfold State.askWithdraw
  split
  · exact s.film_setQueue _
  · exact .refl s

theorem State.lawful_abortChangeover (c : Screen) : s.Lawful (s.abortChangeover c) := by
  have withdrawn : s.Lawful (s.withdrawQueued c) := by
    unfold State.withdrawQueued
    split
    · exact (s.act_askWithdraw c).lawful (s.film_askWithdraw c)
    · exact .refl s
  exact withdrawn.trans (State.lawful_onChangeover _ c _)

theorem State.lawful_setRole_idle (p : Projector) : s.Lawful (s.setRole p .idle) :=
  s.lawful_setRole p .idle (by simp [Role.readying])

theorem State.lawful_raise (n : Notice) : s.Lawful (s.raise n) := (s.act_raise n).lawful (s.film_raise n)

theorem lawful_showStopRule (c : Screen) : s.Lawful (showStopRule s c).state := by
  unfold showStopRule
  dsimp only
  split
  · exact .refl s
  · have stopped := ((s.lawful_abortChangeover c).trans (State.lawful_setRole_idle _ (projectorOf c .a))).trans
      (State.lawful_setRole_idle _ (projectorOf c .b))
    refine (((stopped.trans (State.lawful_onScreen _ c _ rfl rfl fun _ => ?_)).trans
      (State.lawful_makeSafe _ _)).trans (State.lawful_makeSafe _ _)).trans (State.lawful_raise _ _)
    simp [ScreenState.performing]

theorem State.act_giveUp (p : Projector) : s.Act (s.giveUp p) := by
  unfold State.giveUp
  exact s.act_ite (fun _ => (s.act_setRole_idle p).andThen (fun u => u.act_extinguish p)) (fun _ => .refl s)

theorem State.film_giveUp (p : Projector) : s.Film (s.giveUp p) := by
  unfold State.giveUp
  exact s.film_ite (fun _ => (s.film_setRole p .idle).andThen (fun u => u.film_extinguish p)) (fun _ => .refl s)

theorem State.act_restProjectors (c : Screen) : s.Act (s.restProjectors c) :=
  (((s.act_giveUp _).andThen (fun u => u.act_giveUp _)).andThen (fun u => u.act_clearCounter _)).andThen
    (fun u => u.act_clearCounter _)

theorem State.film_restProjectors (c : Screen) : s.Film (s.restProjectors c) :=
  (((s.film_giveUp _).andThen (fun u => u.film_giveUp _)).andThen (fun u => u.film_clearCounter _)).andThen
    (fun u => u.film_clearCounter _)

theorem sides_differ (c : Screen) : projectorOf c .b ≠ projectorOf c .a := by revert c; decide

/-- The projectors of a screen, by side. -/
theorem projector_cases {c : Screen} {p : Projector} (h : screenOf p = c) :
    p = projectorOf c .a ∨ p = projectorOf c .b := by
  have cases : ∀ p : Projector, p = projectorOf (screenOf p) .a ∨ p = projectorOf (screenOf p) .b := by decide
  exact h ▸ cases p

/-- Both counters of a screen are clear after a rewind or a clear (R99, R100). -/
theorem State.counter_restProjectors (c : Screen) (p : Projector) (h : screenOf p = c) :
    ((s.restProjectors c).motion p).framesRemaining = 0 := by
  have ne : projectorOf c .b ≠ projectorOf c .a := sides_differ c
  obtain rfl | rfl := projector_cases h <;> simp [State.restProjectors, State.clearCounter, ne]

/-- A screen record rewritten, reels and all, before both counters of the screen are cleared. -/
theorem State.Film.of_onScreen {c : Screen} {f : ScreenRecord → ScreenRecord} {t : State}
    (h : (s.onScreen c f).Film t) (zero : ∀ p, screenOf p = c → (t.motion p).framesRemaining = 0) : s.Film t where
  counter := h.counter
  reels p held := by
    by_cases feeds : screenOf p = c
    · exact .inr (zero p feeds)
    · refine h.reels p ?_
      simpa [State.holdsReel, State.reel, Ne.symm feeds] using held
  lamps := h.lamps
  full := h.full

theorem lawful_showRewindRule (c : Screen) : s.Lawful (showRewindRule s c).state := by
  unfold showRewindRule
  dsimp only
  split
  · exact .refl s
  · rename_i h
    refine (s.lawful_resetCues c).trans (State.Act.lawful (State.Act.trans ?_ (State.act_restProjectors _ c))
      (State.Film.of_onScreen _ (State.film_restProjectors _ c) (State.counter_restProjectors _ c)))
    refine State.act_onScreen _ c _ rfl rfl fun law => ?_
    have rest : (s.screen c).state = .ended ∨ (s.screen c).state = .stopped := by
      simp only [Bool.or_eq_true, Bool.not_eq_true'] at h
      grind
    have stopped : ((s.screen c).afterTimer).isSome ≠ true := fun running => by
      have performing : (s.screen c).state.performing = true := law.mp running
      obtain e | e := rest <;> simp [e, ScreenState.performing] at performing
    refine iff_of_false stopped ?_
    simp [ScreenRecord.rest, ScreenState.performing]

theorem lawful_showClearRule (c : Screen) (gen : Nat) : s.Lawful (showClearRule s c gen).state := by
  unfold showClearRule
  dsimp only
  split
  · exact .refl s
  · split
    · exact .refl s
    · rename_i h
      refine (s.lawful_clearList c).trans (State.Act.lawful (State.Act.trans ?_ (State.act_restProjectors _ c))
        (State.Film.of_onScreen _ (State.film_restProjectors _ c) (State.counter_restProjectors _ c)))
      refine State.act_onScreen _ c _ rfl rfl fun law => ?_
      have cleared : (((s.clearList c).screen c).afterTimer = (s.screen c).afterTimer)
          ∧ ((s.clearList c).screen c).state = (s.screen c).state := by
        simp [State.clearList, State.onList, State.raiseGeneration]
      rw [cleared.1, cleared.2] at law
      have rest : (s.screen c).state = .idle ∨ (s.screen c).state = .ended ∨ (s.screen c).state = .stopped := by
        simp only [Bool.or_eq_true, Bool.not_eq_true'] at h
        grind
      have stopped : ((s.screen c).afterTimer).isSome ≠ true := fun running => by
        have performing : (s.screen c).state.performing = true := law.mp running
        obtain e | e | e := rest <;> simp [e, ScreenState.performing] at performing
      refine iff_of_false ?_ ?_
      · show ((s.clearList c).screen c).afterTimer.isSome ≠ true
        rw [cleared.1]
        exact stopped
      · simp [ScreenRecord.rest, ScreenState.performing]

/-! ### Manual commands, lamps and house lights -/

theorem lawful_projMotorRule (a : Nat) (p : Projector) : s.Lawful (projMotorRule s a p).state := by
  unfold projMotorRule
  split
  · exact .refl s
  · exact (s.act_askMotor p _).lawful (s.film_askMotor p _)

theorem lawful_projDouserRule (a : Nat) (p : Projector) : s.Lawful (projDouserRule s a p).state := by
  unfold projDouserRule
  split
  · exact .refl s
  · exact (s.act_askDouser p _).lawful (s.film_askDouser p _)

theorem lawful_lampStrikeRule (p : Projector) : s.Lawful (lampStrikeRule s p).state :=
  (s.act_strike p).lawful (s.film_strike p)

theorem lawful_lampOffRule (p : Projector) : s.Lawful (lampOffRule s p).state := by
  unfold lampOffRule
  split
  · exact .refl s
  · exact (s.act_extinguish p).lawful (s.film_extinguish p)

/-- A COLD lamp has no feed and no timers, so that new settings or a new carbon keep the lamps' law. -/
theorem State.lampFits_of_cold {s : State} (law : s.lampLaw) {p : Projector} (cold : (s.lamp p).state = .cold)
    {l : Lamp} (rate : l.feedRate = (s.lamp p).feedRate)
    (feed : l.feedTimer = (s.lamp p).feedTimer) (strike : l.strikeTimer = (s.lamp p).strikeTimer)
    (hold : l.holdTimer = (s.lamp p).holdTimer) (carbon : l.carbon ≤ 12000) : s.lampFits p l := by
  obtain ⟨noRate, noFeed, noHold⟩ := State.lampLaw_striking law (p := p) (by simp [cold])
  have noStrike := State.lampLaw_burning law (p := p) (by simp [cold])
  simp [State.lampFits, Lamp.feedLaw, rate, feed, strike, hold, noRate, noFeed, noHold, noStrike, carbon]

theorem lawful_lampSetRule (f : LampFields) (p : Projector) : s.Lawful (lampSetRule s f p).state := by
  unfold lampSetRule
  split
  · exact .refl s
  · rename_i cold
    have cold : (s.lamp p).state = .cold := not_not.mp cold
    refine (s.act_onLamp p _).lawful (s.film_onLamp p _ fun law => ?_)
    exact State.lampFits_of_cold law cold rfl rfl rfl rfl (law p).1.2.2.2.2.1

theorem lawful_lampRecarbonRule (n : Nat) (p : Projector) : s.Lawful (lampRecarbonRule s n p).state := by
  unfold lampRecarbonRule
  split
  · exact .refl s
  · rename_i cold
    have cold : (s.lamp p).state = .cold := not_not.mp cold
    refine (s.act_onLamp p _).lawful (s.film_onLamp p _ fun law => ?_)
    exact State.lampFits_of_cold law cold rfl rfl rfl rfl (Nat.min_le_right ..)

theorem lawful_houseFadeRule (level time : Nat) (c : Channel) : s.Lawful (houseFadeRule s level time c).state :=
  (s.act_askFade c _ time).lawful (s.film_askFade c _ time)

end Sys2Proof.Machine
end

section
/-! PROOF. The trip, the rearm, the shutters and the mains keep the laws (spec/02 R34, R35, spec/07 R127 to R137,
spec/08 R142 to R151). -/

namespace Sys2Proof.Machine

variable (s : State)

/-! ### Acts done for each of several things -/

/-- What one step of a fold brings about, under an invariant of the fold, and the later steps keep, holds at its end. -/
theorem foldl_brings {α σ : Type} {f : σ → α → σ} {I P : σ → Prop} (inv : ∀ u x, I u → I (f u x))
    (keep : ∀ u x, I u → P u → P (f u x)) {l : List α} {x : α} (mem : x ∈ l) (make : ∀ u, I u → P (f u x)) (u : σ)
    (start : I u) : P (l.foldl f u) := by
  have kept : ∀ (l : List α) (u : σ), I u → P u → P (l.foldl f u) := by
    intro l
    induction l with
    | nil => exact fun _ _ => id
    | cons y l ih => exact fun u i h => ih (f u y) (inv u y i) (keep u y i h)
  induction l generalizing u with
  | nil => simp at mem
  | cons y l ih =>
    obtain rfl | later := List.mem_cons.mp mem
    · exact kept l _ (inv u x start) (make u start)
    · exact ih later (f u y) (inv u y start)

theorem State.act_foldl {α : Type} (f : State → α → State) (h : ∀ u x, State.Act u (f u x)) (l : List α) :
    s.Act (l.foldl f s) := by
  induction l generalizing s with
  | nil => exact .refl s
  | cons x l ih => exact (h s x).trans (ih (f s x))

theorem State.film_foldl {α : Type} (f : State → α → State) (h : ∀ u x, State.Film u (f u x)) (l : List α) :
    s.Film (l.foldl f s) := by
  induction l generalizing s with
  | nil => exact .refl s
  | cons x l ih => exact (h s x).trans (ih (f s x))

/-! ### Withdrawal leaves no projector readying (R95) -/

theorem Role.readying_iff (r : Role) : r.readying ↔ r.isReadying = true := by
  cases r <;> simp [Role.readying, Role.isReadying]

theorem State.not_readying_withdraw (p : Projector) : ¬ ((s.withdraw p).role p).readying := by
  have rest : ((s.moveReel p .loaded .listed).setRole p .idle).Act (s.withdraw p) :=
    ((((State.act_stopMotor _ p).andThen (fun u => u.act_closeDouser p)).andThen (fun u => u.act_clearCounter p)).andThen
      (fun u => u.act_raise _)).andThen (fun u => u.act_examine _)
  exact fun h => by simpa [Role.readying] using rest.readying p h

theorem State.not_readying_withdrawIf (p : Projector) : ¬ ((s.withdrawIf p true).role p).readying := by
  unfold State.withdrawIf
  split
  · exact s.not_readying_withdraw p
  · rename_i h
    rw [Role.readying_iff]
    simpa using h

theorem State.not_readying_showShutter (p : Projector) {v : ShutterState} (h : v ≠ .opened) :
    ¬ ((s.showShutter p v).role p).readying := by
  simpa [State.showShutter, h] using s.not_readying_withdrawIf p

theorem State.not_readying_showPresence (p : Projector) {v : Presence} (h : v ≠ .present) :
    ¬ ((s.showPresence p v).role p).readying := by
  simpa [State.showPresence, h] using (s.forgetMark p v).not_readying_withdrawIf p

theorem State.armedLaw_of_not_readying (h : ∀ p, ¬ (s.role p).readying) : s.armedLaw :=
  fun p readying => absurd readying (h p)

/-! ### Shutters handed to the show unit (R149) -/

theorem State.act_handShutter (k : Shutter) : s.Act (s.handShutter k) := by
  unfold State.handShutter
  split
  · exact s.act_showShutter ..
  · exact .refl s

theorem State.film_handShutter (k : Shutter) : s.Film (s.handShutter k) := by
  unfold State.handShutter
  split
  · exact s.film_showShutter ..
  · exact .refl s

theorem State.lawful_handShutter (k : Shutter) : s.Lawful (s.handShutter k) :=
  (s.act_handShutter k).lawful (s.film_handShutter k)

@[simp] theorem shutterProjector_portShutter (p : Projector) : shutterProjector (portShutter p) = some p := by
  simp [shutterProjector, portShutter]

theorem State.not_readying_handShutter (p : Projector) (h : (s.shutter (portShutter p)).state ≠ .opened) :
    ¬ ((s.handShutter (portShutter p)).role p).readying := by
  rw [State.handShutter, shutterProjector_portShutter]
  exact s.not_readying_showShutter p h

/-- The fire unit's records rewritten with its state kept and the states of all shutters but `k`: the laws that its
holds have no part in. -/
theorem State.steady_fu (f : FireUnit) (hold : s.holdLaw → State.holdLaw { s with fu := f }) :
    s.Steady { s with fu := f } := { State.Steady.refl s with hold }

/-- Shutter `k` moved to another state, handed on where it is one. -/
theorem State.lawful_shutterMoved (f : FireUnit) (k : Shutter)
    (others : ∀ j, j ≠ k → f.shutters[j].state = (s.shutter j).state) (state : f.state = s.fu.state)
    (hold : s.holdLaw → State.holdLaw { s with fu := f }) :
    s.Lawful (if f.shutters[k].state = (s.shutter k).state then { s with fu := f }
      else State.handShutter { s with fu := f } k) := by
  have tripLaw : s.tripLaw → State.tripLaw { s with fu := f } := by
    intro law
    show (s.lc.tripInForce = true ↔ f.state ≠ .clear) ∧ (s.lu.tripInForce = true ↔ f.state ≠ .clear)
      ∧ (s.su.tripInForce = true ↔ f.state ≠ .clear) ∧ ∀ c, (s.channel c).override = .on ↔ f.state ≠ .clear
    rw [state]
    exact law
  split
  · rename_i same
    have all : ∀ j : Shutter, f.shutters[j].state = (s.shutter j).state := fun j => by
      by_cases e : j = k
      · exact e ▸ same
      · exact others j e
    exact { s.steady_fu f hold with
      armed := fun law p h => ⟨(all _).trans (law p h).1, (law p h).2⟩
      lamps := id
      trip := tripLaw }
  · rename_i moved
    have handed := State.lawful_handShutter { s with fu := f } k
    refine { (s.steady_fu f hold).trans handed.toSteady with
      armed := fun law p h => ?_
      lamps := handed.lamps
      trip := handed.trip ∘ tripLaw }
    have act := State.act_handShutter { s with fu := f } k
    obtain ⟨shutter, present⟩ := law p (act.readying p h)
    refine ⟨?_, (act.presence p).trans present⟩
    show ((State.handShutter { s with fu := f } k).fu.shutters[portShutter p]).state = .opened
    rw [act.fu]
    by_cases e : portShutter p = k
    · subst e
      by_contra closed
      exact State.not_readying_handShutter _ p closed h
    · exact (others _ e).trans shutter

theorem State.lawful_moveShutter (k : Shutter) (r : ShutterRecord) (hold : r.hold = (s.shutter k).hold) :
    s.Lawful (s.moveShutter k r) := by
  have get : ∀ j : Shutter, (upd s.fu.shutters k fun _ => r)[j] = if k = j then r else s.shutter j := fun j =>
    upd_get ..
  have moved := s.lawful_shutterMoved { s.fu with shutters := upd s.fu.shutters k fun _ => r } k
    (fun j e => by rw [get, if_neg (Ne.symm e)]) rfl ?_
  · simp only [get, if_true] at moved
    exact moved
  · have kept : ∀ j, (State.shutter { s with fu := { s.fu with shutters := upd s.fu.shutters k fun _ => r } } j).hold
        = (s.shutter j).hold := fun j => by
      show (upd s.fu.shutters k fun _ => r)[j].hold = _
      rw [get]
      split
      · rename_i e; rw [hold, e]
      · rfl
    simp only [State.holdLaw, kept, imp_self]

/-- A shutter record rewritten with its state and hold kept. -/
theorem State.lawful_onShutter (k : Shutter) (f : ShutterRecord → ShutterRecord)
    (state : (f (s.shutter k)).state = (s.shutter k).state) (hold : (f (s.shutter k)).hold = (s.shutter k).hold) :
    s.Lawful (s.onShutter k f) := by
  have same := s.lawful_moveShutter k (f (s.shutter k)) hold
  unfold State.moveShutter at same
  rw [if_pos state] at same
  exact same

theorem State.lawful_raiseAfter {t : State} (h : s.Lawful t) (n : Notice) : s.Lawful (t.raise n) :=
  h.trans (t.lawful_raise n)

/-! ### The SHUT test and the causes (R142, R146) -/

theorem State.lawful_setFire {x : FireState} (old : s.fu.state ≠ .clear) (new : x ≠ .clear) :
    s.Lawful (s.setFire x) :=
  { State.Lawful.refl s with
    hold := fun law => by
      have released : s.fu.underTest = none ∧ ∀ k, (s.shutter k).hold = .released := by
        unfold State.holdLaw at law
        split at law
        · contradiction
        · exact law
        · exact law
      unfold State.holdLaw
      split
      · contradiction
      · exact released
      · exact released
    trip := fun law => by
      have now : (s.setFire x).fu.state = x := rfl
      simpa [State.tripLaw, now, old, new] using law }

theorem State.lawful_shutTest : s.Lawful s.shutTest := by
  unfold State.shutTest
  split
  · exact .refl s
  · rename_i h
    split
    · exact s.lawful_raiseAfter (s.lawful_setFire (by simp [h]) (by simp)) _
    · exact .refl s
  · rename_i h
    split
    · exact .refl s
    · exact s.lawful_setFire (by simp [h]) (by simp)

theorem State.lawful_setCauses (l : List Cause) : s.Lawful (s.setCauses l) := { State.Lawful.refl s with }

end Sys2Proof.Machine
end

section
/-! PROOF. The trip and the rearm keep the laws, and with them every act of the fire unit (spec/02 R34, R35, spec/05
R107, spec/08 R142 to R151). -/

namespace Sys2Proof.Machine

variable (s : State)

/-! ### The line controller takes the trip (R34) -/

theorem State.act_passStops (before : LineControl) : s.Act (s.passStops before) :=
  s.act_foldl _ (fun u _ => u.act_ite (fun _ => u.act_gateFollows ..) (fun _ => .refl u)) _

theorem State.film_passStops (before : LineControl) : s.Film (s.passStops before) :=
  s.film_foldl _ (fun u _ => u.film_ite (fun _ => u.film_gateFollows ..) (fun _ => .refl u)) _

/-- The line controller's own records under the trip. -/
def State.lineStopped : State := { s with lc := s.lc.trip }

theorem State.station_lineStopped (p : Projector) :
    s.lineStopped.station p = { s.station p with desired := .safe } := updAll_get ..

theorem State.watch_lineStopped (c : Screen) : s.lineStopped.watch c = .closed := updAll_get ..

/-- Whatever the line stood at, its own records then meet the law of a trip. -/
theorem State.lineTripLaw_lineStopped : s.lineStopped.lineTripLaw := fun _ => by
  refine ⟨fun p => by rw [station_lineStopped]; rfl, s.watch_lineStopped, fun b hb => List.mem_singleton.mp hb, ?_⟩
  intro c side sent
  simp only [State.lineStopped, LineControl.trip] at sent
  split at sent <;> simp_all

theorem State.steady_lineStopped : s.Steady s.lineStopped :=
  { State.Steady.refl s with
    blade := fun _ c open_ => by simp [State.station_lineStopped, Desired.safe] at open_
    lineTrip := fun _ => s.lineTripLaw_lineStopped }

theorem State.film_lineStopped : s.Film s.lineStopped :=
  .of_eq rfl (fun _ => rfl) (fun _ => rfl) (fun p => by rw [station_lineStopped]) (fun _ => rfl)

theorem State.act_lineStopped_lineTrip : s.lineStopped.Act s.lineTrip :=
  (s.lineStopped.act_passStops s.lc).trans (State.act_foldl _ _ (fun u c => u.act_onBurstDropped c) _)

theorem State.film_lineTrip : s.Film s.lineTrip :=
  (s.film_lineStopped.trans (s.lineStopped.film_passStops s.lc)).trans
    (State.film_foldl _ _ (fun u c => u.film_onBurstDropped c) _)

theorem State.steady_lineTrip : s.Steady s.lineTrip :=
  s.steady_lineStopped.trans (s.act_lineStopped_lineTrip.lawful
    ((s.lineStopped.film_passStops s.lc).trans (State.film_foldl _ _ (fun u c => u.film_onBurstDropped c) _))).toSteady

theorem State.lineTrip_keeps : s.lineTrip.lc.tripInForce = true ∧ s.lineTrip.fu = s.fu :=
  ⟨s.act_lineStopped_lineTrip.lcTrip, s.act_lineStopped_lineTrip.fu⟩

/-! ### The lamp unit takes the trip (R62) -/

/-- The lamp unit's own record of the trip. -/
def State.lampsTripped : State := { s with lu := { s.lu with tripInForce := true } }

theorem State.film_lampsTripped : s.Film s.lampsTripped :=
  .of_eq rfl (fun _ => rfl) (fun _ => rfl) (fun _ => rfl) (fun _ => rfl)

theorem State.act_lampsTripped_lampUnitTrip : s.lampsTripped.Act s.lampUnitTrip :=
  State.act_foldl _ _ (fun u p => u.act_lampTrip p) _

theorem State.film_lampUnitTrip : s.Film s.lampUnitTrip :=
  s.film_lampsTripped.trans (State.film_foldl _ _ (fun u p => u.film_lampTrip p) _)

theorem State.steady_lampUnitTrip : s.Steady s.lampUnitTrip :=
  have own : s.Steady s.lampsTripped := { State.Steady.refl s with }
  own.trans (s.act_lampsTripped_lampUnitTrip.lawful
    (State.film_foldl _ _ (fun u p => u.film_lampTrip p) _)).toSteady

theorem State.lampUnitTrip_keeps : s.lampUnitTrip.lu.tripInForce = true
    ∧ s.lampUnitTrip.lc.tripInForce = s.lc.tripInForce ∧ s.lampUnitTrip.fu = s.fu :=
  ⟨s.act_lampsTripped_lampUnitTrip.luTrip, s.act_lampsTripped_lampUnitTrip.lcTrip, s.act_lampsTripped_lampUnitTrip.fu⟩

/-! ### The show unit takes the trip (R107) -/

/-- The show unit's own record of the trip. -/
def State.showTripped : State := { s with su := { s.su with tripInForce := true } }

theorem State.act_screenTrip (c : Screen) : s.Act (s.screenTrip c) := by
  have record : ∀ u : State, u.Act (u.onScreen c ScreenRecord.trip) := fun u => by
    refine u.act_onScreen c _ rfl rfl fun law => ?_
    unfold ScreenRecord.trip
    dsimp only
    split
    · simp [ScreenState.performing]
    · exact law
  unfold State.screenTrip State.endedIf
  exact ((((s.act_setRole_idle _).andThen (fun u => u.act_setRole_idle _)).andThen (fun u => u.act_clearCounter _)).andThen
    (fun u => u.act_clearCounter _)).andThen record |>.andThen
    (fun u => u.act_ite (fun _ => u.act_raise _) (fun _ => .refl u))

theorem State.film_screenTrip (c : Screen) : s.Film (s.screenTrip c) := by
  unfold State.screenTrip State.endedIf
  exact ((((s.film_setRole _ _).andThen (fun u => u.film_setRole _ _)).andThen (fun u => u.film_clearCounter _)).andThen
    (fun u => u.film_clearCounter _)).andThen (fun u => u.film_onScreen c _ rfl) |>.andThen
    (fun u => u.film_ite (fun _ => u.film_raise _) (fun _ => .refl u))

theorem State.role_screenTrip (c : Screen) (p : Projector) :
    (s.screenTrip c).role p = if screenOf p = c then .idle else s.role p := by
  have sides : ∀ (c : Screen) (p : Projector),
      screenOf p = c ↔ p = projectorOf c .b ∨ p = projectorOf c .a := by decide
  have ended : ∀ (u : State) (b : Bool), (u.endedIf c b).role p = u.role p := fun u b => by
    unfold State.endedIf; split <;> rfl
  simp only [State.screenTrip, ended, State.onScreen_role, State.clearCounter, State.onMotion_role, State.role_setRole,
    sides, eq_comm (a := p)]
  by_cases b : projectorOf c .b = p <;> by_cases x : projectorOf c .a = p <;> simp [b, x]

theorem State.showTrip_eq : s.showTrip = (List.finRange 4).foldl State.screenTrip s.showTripped := rfl

theorem State.act_showTripped_showTrip : s.showTripped.Act s.showTrip :=
  s.showTrip_eq ▸ State.act_foldl _ State.screenTrip (fun u c => u.act_screenTrip c) _

theorem State.film_showTripped_showTrip : s.showTripped.Film s.showTrip :=
  s.showTrip_eq ▸ State.film_foldl _ State.screenTrip (fun u c => u.film_screenTrip c) _

theorem State.film_showTrip : s.Film s.showTrip :=
  have own : s.Film s.showTripped := .of_eq rfl (fun _ => rfl) (fun _ => rfl) (fun _ => rfl) (fun _ => rfl)
  own.trans s.film_showTripped_showTrip

theorem State.steady_showTrip : s.Steady s.showTrip :=
  have own : s.Steady s.showTripped := { State.Steady.refl s with }
  own.trans (s.act_showTripped_showTrip.lawful s.film_showTripped_showTrip).toSteady

theorem State.showTrip_keeps : s.showTrip.su.tripInForce = true ∧ s.showTrip.lc.tripInForce = s.lc.tripInForce
    ∧ s.showTrip.lu.tripInForce = s.lu.tripInForce ∧ s.showTrip.fu = s.fu :=
  ⟨s.act_showTripped_showTrip.suTrip, s.act_showTripped_showTrip.lcTrip, s.act_showTripped_showTrip.luTrip,
    s.act_showTripped_showTrip.fu⟩

/-- The trip leaves every projector IDLE. -/
theorem State.role_showTrip (p : Projector) : s.showTrip.role p = .idle :=
  s.showTrip_eq ▸ foldl_brings (I := fun _ => True) (P := fun u => u.role p = .idle) (fun _ _ _ => trivial)
    (fun u c _ idle => by rw [State.role_screenTrip, idle, ite_self]) (List.mem_finRange (screenOf p))
    (fun u _ => by rw [State.role_screenTrip, if_pos rfl]) s.showTripped trivial

/-! ### The house light unit takes the trip (R136) -/

theorem State.channel_houseTrip (c : Channel) : s.houseTrip.channel c = (s.channel c).trip := updAll_get ..

theorem State.film_houseTrip : s.Film s.houseTrip where
  counter _ := le_rfl
  reels _ := .inl
  lamps := id
  full _ c _ := by
    rw [s.channel_houseTrip]
    simp [HouseChannel.trip, Config.fullFine]

theorem HouseChannel.fadeLaw_trip (c : HouseChannel) : c.trip.fadeLaw :=
  ⟨rfl, show Config.fullFine = 255 * 256 by decide⟩

theorem State.steady_houseTrip : s.Steady s.houseTrip :=
  { State.Steady.refl s with
    house := fun _ c => by
      rw [s.channel_houseTrip]
      exact HouseChannel.fadeLaw_trip _
    full := s.film_houseTrip.full }

/-! ### The trip entered (R143) -/

/-- The fire unit's own records of the trip, its notice raised. -/
def State.fireTripped (c : Cause) : State := State.raise { s with fu := s.fu.trip c } noticeFireTrip

theorem State.shutter_fireTripped (c : Cause) (k : Shutter) : (s.fireTripped c).shutter k = (s.shutter k).trip :=
  updAll_get ..

theorem ShutterRecord.hold_trip (r : ShutterRecord) : r.trip.hold = .released := by
  unfold ShutterRecord.trip
  dsimp only
  split
  · rfl
  · split <;> rfl

theorem State.holdLaw_fireTripped (c : Cause) : (s.fireTripped c).holdLaw :=
  ⟨rfl, fun k => by rw [s.shutter_fireTripped]; exact ShutterRecord.hold_trip _⟩

theorem State.steady_fireTripped (c : Cause) : s.Steady (s.fireTripped c) :=
  State.Steady.trans (s.steady_fu (s.fu.trip c) fun _ => s.holdLaw_fireTripped c)
    (State.lawful_raise _ noticeFireTrip).toSteady

theorem State.act_handTripShutters (before : FireUnit) : s.Act (s.handTripShutters before) :=
  s.act_foldl _ (fun u _ => u.act_ite (fun _ => .refl u) (fun _ => u.act_handShutter _)) _

theorem State.film_handTripShutters (before : FireUnit) : s.Film (s.handTripShutters before) :=
  s.film_foldl _ (fun u _ => u.film_ite (fun _ => .refl u) (fun _ => u.film_handShutter _)) _

theorem State.steady_signalTrip : s.Steady s.signalTrip :=
  ((s.steady_lineTrip.trans (State.steady_lampUnitTrip _)).trans (State.steady_showTrip _)).trans
    (State.steady_houseTrip _)

theorem State.film_signalTrip : s.Film s.signalTrip :=
  ((s.film_lineTrip.trans (State.film_lampUnitTrip _)).trans (State.film_showTrip _)).trans (State.film_houseTrip _)

/-- The trip signalled is in force in every block. -/
theorem State.trip_signalTrip :
    s.signalTrip.lc.tripInForce = true ∧ s.signalTrip.lu.tripInForce = true ∧ s.signalTrip.su.tripInForce = true
      ∧ (∀ c, (s.signalTrip.channel c).override = .on) ∧ s.signalTrip.fu = s.fu := by
  obtain ⟨lineLc, lineFu⟩ := s.lineTrip_keeps
  obtain ⟨lampsLu, lampsLc, lampsFu⟩ := s.lineTrip.lampUnitTrip_keeps
  obtain ⟨showSu, showLc, showLu, showFu⟩ := s.lineTrip.lampUnitTrip.showTrip_keeps
  refine ⟨?_, ?_, ?_, fun c => ?_, ?_⟩
  · rw [State.signalTrip, State.houseTrip, showLc, lampsLc, lineLc]
  · rw [State.signalTrip, State.houseTrip, showLu, lampsLu]
  · rw [State.signalTrip, State.houseTrip, showSu]
  · rw [State.signalTrip, State.channel_houseTrip, HouseChannel.trip]
  · rw [State.signalTrip, State.houseTrip, showFu, lampsFu, lineFu]

theorem State.role_signalTrip (p : Projector) : s.signalTrip.role p = .idle := by
  have idle := s.lineTrip.lampUnitTrip.role_showTrip p
  rw [State.role] at idle ⊢
  rw [State.signalTrip, State.houseTrip, idle]

/-- The laws where the trip changes in every block, no projector is readying at the end, and the show unit is told of
the shutters in between. -/
theorem State.Lawful.of_trip {s u t : State} (own : s.Steady u) (lamps : s.lampLaw → u.lampLaw) (trip : u.tripLaw)
    (act : u.Act t) (film : u.Film t) (idle : ∀ p, ¬ (t.role p).readying) : s.Lawful t :=
  have handed := act.lawful film
  { own.trans handed.toSteady with
    armed := fun _ => t.armedLaw_of_not_readying idle
    lamps := handed.lamps ∘ lamps
    trip := fun _ => handed.trip trip }

theorem State.tripLaw_signalTrip (h : s.fu.state ≠ .clear) : s.signalTrip.tripLaw := by
  obtain ⟨lc, lu, su, channels, fu⟩ := s.trip_signalTrip
  rw [← fu] at h
  exact ⟨iff_of_true lc h, iff_of_true lu h, iff_of_true su h, fun c => iff_of_true (channels c) h⟩

theorem State.lawful_enterTrip (c : Cause) : s.Lawful (s.enterTrip c) := by
  have tripped : (s.fireTripped c).fu.state ≠ .clear := fun h => nomatch h
  have own : s.Steady (s.fireTripped c).signalTrip := (s.steady_fireTripped c).trans (State.steady_signalTrip _)
  have lamps : s.lampLaw → (s.fireTripped c).signalTrip.lampLaw := (s.fireTripped c).film_signalTrip.lamps
  have act := (s.fireTripped c).signalTrip.act_handTripShutters s.fu
  have film := (s.fireTripped c).signalTrip.film_handTripShutters s.fu
  refine (State.Lawful.of_trip own lamps (State.tripLaw_signalTrip _ tripped) act film fun p readying => ?_).trans
    (State.lawful_shutTest _)
  have := act.readying p readying
  simp [State.role_signalTrip, Role.readying] at this

theorem State.lawful_takeCause (c : Cause) : s.Lawful (s.takeCause c) := by
  have recorded : s.Lawful (if c ∈ s.fu.causes then s
      else (s.setCauses (s.fu.causes ++ [c])).raise noticeTripCauseAdded) := by
    split
    · exact .refl s
    · exact s.lawful_raiseAfter (s.lawful_setCauses _) _
  unfold State.takeCause
  split
  · exact s.lawful_enterTrip c
  · exact recorded
  · exact recorded

theorem State.lawful_flameFlag (p : Projector) (flag : Sensor) : s.Lawful (s.flameFlag p flag) := by
  unfold State.flameFlag
  split
  · exact s.lawful_takeCause _
  · exact .refl s

/-- The alarm's accepted level and its pin written. -/
def State.alarmAt (level : Activity) : State :=
  { s with fu := { s.fu with alarm := level, alarmRun := 0 }, pins := { s.pins with alarm := level } }

theorem State.lawful_alarmAt (level : Activity) : s.Lawful (s.alarmAt level) := { State.Lawful.refl s with }

theorem State.alarmChange_eq (level : Activity) : s.alarmChange level =
    if level = .active && s.fu.alarm = .inactive then (s.alarmAt level).takeCause .alarmLine else s.alarmAt level := rfl

theorem State.lawful_alarmChange (level : Activity) : s.Lawful (s.alarmChange level) := by
  rw [s.alarmChange_eq]
  split
  · exact (s.lawful_alarmAt level).trans (State.lawful_takeCause _ _)
  · exact s.lawful_alarmAt level

/-! ### The rearm (R148) -/

/-- The fire unit's own records of the rearm, its notice raised, and the trip ended in every block. -/
def State.rearmed : State :=
  (State.raise { s with fu := s.fu.rearm } noticeFireRearmed).lineRearm.lampUnitRearm.showRearm.houseRearm

theorem State.shutter_rearmed (k : Shutter) :
    s.rearmed.shutter k = { s.shutter k with state := .raising, hold := .energized, dropTimer := none } :=
  updAll_get ..

theorem State.channel_rearmed (c : Channel) : s.rearmed.channel c = { s.channel c with override := .off } :=
  updAll_get ..

theorem State.rearm_eq : s.rearm = (List.finRange 12).foldl State.handShutter s.rearmed := rfl

theorem State.act_rearmed_rearm : s.rearmed.Act s.rearm :=
  s.rearm_eq ▸ State.act_foldl _ State.handShutter (fun u k => u.act_handShutter k) _

theorem State.film_rearmed_rearm : s.rearmed.Film s.rearm :=
  s.rearm_eq ▸ State.film_foldl _ State.handShutter (fun u k => u.film_handShutter k) _

theorem State.not_readying_rearm (p : Projector) : ¬ (s.rearm.role p).readying := by
  rw [s.rearm_eq]
  have raising : (s.rearmed.shutter (portShutter p)).state ≠ .opened := by
    rw [s.shutter_rearmed]
    exact nofun
  refine foldl_brings (I := fun u : State => u.fu = s.rearmed.fu) (P := fun u => ¬ (u.role p).readying)
    (fun u k fu => (u.act_handShutter k).fu.trans fu) (fun u k _ idle => idle ∘ (u.act_handShutter k).readying p)
    (List.mem_finRange (portShutter p)) (fun u fu => u.not_readying_handShutter p ?_) s.rearmed rfl
  rw [State.shutter, fu]
  exact raising

theorem State.holdLaw_rearmed (trip : s.fu.state ≠ .clear) (law : s.holdLaw) : s.rearmed.holdLaw := by
  have free : s.rearmed.fu.underTest = none := by
    show s.fu.underTest = none
    unfold State.holdLaw at law
    split at law
    · contradiction
    · exact law.1
    · exact law.1
  show ∀ k, (s.rearmed.shutter k).hold = if s.rearmed.fu.underTest = some k then .released else .energized
  intro k
  rw [s.shutter_rearmed, free]
  rfl

theorem State.steady_rearmed (trip : s.fu.state ≠ .clear) : s.Steady s.rearmed :=
  { State.Steady.refl s with
    attention := (s.lawful_raise noticeFireRearmed).attention
    dataLine := (s.lawful_raise noticeFireRearmed).dataLine
    lineTrip := fun _ ended => nomatch ended
    house := fun law c => by rw [s.channel_rearmed]; exact law c
    full := fun _ c on => by rw [s.channel_rearmed] at on; exact nomatch on
    hold := s.holdLaw_rearmed trip }

theorem State.tripLaw_rearmed : s.rearmed.tripLaw := by
  refine ⟨iff_of_false nofun (· rfl), iff_of_false nofun (· rfl), iff_of_false nofun (· rfl), fun c => ?_⟩
  refine iff_of_false (fun on => ?_) (· rfl)
  rw [s.channel_rearmed] at on
  exact nomatch on

theorem State.lawful_rearm (trip : s.fu.state ≠ .clear) : s.Lawful s.rearm :=
  .of_trip (s.steady_rearmed trip) id s.tripLaw_rearmed s.act_rearmed_rearm s.film_rearmed_rearm s.not_readying_rearm

theorem lawful_fireRearmRule : s.Lawful (fireRearmRule s).state := by
  unfold fireRearmRule
  split
  · rename_i may
    have trip : s.fu.state ≠ .clear := fun clear => by simp [State.mayRearm, clear] at may
    dsimp only
    exact s.lawful_rearm trip
  · exact .refl s

/-! ### Shutter events and drop tests (R145, R149 to R151) -/

theorem State.lawful_endTest (k : Shutter) (v : ShutterState) (x : TestResult) (clear : s.fu.state = .clear)
    (test : s.fu.underTest = some k) : s.Lawful (s.endTest k v x) := by
  refine s.lawful_raiseAfter ?_ _
  have get : ∀ j : Shutter, (upd s.fu.shutters k fun _ => (s.shutter k).endTest v x)[j]
      = if k = j then (s.shutter k).endTest v x else s.shutter j := fun j => upd_get ..
  have moved := s.lawful_shutterMoved
    { s.fu with underTest := none, shutters := upd s.fu.shutters k fun _ => (s.shutter k).endTest v x } k
    (fun j e => by rw [get, if_neg (Ne.symm e)]) rfl ?_
  · simp only [get, if_true] at moved
    exact moved
  · intro law
    have held : ∀ j, (s.shutter j).hold = if s.fu.underTest = some j then .released else .energized := by
      simpa [State.holdLaw, clear] using law
    show State.holdLaw { s with fu := { s.fu with
      underTest := none, shutters := upd s.fu.shutters k fun _ => (s.shutter k).endTest v x } }
    simp only [State.holdLaw, clear]
    intro j
    show (upd s.fu.shutters k fun _ => (s.shutter k).endTest v x)[j].hold = _
    rw [get]
    split
    · rfl
    · rename_i e
      simpa [test, e] using held j

theorem State.lawful_startTest (k : Shutter) (may : s.mayTest k = true) : s.Lawful (s.startTest k) := by
  obtain ⟨⟨⟨clear, free⟩, -⟩, -⟩ : ((s.fu.state = .clear ∧ s.fu.underTest = none) ∧ _) ∧ _ := by
    simpa [State.mayTest] using may
  let dropped : ShutterRecord :=
    { s.shutter k with state := .dropping, hold := .released, dropTimer := some (.start Config.dropTime) }
  have get : ∀ j : Shutter, (upd s.fu.shutters k fun _ => dropped)[j] = if k = j then dropped else s.shutter j :=
    fun j => upd_get ..
  have moved := s.lawful_shutterMoved
    { s.fu with underTest := some k, shutters := upd s.fu.shutters k fun _ => dropped } k
    (fun j e => by rw [get, if_neg (Ne.symm e)]) rfl ?_
  · simp only [get, if_true] at moved
    exact moved
  · intro law
    have held : ∀ j, (s.shutter j).hold = .energized := by
      simpa [State.holdLaw, clear, free] using law
    simp only [State.holdLaw, clear]
    intro j
    show (upd s.fu.shutters k fun _ => dropped)[j].hold = _
    rw [get]
    split
    · rename_i e; simp [e, dropped]
    · rename_i e; simp [e, held]

theorem lawful_shutterTestRule (k : Shutter) : s.Lawful (shutterTestRule s k).state := by
  unfold shutterTestRule
  split
  · exact s.lawful_startTest k ‹_›
  · exact .refl s

theorem State.lawful_limitDownClear (k : Shutter) (clear : s.fu.state = .clear) :
    s.Lawful (s.limitDownClear k) := by
  unfold State.limitDownClear
  dsimp only
  split
  · split
    · exact .refl s
    · exact s.lawful_takeCause _
  · split
    · exact s.lawful_endTest k _ _ clear ‹_›
    · exact .refl s
  · exact s.lawful_moveShutter k _ rfl
  · exact .refl s
  · exact .refl s

theorem State.lawful_limitUpClear (k : Shutter) : s.Lawful (s.limitUpClear k) := by
  unfold State.limitUpClear
  dsimp only
  split
  · exact s.lawful_moveShutter k _ rfl
  all_goals exact .refl s

theorem State.lawful_moveShutter_shutTest (k : Shutter) (r : ShutterRecord) (hold : r.hold = (s.shutter k).hold) :
    s.Lawful (s.moveShutter k r).shutTest := (s.lawful_moveShutter k r hold).trans (State.lawful_shutTest _)

theorem State.lawful_limitDownTrip (k : Shutter) : s.Lawful (s.limitDownTrip k) := by
  unfold State.limitDownTrip
  dsimp only
  split
  · exact s.lawful_moveShutter_shutTest k _ rfl
  · exact s.lawful_moveShutter_shutTest k _ rfl
  all_goals exact .refl s

theorem State.lawful_limitUpTrip (k : Shutter) : s.Lawful (s.limitUpTrip k) := by
  unfold State.limitUpTrip
  dsimp only
  split
  · exact s.lawful_moveShutter_shutTest k _ rfl
  all_goals exact .refl s

theorem State.lawful_limitChange (k : Shutter) (level : Activity) : s.Lawful (s.limitChange k level) := by
  let written : State := State.onShutter
    { s with pins := { s.pins with limits := upd s.pins.limits k (fun _ => level) } } k
    (fun r => { r with limit := level, sampleRun := 0 })
  have own : s.Lawful written := (s.lawful_pins _).trans (State.lawful_onShutter _ k _ rfl rfl)
  unfold State.limitChange
  dsimp only
  split
  · exact own
  · split
    · rename_i clear _
      exact own.trans (written.lawful_limitDownClear k clear)
    · exact own.trans (written.lawful_limitUpClear k)
    · exact own.trans (written.lawful_limitDownTrip k)
    · exact own.trans (written.lawful_limitUpTrip k)
    · exact own.trans (written.lawful_limitDownTrip k)
    · exact own.trans (written.lawful_limitUpTrip k)

theorem State.lawful_dropTimeout (k : Shutter) : s.Lawful (s.dropTimeout k) := by
  have jammed := (s.lawful_raiseAfter (s.lawful_moveShutter k
    { s.shutter k with state := .jammed, dropTimer := none } rfl) noticeShutterJam).trans (State.lawful_shutTest _)
  unfold State.dropTimeout
  dsimp only
  split
  · exact .refl s
  · split
    · rename_i clear _
      split
      · exact s.lawful_endTest k _ _ clear ‹_›
      · exact s.lawful_onShutter k _ rfl rfl
    · exact jammed
    · exact jammed
    · exact s.lawful_onShutter k _ rfl rfl

end Sys2Proof.Machine
end

section
/-! PROOF. The line controller and the mains keep the laws (spec/02 R24 to R40, spec/07 R126 to R130). -/

namespace Sys2Proof.Machine

variable (s : State)

/-! ### Station records and presence (R27) -/

/-- A station record rewritten with its desired state kept. -/
theorem State.steady_onStation (p : Projector) (f : Station → Station)
    (desired : (f (s.station p)).desired = (s.station p).desired) : s.Steady (s.onStation p f) := by
  have same : ∀ q, ((s.onStation p f).station q).desired = (s.station q).desired := fun q => by
    by_cases e : p = q
    · subst e; simpa using desired
    · simp [e]
  exact { State.Steady.refl s with
    blade := fun law c => by rw [same, same]; exact law c
    lineTrip := fun law trip => by
      obtain ⟨safe, rest⟩ := law trip
      exact ⟨fun q => by rw [same]; exact safe q, rest⟩ }

theorem State.lawful_onStation (p : Projector) (f : Station → Station)
    (desired : (f (s.station p)).desired = (s.station p).desired)
    (presence : (f (s.station p)).presence = (s.station p).presence) : s.Lawful (s.onStation p f) := by
  have same : ∀ q, ((s.onStation p f).station q).presence = (s.station q).presence := fun q => by
    by_cases e : p = q
    · subst e; simpa using presence
    · simp [e]
  exact { s.steady_onStation p f desired with
    armed := fun law q h => by rw [same]; exact law q h
    lamps := fun law q => by rw [same]; exact law q
    trip := id }

/-- A good reply by the presence it finds (R27). -/
theorem Station.goodReply_cases (r : Station) :
    (r.presence = .present ∧ r.goodReply = { r with missRun := 0 })
      ∨ (r.presence ≠ .present ∧ r.goodRun = 0 ∧ r.goodReply = { r with goodRun := 1 })
      ∨ (r.presence ≠ .present ∧ 1 ≤ r.goodRun
          ∧ r.goodReply = { r with presence := .present, goodRun := 0, missRun := 0 }) := by
  have away (h : r.presence ≠ .present) :
      r.goodReply = if r.goodRun + 1 < 2 then { r with goodRun := r.goodRun + 1 }
        else { r with presence := .present, goodRun := 0, missRun := 0 } := by
    unfold Station.goodReply
    split
    · contradiction
    all_goals rfl
  by_cases present : r.presence = .present
  · exact .inl ⟨present, by simp [Station.goodReply, present]⟩
  · rw [away present]
    by_cases first : r.goodRun = 0
    · exact .inr (.inl ⟨present, first, by simp [first]⟩)
    · exact .inr (.inr ⟨present, by omega, by rw [if_neg (by omega)]⟩)

/-- A miss by the presence and the miss run it finds (R27). -/
theorem Station.miss_cases (r : Station) :
    (r.presence = .present ∧ r.missRun < 2 ∧ r.miss = { r with missRun := r.missRun + 1 })
      ∨ (r.presence = .present ∧ 2 ≤ r.missRun
          ∧ r.miss = { r with presence := .lost, missRun := 0, goodRun := 0, rareCountdown := Config.rareCycles, reportOld := true })
      ∨ (r.presence ≠ .present ∧ r.miss = { r with goodRun := 0 }) := by
  unfold Station.miss
  split
  · rename_i present
    have : Config.missesToLose = 3 := rfl
    split
    · exact .inl ⟨present, by omega, rfl⟩
    · exact .inr (.inl ⟨present, by omega, rfl⟩)
  · rename_i absent; exact .inr (.inr ⟨by simp [absent], rfl⟩)
  · rename_i lost; exact .inr (.inr ⟨by simp [lost], rfl⟩)

theorem State.film_lampPresence (p : Projector) (old : Presence) :
    s.Film (s.lampPresence p old (s.station p).presence) := by
  unfold State.lampPresence
  split
  · exact s.film_onLamp p _ fun law => ⟨(law p).1, nofun⟩
  · rename_i away
    split
    · rename_i h
      obtain ⟨-, burning⟩ : old = .present ∧ (s.lamp p).state = .burning := by simpa using h
      exact s.film_onLamp p _ fun law => ⟨(law p).1, fun _ => ⟨burning, away⟩⟩
    · exact .refl s

theorem State.film_handPresence (p : Projector) (old : Presence) : s.Film (s.handPresence p old) :=
  (s.film_lampPresence p old).andThen (fun u => u.film_showPresence ..)

/-- A station that becomes PRESENT, handed on. -/
theorem State.lawful_found (p : Projector) (f : Station → Station) (old : Presence)
    (desired : (f (s.station p)).desired = (s.station p).desired) (present : (f (s.station p)).presence = .present) :
    s.Lawful (((s.onStation p f).raise noticeStationPresent).handPresence p old) := by
  let found : State := (s.onStation p f).raise noticeStationPresent
  let lit : State := found.onLamp p (fun l => { l with holdTimer := none })
  have there : (found.station p).presence = .present := by simpa [found] using present
  have film : found.Film lit := found.film_onLamp p _ fun law => ⟨(law p).1, nofun⟩
  have shown : lit.Lawful (lit.showPresence p .present) :=
    (State.act_showPresence lit p .present).lawful (State.film_showPresence lit p .present)
  have whole : s.Lawful lit :=
    { ((s.steady_onStation p f desired).trans (State.lawful_raise _ _).toSteady).trans
        ((found.act_onLamp p _).lawful film).toSteady with
      armed := fun law q h => by
        obtain ⟨shutter, was⟩ := law q h
        refine ⟨shutter, ?_⟩
        by_cases e : p = q
        · subst e; exact there
        · simpa [lit, found, e] using was
      lamps := fun law q => by
        by_cases e : p = q
        · subst e
          have fits : (lit.lamp p).feedLaw ∧ (lit.lamp p).holdTimer = none := by
            simp only [lit, found, State.lamp_onLamp, if_true, and_true]
            exact (law p).1
          exact ⟨fits.1, fun held => by simp [fits.2] at held⟩
        · simpa [lit, found, e] using law q
      trip := id }
  have eq : found.handPresence p old = lit.showPresence p .present := by
    simp [State.handPresence, State.lampPresence, there, lit]
  rw [show (s.onStation p f).raise noticeStationPresent = found from rfl, eq]
  exact whole.trans shown

/-- A station that is PRESENT no more, handed on. -/
theorem State.lawful_lost (p : Projector) (f : Station → Station) (old : Presence)
    (desired : (f (s.station p)).desired = (s.station p).desired) (away : (f (s.station p)).presence ≠ .present) :
    s.Lawful (((s.onStation p f).raise noticeStationLost).handPresence p old) := by
  let lost : State := (s.onStation p f).raise noticeStationLost
  have gone : (lost.station p).presence ≠ .present := by simpa [lost] using away
  have act := lost.act_handPresence p old
  have handed := act.lawful (lost.film_handPresence p old)
  refine { ((s.steady_onStation p f desired).trans (State.lawful_raise _ _).toSteady).trans handed.toSteady with
    armed := fun law q h => ?_
    lamps := fun law => handed.lamps fun q => ?_
    trip := handed.trip }
  · by_cases e : p = q
    · subst e
      exact absurd h (State.not_readying_showPresence _ p gone)
    · obtain ⟨shutter, was⟩ := law q (act.readying q h)
      refine ⟨?_, (act.presence q).trans ?_⟩
      · rw [State.shutter, act.fu]; exact shutter
      · simpa [lost, e] using was
  · by_cases e : p = q
    · subst e
      exact ⟨(law p).1, fun held => ⟨((law p).2 held).1, gone⟩⟩
    · simpa [lost, e] using law q

theorem State.lawful_goodReply (p : Projector) : s.Lawful (s.goodReply p) := by
  have desired : (s.station p).goodReply.desired = (s.station p).desired := by
    obtain ⟨-, e⟩ | ⟨-, -, e⟩ | ⟨-, -, e⟩ := (s.station p).goodReply_cases <;> rw [e]
  unfold State.goodReply
  dsimp only
  split
  · rename_i same
    exact s.lawful_onStation p _ desired (by simpa using same)
  · rename_i moved
    refine s.lawful_found p _ _ desired ?_
    rw [State.station_onStation, if_pos rfl] at moved
    obtain ⟨-, e⟩ | ⟨-, -, e⟩ | ⟨-, -, e⟩ := (s.station p).goodReply_cases <;> simp_all

theorem State.lawful_miss (p : Projector) : s.Lawful (s.miss p) := by
  have desired : (s.station p).miss.desired = (s.station p).desired := by
    obtain ⟨-, -, e⟩ | ⟨-, -, e⟩ | ⟨-, e⟩ := (s.station p).miss_cases <;> rw [e]
  unfold State.miss
  dsimp only
  split
  · rename_i same
    exact s.lawful_onStation p _ desired (by simpa using same)
  · rename_i moved
    refine s.lawful_lost p _ _ desired ?_
    rw [State.station_onStation, if_pos rfl] at moved
    obtain ⟨-, -, e⟩ | ⟨-, -, e⟩ | ⟨-, e⟩ := (s.station p).miss_cases <;> simp_all

/-! ### Polls, windows and replies (R25 to R31, R39) -/

theorem State.lawful_pollSent : s.Lawful s.pollSent :=
  s.act_pollSent.lawful (.of_eq rfl (fun _ => rfl) (fun _ => rfl) (fun p => by simp) (fun _ => rfl))

theorem State.lawful_setWindow (w : Window) : s.Lawful (s.setWindow w) := (s.act_setWindow w).lawful (s.film_setWindow w)

theorem State.lawful_judgePoll (p : Projector) (blade : Option Opening) : s.Lawful (s.judgePoll p blade) :=
  (s.act_judgePoll p blade).lawful (s.film_judgePoll p blade)

theorem State.lawful_endWindow : s.Lawful s.endWindow := by
  refine s.lawful_pollSent.trans ?_
  unfold State.endWindow
  obtain ⟨-, e⟩ | ⟨p, blade, -, e⟩ | ⟨p, -, e⟩ := s.pollSent.judgeWindow_cases <;> rw [e]
  · exact .refl _
  · exact (State.lawful_setWindow _ _).trans (State.lawful_judgePoll ..)
  · exact ((State.lawful_setWindow _ _).trans (State.lawful_miss ..)).trans (State.lawful_judgePoll ..)

@[simp] theorem Station.takeReport_presence (r : Station) (fresh : Bool) (x : Report) :
    (r.takeReport fresh x).presence = r.presence := by cases fresh <;> rfl

@[simp] theorem Station.takeReport_desired (r : Station) (fresh : Bool) (x : Report) :
    (r.takeReport fresh x).desired = r.desired := by cases fresh <;> rfl

theorem State.act_handMeasured (p : Projector) (fresh : Bool) (x : Report) : s.Act (s.handMeasured p fresh x) := by
  unfold State.handMeasured
  exact s.act_ite (fun _ => (s.act_sample ..).andThen (fun u => u.act_onMarkCount ..)) (fun _ => .refl s)

theorem State.lawful_takeReport (p : Projector) (toggle : Bool) (x : Report)
    (present : (s.station p).presence = .present) : s.Lawful (s.takeReport p toggle x) := by
  refine State.Lawful.trans (State.Lawful.trans (State.Lawful.trans (s.lawful_onStation p _ ?_ ?_)
    (State.Act.lawful (State.act_handMeasured _ p _ x) ?_)) (State.lawful_examine _ _)) (State.lawful_flameFlag _ _ _)
  · simp
  · simp
  · unfold State.handMeasured
    refine State.film_ite _ (fun _ => (State.film_sample _ p _ _ ?_).andThen (fun u => u.film_onMarkCount ..))
      (fun _ => .refl _)
    simpa using present

theorem State.lawful_takeReply (p : Projector) (r : Reply) : s.Lawful (s.takeReply p r) := by
  have good := s.lawful_goodReply p
  unfold State.takeReply
  dsimp only
  split
  · rename_i present
    exact (good.trans (State.lawful_setWindow _ _)).trans (State.lawful_takeReport _ p _ _ present)
  · exact (good.trans (State.lawful_setWindow _ _)).trans (State.lawful_flameFlag _ _ _)
  · exact (good.trans (State.lawful_setWindow _ _)).trans (State.lawful_flameFlag _ _ _)
  · exact good.trans (State.lawful_setWindow _ _)

theorem State.lawful_receiveFrame (begun : Nat) (signal : List Nat) : s.Lawful (s.receiveFrame begun signal) := by
  obtain ⟨-, e⟩ | ⟨-, -, e, -⟩ | ⟨p, r, -, -, -, e⟩ | ⟨p, -, -, -, e⟩ := s.receiveFrame_cases begun signal <;> rw [e]
  · exact .refl s
  · exact s.lawful_pollSent
  · exact s.lawful_pollSent.trans (State.lawful_takeReply _ p r)
  · exact s.lawful_pollSent.trans (State.lawful_setWindow _ _)

/-! ### Frames sent, and slots (R24, R37, R38, R40) -/

theorem State.lawful_setSending (x : Sending)
    (h : s.lineTripLaw → s.lc.tripInForce = true → ∀ c side, x ≠ .burst (.changeover c side)) :
    s.Lawful (s.setSending x) :=
  { State.Lawful.refl s with
    lineTrip := fun law trip => by
      obtain ⟨safe, watches, queue, -⟩ := law trip
      exact ⟨safe, watches, queue, h law trip⟩ }

theorem State.lawful_lineResetSent : s.Lawful s.lineResetSent :=
  { State.Lawful.refl s with
    lineTrip := fun law trip => by
      obtain ⟨safe, watches, queue, -⟩ := law trip
      exact ⟨safe, watches, queue, nofun⟩ }

/-- The changeover burst of a screen written and its watch opened, its sending at an end (R37). -/
def State.burstWritten (c : Screen) (side : Side) : State :=
  let blade (x : Side) : Opening := if x = side then .opened else .closed
  let watched (x : Side) : WatchStation := ⟨blade x, .waiting Config.watchPolls⟩
  (((s.onDesired (projectorOf c .a) (fun d => { d with blade := blade .a })).onDesired (projectorOf c .b)
    (fun d => { d with blade := blade .b })).setWatch c (.opened (watched .a) (watched .b))).setSending .nothing

/-- Both blades of the screen as the burst writes them; no other station is touched. -/
theorem State.station_burstWritten (c : Screen) (side : Side) (q : Projector) :
    (s.burstWritten c side).station q =
      if screenOf q = c then
        { s.station q with desired :=
          { (s.station q).desired with blade := if sideOf q = side then .opened else .closed } }
      else s.station q := by
  have sides : ∀ (c : Screen) (q : Projector), screenOf q = c ↔
      (q = projectorOf c .a ∧ sideOf q = .a) ∨ (q = projectorOf c .b ∧ sideOf q = .b) := by decide
  have ne : projectorOf c .b ≠ projectorOf c .a := sides_differ c
  by_cases h : screenOf q = c
  · obtain ⟨rfl, e⟩ | ⟨rfl, e⟩ := (sides c q).mp h <;> simp [State.burstWritten, h, e, ne, ne.symm]
  · have off : ∀ side, projectorOf c side ≠ q := by
      rintro side rfl
      exact h (screenOf_projectorOf c side)
    simp [State.burstWritten, h, off]

theorem State.lawful_burstWritten (c : Screen) (side : Side) (h : s.lc.sending = .burst (.changeover c side)) :
    s.Lawful (s.burstWritten c side) := by
  have presence : ∀ q, ((s.burstWritten c side).station q).presence = (s.station q).presence := fun q => by
    rw [s.station_burstWritten]
    split <;> rfl
  exact { State.Lawful.refl s with
    blade := fun law d both => by
      rw [s.station_burstWritten, s.station_burstWritten] at both
      simp only [screenOf_projectorOf, sideOf_projectorOf] at both
      by_cases e : d = c
      · subst e
        cases side <;> simp at both
      · rw [if_neg e, if_neg e] at both
        exact law d both
    lineTrip := fun law trip => by
      obtain ⟨-, -, -, none⟩ := law trip
      exact absurd h (none c side)
    armed := fun law q readying => by rw [presence]; exact law q readying
    lamps := fun law q => by rw [presence]; exact law q }

theorem State.lawful_changeoverSent (c : Screen) (side : Side) (h : s.lc.sending = .burst (.changeover c side)) :
    s.Lawful (s.changeoverSent c side) :=
  (s.lawful_burstWritten c side h).trans ((State.act_onBurstSent _ c side).lawful (State.film_onBurstSent _ c side))

theorem State.lawful_frameSent : s.Lawful s.frameSent := by
  unfold State.frameSent
  split
  · exact .refl s
  · exact s.lawful_lineResetSent
  · exact s.lawful_setSending _ fun _ _ => nofun
  · exact s.lawful_changeoverSent _ _ ‹_›
  · exact s.lawful_pollSent

theorem State.lawful_sendPoll (p : Projector) : s.Lawful (s.sendPoll p) := s.lawful_setSending _ fun _ _ => nofun

theorem State.lawful_carry (p : Projector) : s.Lawful (s.carry p) := by
  unfold State.carry
  split
  · exact s.lawful_setSending _ fun _ _ => nofun
  · split
    · rename_i b rest queue
      have taken : s.Lawful (s.setQueue rest) :=
        (s.act_setQueue rest fun _ x hx => queue ▸ List.mem_cons_of_mem b hx).lawful (s.film_setQueue rest)
      refine { State.Lawful.refl s with
        lineTrip := fun law trip => ?_ }
      obtain ⟨safe, watches, trips, -⟩ := law trip
      refine ⟨safe, watches, fun x hx => trips x (queue ▸ List.mem_cons_of_mem b hx), fun c side sent => ?_⟩
      have isTrip : b = .trip := trips b (queue ▸ List.mem_cons_self)
      simp [State.setSending, State.setQueue, isTrip] at sent
    · split
      · exact s.lawful_sendPoll p
      · split
        · exact (s.lawful_onStation p (fun r => { r with rareCountdown := Config.rareCycles }) rfl rfl).trans
            (State.lawful_sendPoll _ p)
        · exact s.lawful_onStation p _ rfl rfl

theorem State.lawful_startSlot : s.Lawful s.startSlot := by
  unfold State.startSlot
  dsimp only
  have ended : s.Lawful s.frameSent.endWindow := s.lawful_frameSent.trans (State.lawful_endWindow _)
  refine (ended.trans ?_).trans (State.lawful_carry _ _)
  exact { State.Lawful.refl s.frameSent.endWindow with }

/-! ### LINE_RESET (R40) -/

/-- The line controller's own records at a line reset. -/
def State.lineCleared : State := { s with lc := s.lc.reset }

theorem State.station_lineCleared (p : Projector) : s.lineCleared.station p = Station.powerOn := updAll_get ..

theorem State.act_handArc (p : Projector) (old : Switch) : s.Act (s.handArc p old) := by
  unfold State.handArc
  exact s.act_ite (fun _ => s.act_lampLineReset p) (fun _ => .refl s)

theorem State.film_handArc (p : Projector) (old : Switch) : s.Film (s.handArc p old) := by
  unfold State.handArc
  exact s.film_ite (fun _ => s.film_lampLineReset p) (fun _ => .refl s)

theorem State.act_handLost (p : Projector) (old : Presence) : s.Act (s.handLost p old) := by
  unfold State.handLost
  exact s.act_ite (fun _ => .refl s) (fun _ => s.act_handPresence ..)

theorem State.film_handLost (p : Projector) (old : Presence) : s.Film (s.handLost p old) := by
  unfold State.handLost
  exact s.film_ite (fun _ => .refl s) (fun _ => s.film_handPresence ..)

theorem State.act_handReset (before : LineControl) (p : Projector) : s.Act (s.handReset before p) :=
  (s.act_handLost p _).trans (State.act_handArc _ p _)

theorem State.film_handReset (before : LineControl) (p : Projector) : s.Film (s.handReset before p) :=
  (s.film_handLost p _).trans (State.film_handArc _ p _)

theorem State.lineReset_eq :
    s.lineReset = (List.finRange 8).foldl (State.handReset s.lc) (s.lineCleared.passStops s.lc) := rfl

theorem State.act_lineCleared_lineReset : s.lineCleared.Act s.lineReset := by
  rw [s.lineReset_eq]
  exact (s.lineCleared.act_passStops s.lc).trans (State.act_foldl _ _ (fun u p => u.act_handReset s.lc p) _)

theorem State.film_lineCleared_lineReset : s.lineCleared.Film s.lineReset := by
  rw [s.lineReset_eq]
  exact (s.lineCleared.film_passStops s.lc).trans (State.film_foldl _ _ (fun u p => u.film_handReset s.lc p) _)

/-- A station that was not ABSENT gives up its projector at a line reset. -/
theorem State.not_readying_lineReset (p : Projector) (h : (s.station p).presence ≠ .absent) :
    ¬ (s.lineReset.role p).readying := by
  rw [s.lineReset_eq]
  refine foldl_brings (I := fun u : State => s.lineCleared.Act u) (P := fun u => ¬ (u.role p).readying)
    (fun u q act => act.trans (u.act_handReset s.lc q)) (fun u q _ idle => idle ∘ (u.act_handReset s.lc q).readying p)
    (List.mem_finRange p) (fun u act => ?_) _ (s.lineCleared.act_passStops s.lc)
  have away : (u.station p).presence ≠ .present := by
    rw [act.presence, s.station_lineCleared]
    exact nofun
  have lost : ¬ ((u.handLost p (s.station p).presence).role p).readying := by
    rw [State.handLost, if_neg h]
    exact State.not_readying_showPresence _ p away
  have arc : (u.handLost p (s.station p).presence).Act (u.handReset s.lc p) :=
    State.act_handArc _ p _
  exact lost ∘ arc.readying p

theorem State.lawful_lineReset : s.Lawful s.lineReset := by
  have act := s.act_lineCleared_lineReset
  have handed := act.lawful s.film_lineCleared_lineReset
  have own : s.Steady s.lineCleared :=
    { State.Steady.refl s with
      blade := fun _ c both => by
        rw [s.station_lineCleared] at both
        exact nomatch both.1
      lineTrip := fun law trip => by
        obtain ⟨-, rest⟩ := law trip
        exact ⟨fun p => by rw [s.station_lineCleared]; rfl, rest⟩ }
  refine { own.trans handed.toSteady with
    armed := fun law p h => ?_
    lamps := fun law => handed.lamps fun p => ?_
    trip := handed.trip }
  · obtain ⟨-, present⟩ := law p (act.readying p h)
    exact absurd h (s.not_readying_lineReset p (by simp [present]))
  · rw [s.station_lineCleared]
    exact ⟨(law p).1, fun held => ⟨((law p).2 held).1, nofun⟩⟩

theorem lawful_lineResetRule : s.Lawful (lineResetRule s).state := by
  unfold lineResetRule
  split
  · exact .refl s
  · dsimp only
    exact s.lawful_lineReset

/-! ### The mains (R126 to R130) -/

theorem State.lawful_onMains (f : Mains → Mains) : s.Lawful (s.onMains f) := { State.Lawful.refl s with }

/-- A channel rewritten with its override and its laws kept. -/
theorem State.lawful_onChannel (c : Channel) (f : HouseChannel → HouseChannel)
    (override : (f (s.channel c)).override = (s.channel c).override)
    (fade : (s.channel c).fadeLaw → (f (s.channel c)).fadeLaw)
    (full : (s.channel c).fullLaw → (f (s.channel c)).fullLaw) : s.Lawful (s.onChannel c f) :=
  (s.act_onChannel c f override fade).lawful (s.film_onChannel c f full)

@[simp] theorem State.channel_cancelFirings (c : Channel) :
    s.cancelFirings.channel c = { s.channel c with firing := none } := updAll_get ..

theorem State.lawful_cancelFirings : s.Lawful s.cancelFirings :=
  { State.Lawful.refl s with
    house := fun law c => by rw [s.channel_cancelFirings]; exact law c
    full := fun law c => by rw [s.channel_cancelFirings]; exact law c
    trip := fun ⟨lc, lu, su, channels⟩ => ⟨lc, lu, su, fun c => by rw [s.channel_cancelFirings]; exact channels c⟩ }

theorem HouseChannel.stepFade_override (c : HouseChannel) : c.stepFade.override = c.override := by
  unfold HouseChannel.stepFade
  split
  · rfl
  · split <;> rfl

theorem HouseChannel.fadeLaw_stepFade (c : HouseChannel) (h : c.fadeLaw) : c.stepFade.fadeLaw := by
  unfold HouseChannel.stepFade
  split
  · exact c.fadeLaw_arrive _
  · rename_i short
    unfold HouseChannel.reaches at short
    unfold HouseChannel.fadeLaw at h ⊢
    cases running : c.direction with
    | none => simpa [running] using h
    | up =>
      simp only [running, decide_eq_true_eq] at short ⊢
      omega
    | down =>
      simp only [running, decide_eq_true_eq] at short ⊢
      omega

theorem HouseChannel.fullLaw_stepFade (c : HouseChannel) (h : c.fullLaw) : c.stepFade.fullLaw := by
  intro on
  rw [c.stepFade_override] at on
  obtain ⟨fine, target, still⟩ := h on
  simp [HouseChannel.stepFade, HouseChannel.reaches, fine, target, still]

theorem State.lawful_crossChannel (c : Channel) : s.Lawful (s.crossChannel c) := by
  have crossed : s.Lawful (s.onChannel c (HouseChannel.cross s.hu.mains.h)) :=
    s.lawful_onChannel c _ (HouseChannel.stepFade_override _) (HouseChannel.fadeLaw_stepFade _)
      (HouseChannel.fullLaw_stepFade _)
  unfold State.crossChannel
  dsimp only
  split
  · exact State.lawful_raiseAfter s crossed _
  · exact crossed

theorem State.lawful_validCrossing : s.Lawful s.validCrossing := by
  have kept : ∀ (l : List Channel) (u : State), u.Lawful (l.foldl State.crossChannel u) := by
    intro l
    induction l with
    | nil => exact .refl
    | cons c l ih => exact fun u => (u.lawful_crossChannel c).trans (ih _)
  exact kept _ s

theorem State.lawful_goodHalfCycle (length : Nat) : s.Lawful (s.goodHalfCycle length) := by
  unfold State.goodHalfCycle
  split
  · exact (s.lawful_onMains _).trans (State.lawful_validCrossing _)
  · split
    · exact s.lawful_onMains _
    · exact (State.lawful_raiseAfter s (s.lawful_onMains _) _).trans (State.lawful_validCrossing _)

theorem State.lawful_badHalfCycle : s.Lawful s.badHalfCycle := by
  unfold State.badHalfCycle
  split
  · exact (State.lawful_raiseAfter s (s.lawful_onMains _) _).trans (State.lawful_cancelFirings _)
  · exact s.lawful_onMains _

theorem State.lawful_crossing : s.Lawful s.crossing := by
  unfold State.crossing
  dsimp only
  have pin := s.lawful_pins { s.pins with zeroCross := if s.hu.mains.accepted = .low then .high else .low }
  split
  · exact pin.trans (State.lawful_onMains _ _)
  · have ended := (pin.trans (State.lawful_onMains _ (fun m => { m with
      accepted := if s.hu.mains.accepted = .low then .high else .low
      sampleRun := 0, lastHalf := s.hu.mains.runningCount, runningCount := 0 }))).trans (State.lawful_cancelFirings _)
    split
    · exact ended.trans (State.lawful_goodHalfCycle _ _)
    · exact ended.trans (State.lawful_badHalfCycle _)

theorem State.lawful_overrun : s.Lawful s.overrun := by
  unfold State.overrun
  split
  · exact .refl s
  · exact (s.lawful_onMains _).trans (State.lawful_badHalfCycle _)

theorem State.lawful_fire (c : Channel) : s.Lawful (s.onChannel c HouseChannel.fire) := by
  have kept : ∀ r : HouseChannel, r.fire.override = r.override ∧ (r.fadeLaw → r.fire.fadeLaw)
      ∧ (r.fullLaw → r.fire.fullLaw) := fun r => by
    unfold HouseChannel.fire
    split <;> exact ⟨rfl, id, id⟩
  obtain ⟨override, fade, full⟩ := kept (s.channel c)
  exact s.lawful_onChannel c _ override fade full

end Sys2Proof.Machine
end

section
/-! PROOF. The ports, the clock and POWER_ON keep the laws, and so does every command (spec/00 section 1.4, spec/09). -/

namespace Sys2Proof.Machine

/-! ### Ports (R157 to R169) -/

/-- The pending set, the mask and the attention line are those of before. -/
def PortRecord.sameNotices (r r' : PortRecord) : Prop :=
  r'.attention = r.attention ∧ r'.pendingSet = r.pendingSet ∧ r'.maskSet = r.maskSet

section

variable (r : PortRecord)

theorem PortRecord.sameNotices_drive (b : Option Byte) : r.sameNotices (r.drive b) := by
  rw [r.drive_eq]
  exact ⟨rfl, rfl, rfl⟩

theorem PortRecord.sameNotices_give : r.sameNotices r.give := by
  obtain ⟨-, e⟩ | ⟨x, -, ⟨-, e⟩ | ⟨-, e⟩⟩ := r.give_cases <;> rw [e]
  · exact ⟨rfl, rfl, rfl⟩
  · exact r.sameNotices_drive _
  · exact r.sameNotices_drive _

theorem PortRecord.sameNotices_reply (x : Response) : r.sameNotices (r.reply x) := by
  unfold PortRecord.reply
  dsimp only
  split
  · exact PortRecord.sameNotices_give _
  · exact ⟨rfl, rfl, rfl⟩

theorem PortRecord.sameNotices_takeAnswer (st : Status) (data : List Byte) : r.sameNotices (r.takeAnswer st data) := by
  unfold PortRecord.takeAnswer
  dsimp only
  split
  · exact r.sameNotices_reply _
  · exact r.sameNotices_reply (Response.build st data)

theorem PortRecord.sameNotices_readByte (turn : Option Nat) : r.sameNotices (r.readByte turn) := by
  unfold PortRecord.readByte
  dsimp only
  split
  · exact ⟨rfl, rfl, rfl⟩
  · split
    · exact PortRecord.sameNotices_give _
    all_goals exact ⟨rfl, rfl, rfl⟩

theorem PortRecord.sameNotices_gapOut : r.sameNotices r.gapOut := by
  unfold PortRecord.gapOut
  split <;> exact ⟨rfl, rfl, rfl⟩

theorem PortRecord.sameNotices_tick : r.sameNotices r.tick := by
  unfold PortRecord.tick
  dsimp only
  split <;> exact ⟨rfl, rfl, rfl⟩

end

theorem PortRecord.sameNotices.attention {r r' : PortRecord} (h : r.sameNotices r')
    (law : r.attention = (r.pendingSet &&& ~~~r.maskSet != 0)) :
    r'.attention = (r'.pendingSet &&& ~~~r'.maskSet != 0) := by
  obtain ⟨attention, pending, mask⟩ := h
  rw [attention, pending, mask, law]

variable (s : State)

/-- A port record rewritten with its notices kept. -/
theorem State.lawful_onPort_same (n : Port) (f : PortRecord → PortRecord) (notices : (s.port n).sameNotices (f (s.port n)))
    (dataLine : (s.port n).dataLineLaw → (f (s.port n)).dataLineLaw) : s.Lawful (s.onPort n f) :=
  s.lawful_onPort n f notices.attention dataLine

theorem State.lawful_pass (n : Port) (c : Instr) : s.Lawful (s.pass n c) :=
  (s.lawful_onPort_same n (fun r => { r with answerOwed := true, frameTag := r.frameTag + 1 }) ⟨rfl, rfl, rfl⟩ id).trans
    (State.lawful_passed _ _)

theorem State.lawful_checkFrame (n : Port) : s.Lawful (s.checkFrame n) := by
  unfold State.checkFrame
  split
  · exact s.lawful_pass n _
  · exact s.lawful_onPort_same n _ (PortRecord.sameNotices_reply _ _) (PortRecord.dataLineLaw_reply _ _)

theorem State.lawful_receiveByte (n : Port) (b : Byte) : s.Lawful (s.receiveByte n b) := by
  have summed := PortRecord.dataLineLaw_sumByte (s.port n) b
  unfold State.receiveByte
  dsimp only
  split
  · exact s.lawful_onPort_same n _ ⟨rfl, rfl, rfl⟩ summed
  · split
    · exact s.lawful_onPort_same n _ ⟨rfl, rfl, rfl⟩ summed
    · exact (s.lawful_onPort_same n (fun _ => ((s.port n).sumByte b).complete) ⟨rfl, rfl, rfl⟩ summed).trans
        (State.lawful_checkFrame _ n)

theorem State.lawful_writeByte (n : Port) (b : Byte) : s.Lawful (s.writeByte n b) := by
  have strobed : s.Lawful (s.onPort n (fun r => r.strobed .write none)) :=
    s.lawful_onPort_same n _ ⟨rfl, rfl, rfl⟩ fun _ => PortRecord.dataLineLaw_strobed_write _
  unfold State.writeByte
  dsimp only
  split
  · exact strobed
  · refine strobed.trans ?_
    split
    · exact State.lawful_onPort_same _ n _ ⟨rfl, rfl, rfl⟩ (PortRecord.dataLineLaw_takeCode _ b)
    · exact State.lawful_receiveByte _ n b
    · exact State.lawful_onPort_same _ n _ ⟨rfl, rfl, rfl⟩ id
    · exact State.lawful_onPort_same _ n _ ⟨rfl, rfl, rfl⟩ (PortRecord.dataLineLaw_takeCode _ b)

theorem State.lawful_deliver (n : Port) : s.Lawful (s.deliver n) := by
  unfold State.deliver
  split
  · exact .refl s
  · dsimp only
    split
    · exact (s.lawful_answers _).trans (State.lawful_onPort_same _ n _ (PortRecord.sameNotices_takeAnswer _ _ _)
        (PortRecord.dataLineLaw_takeAnswer _ _ _))
    · exact s.lawful_answers _

/-- A port's pending set or mask replaced, its attention line with it. -/
theorem State.lawful_setPending (n : Port) (m : PortRecord → NoticeSet) :
    s.Lawful (s.onPort n (fun r => r.setPending (m r))) := s.lawful_onPort n _ (fun _ => rfl) id

theorem lawful_noticeNextRule (n : Port) : s.Lawful (noticeNextRule s n).state := by
  unfold noticeNextRule
  split
  · exact s.lawful_setPending n _
  · exact .refl s

theorem lawful_noticeMaskRule (n : Port) (hidden : NoticeSet) : s.Lawful (noticeMaskRule s n hidden).state :=
  s.lawful_onPort n _ (fun _ => rfl) id

/-! ### One microsecond -/

theorem LineControl.tick_eq (l : LineControl) :
    l.tick = { l with untilSlot := l.untilSlot - 1, sending := l.tick.sending, window := l.tick.window } := by
  unfold LineControl.tick
  dsimp only
  split
  · exact LineControl.pollSent_eq _
  · rfl

/-- The clock leaves the frame being sent, or ends a poll's sending. -/
theorem LineControl.tick_sending (l : LineControl) : l.tick.sending = l.sending ∨ l.tick.sending = .nothing := by
  unfold LineControl.tick
  dsimp only
  split
  · unfold LineControl.pollSent
    split
    · exact .inr rfl
    all_goals exact .inl rfl
  · exact .inl rfl

section

variable (p : Projector) (c : Screen) (ch : Channel) (k : Shutter) (n : Port)

theorem State.motion_advance : s.advance.motion p = (s.motion p).tick := updAll_get ..
theorem State.lamp_advance : s.advance.lamp p = (s.lamp p).tick := updAll_get ..
theorem State.screen_advance : s.advance.screen c = (s.screen c).tick := updAll_get ..
theorem State.channel_advance : s.advance.channel ch = (s.channel ch).tick := updAll_get ..
theorem State.shutter_advance : s.advance.shutter k = (s.shutter k).tick := updAll_get ..
theorem State.port_advance : s.advance.port n = (s.port n).tick := updAll_get ..

theorem State.station_advance : s.advance.station p = s.station p := by
  show s.lc.tick.stations[p] = s.lc.stations[p]
  rw [s.lc.tick_eq]

theorem State.watch_advance : s.advance.watch c = s.watch c := by
  show s.lc.tick.watches[c] = s.lc.watches[c]
  rw [s.lc.tick_eq]

end

theorem Lamp.feedLaw_tick (l : Lamp) (h : l.feedLaw) : l.tick.feedLaw := by
  simpa [Lamp.feedLaw, Lamp.tick, tenthDown] using h

theorem State.lineTripLaw_advance (law : s.lineTripLaw) : s.advance.lineTripLaw := by
  intro trip
  have queue : s.advance.lc.burstQueue = s.lc.burstQueue ∧ s.advance.lc.tripInForce = s.lc.tripInForce := by
    show s.lc.tick.burstQueue = _ ∧ s.lc.tick.tripInForce = _
    rw [s.lc.tick_eq]
    exact ⟨rfl, rfl⟩
  obtain ⟨safe, watches, trips, sent⟩ := law (queue.2 ▸ trip)
  refine ⟨fun p => by rw [s.station_advance]; exact safe p, fun c => by rw [s.watch_advance]; exact watches c,
    queue.1.symm ▸ trips, fun c side => ?_⟩
  show s.lc.tick.sending ≠ _
  obtain e | e := s.lc.tick_sending <;> rw [e]
  · exact sent c side
  · exact nofun

theorem State.lawful_advance : s.Lawful s.advance where
  pending := rfl
  attention law n := by rw [s.port_advance]; exact (s.port n).sameNotices_tick.attention (law n)
  dataLine law n := by rw [s.port_advance]; exact (s.port n).dataLineLaw_tick (law n)
  blade law c := by rw [s.station_advance, s.station_advance]; exact law c
  lineTrip := s.lineTripLaw_advance
  counter law := by
    obtain ⟨bound, follows⟩ := law
    refine ⟨fun p => by rw [s.motion_advance]; exact bound p, fun p free => ?_⟩
    rw [s.motion_advance]
    refine follows p fun held => free ?_
    simpa [State.holdsReel, State.reel, s.screen_advance, ScreenRecord.tick] using held
  pool := (State.poolLaw_congr (s := s) (t := s.advance) rfl fun c => by
    rw [s.screen_advance, ScreenRecord.tick]).mpr
  after law c := by rw [s.screen_advance]; simpa [ScreenRecord.tick] using law c
  house law c := by rw [s.channel_advance]; exact law c
  full law c := by rw [s.channel_advance]; exact law c
  hold law := by
    have fire : s.advance.fu.state = s.fu.state ∧ s.advance.fu.underTest = s.fu.underTest := ⟨rfl, rfl⟩
    simpa [State.holdLaw, fire, s.shutter_advance, ShutterRecord.tick] using law
  armed law p h := by rw [s.shutter_advance, s.station_advance]; exact law p h
  lamps law p := by
    rw [s.lamp_advance, s.station_advance]
    refine ⟨Lamp.feedLaw_tick _ (law p).1, fun held => (law p).2 ?_⟩
    simpa [Lamp.tick, tenthDown] using held
  trip law := by
    obtain ⟨lc, lu, su, channels⟩ := law
    have kept : s.advance.lc.tripInForce = s.lc.tripInForce := by
      show s.lc.tick.tripInForce = _
      rw [s.lc.tick_eq]
    exact ⟨kept ▸ lc, lu, su, fun c => by rw [s.channel_advance]; exact channels c⟩

theorem State.shutter_takeSamples (k : Shutter) : s.takeSamples.shutter k =
    { s.shutter k with sampleRun := runAfter (s.shutter k).limit (s.shutter k).sampleRun s.pins.limits[k] } :=
  updEach_get ..

theorem State.lawful_takeSamples : s.Lawful s.takeSamples :=
  { State.Lawful.refl s with
    hold := fun law => by
      have fire : s.takeSamples.fu.state = s.fu.state ∧ s.takeSamples.fu.underTest = s.fu.underTest := ⟨rfl, rfl⟩
      simpa [State.holdLaw, fire, s.shutter_takeSamples] using law
    armed := fun law p h => by rw [s.shutter_takeSamples]; exact law p h }

/-- What an idle queue lets happen keeps the laws, whatever it queues. -/
theorem State.lawful_tick : ∃ t l, s.Lawful t ∧ s.tick = { t with pending := l } := by
  unfold State.tick
  split
  · dsimp only
    split
    · exact ⟨_, _, s.lawful_advance.trans (State.lawful_takeSamples _), rfl⟩
    · exact ⟨_, _, s.lawful_advance, rfl⟩
  · exact ⟨s, _, .refl s, rfl⟩

/-! ### POWER_ON (R154) -/

/-- The records at their power-on values for what the pins show, before the alarm and the SHUT test. -/
def powerOnRecords (p : PowerOnPins) : State :=
  { State.reset with
    fu := { State.reset.fu with
      alarm := p.alarm, shutters := updEach State.reset.fu.shutters (fun k _ => .powerOn p.limits[k]) }
    pu := { State.reset.pu with ports := updEach State.reset.pu.ports (fun n _ => .powerOn p.straps[n]) }
    pins := { State.reset.pins with alarm := p.alarm, limits := p.limits } }

theorem powerOnState_eq (p : PowerOnPins) : powerOnState p =
    (if p.alarm = .active then (powerOnRecords p).takeCause .alarmLine else powerOnRecords p).shutTest := rfl

theorem lawful_powerOnState (p : PowerOnPins) : (powerOnRecords p).Lawful (powerOnState p) := by
  rw [powerOnState_eq]
  refine State.Lawful.trans ?_ (State.lawful_shutTest _)
  split
  · exact State.lawful_takeCause _ _
  · exact .refl _

section

variable (x : PowerOnPins)

theorem port_powerOnRecords (n : Port) : (powerOnRecords x).port n = .powerOn x.straps[n] := updEach_get ..
theorem shutter_powerOnRecords (k : Shutter) : (powerOnRecords x).shutter k = .powerOn x.limits[k] := updEach_get ..
theorem motion_powerOnRecords (p : Projector) : (powerOnRecords x).motion p = Motion.powerOn := Vector.getElem_replicate _
theorem station_powerOnRecords (p : Projector) : (powerOnRecords x).station p = Station.powerOn :=
  Vector.getElem_replicate _
theorem watch_powerOnRecords (c : Screen) : (powerOnRecords x).watch c = .closed := Vector.getElem_replicate _
theorem lamp_powerOnRecords (p : Projector) : (powerOnRecords x).lamp p = Lamp.powerOn := Vector.getElem_replicate _
theorem screen_powerOnRecords (c : Screen) : (powerOnRecords x).screen c = ScreenRecord.powerOn :=
  Vector.getElem_replicate _
theorem role_powerOnRecords (p : Projector) : (powerOnRecords x).role p = .idle := Vector.getElem_replicate _
theorem channel_powerOnRecords (c : Channel) : (powerOnRecords x).channel c = HouseChannel.powerOn :=
  Vector.getElem_replicate _

end

theorem HouseChannel.fullLaw_powerOn : HouseChannel.powerOn.fullLaw := fun _ => ⟨rfl, rfl, rfl⟩

/-- Every law of the device. -/
structure State.MeetsLaws (s : State) : Prop where
  attention : s.attentionLaw
  dataLine : s.dataLineLaw
  blade : s.bladeLaw
  lineTrip : s.lineTripLaw
  counter : s.counterLaw
  pool : s.poolLaw
  after : s.afterLaw
  house : s.houseLaw
  full : s.fullLaw
  hold : s.holdLaw
  armed : s.armedLaw
  lamps : s.lampLaw
  trip : s.tripLaw

theorem State.MeetsLaws.lawful {s t : State} (h : t.MeetsLaws) :
    s.Lawful { t with pending := s.pending } where
  pending := rfl
  attention _ := h.attention
  dataLine _ := h.dataLine
  blade _ := h.blade
  lineTrip _ := h.lineTrip
  counter _ := h.counter
  pool _ := h.pool
  after _ := h.after
  house _ := h.house
  full _ := h.full
  hold _ := h.hold
  armed _ := h.armed
  lamps _ := h.lamps
  trip _ := h.trip

theorem State.Lawful.meetsLaws {s t : State} (l : s.Lawful t) (h : s.MeetsLaws) : t.MeetsLaws where
  attention := l.attention h.attention
  dataLine := l.dataLine h.dataLine
  blade := l.blade h.blade
  lineTrip := l.lineTrip h.lineTrip
  counter := l.counter h.counter
  pool := l.pool h.pool
  after := l.after h.after
  house := l.house h.house
  full := l.full h.full
  hold := l.hold h.hold
  armed := l.armed h.armed
  lamps := l.lamps h.lamps
  trip := l.trip h.trip

theorem powerOnRecords_meetsLaws (x : PowerOnPins) : (powerOnRecords x).MeetsLaws where
  attention n := by
    rw [port_powerOnRecords]
    show true = ((1 : NoticeSet) &&& ~~~(0 : NoticeSet) != 0)
    decide
  dataLine n := by rw [port_powerOnRecords]; exact PortRecord.dataLineLaw_powerOn _
  blade c both := by
    rw [station_powerOnRecords] at both
    exact nomatch both.1
  lineTrip _ := ⟨fun p => by rw [station_powerOnRecords]; rfl, watch_powerOnRecords x, nofun, nofun⟩
  counter := ⟨fun p => by rw [motion_powerOnRecords]; exact le_rfl, fun p _ => by rw [motion_powerOnRecords]; rfl⟩
  pool := by
    have empty : ∀ c, ((powerOnRecords x).screen c).list = [] := fun c => by rw [screen_powerOnRecords]; rfl
    rw [State.poolLaw, List.flatMap_eq_nil_iff.mpr fun c _ => empty c, List.append_nil]
    exact List.Perm.refl _
  after c := by
    rw [screen_powerOnRecords]
    simp [ScreenRecord.powerOn]
  house c := by
    rw [channel_powerOnRecords]
    exact HouseChannel.fadeLaw_trip HouseChannel.powerOn
  full c := by
    rw [channel_powerOnRecords]
    exact HouseChannel.fullLaw_powerOn
  hold := by
    refine ⟨rfl, fun k => ?_⟩
    rw [shutter_powerOnRecords]
    cases x.limits[k] <;> rfl
  armed := State.armedLaw_of_not_readying _ fun p => by
    rw [role_powerOnRecords]
    simp [Role.readying]
  lamps p := by
    rw [lamp_powerOnRecords]
    simp [Lamp.feedLaw, Lamp.powerOn]
  trip := by
    refine ⟨iff_of_true rfl nofun, iff_of_true rfl nofun, iff_of_true rfl nofun, fun c => iff_of_true ?_ nofun⟩
    rw [channel_powerOnRecords]
    rfl

theorem powerOnState_meetsLaws (x : PowerOnPins) : (powerOnState x).MeetsLaws :=
  (lawful_powerOnState x).meetsLaws (powerOnRecords_meetsLaws x)

/-- At the pins taken at reset the power-on records are the reset state. -/
theorem powerOnRecords_resetPins : powerOnRecords resetPins = State.reset := by
  have shutters : updEach State.reset.fu.shutters (fun k _ => .powerOn resetPins.limits[k])
      = State.reset.fu.shutters := table_ext fun k => by
    rw [updEach_get]
    simp [resetPins, State.reset]
  have ports : updEach State.reset.pu.ports (fun n _ => .powerOn resetPins.straps[n]) = State.reset.pu.ports :=
    table_ext fun n => by
      rw [updEach_get]
      fin_cases n <;> rfl
  rw [powerOnRecords, shutters, ports]
  rfl

theorem powerOnState_resetPins : powerOnState resetPins = State.reset := by
  have up : State.reset.fu.allDown = false := by decide
  have quiet : resetPins.alarm ≠ .active := nofun
  rw [powerOnState_eq, if_neg quiet, powerOnRecords_resetPins]
  have tripped : State.reset.fu.state = .tripped := rfl
  simp [State.shutTest, tripped, up]

/-! ### Every command (R161, R163) -/

/-- The outcome of a command is a next state with the queue and the laws kept. -/
def Taken (s : State) (o : Host.Outcome State Fault Refusal) : Prop := ∃ t, o = .next t ∧ s.Lawful t

theorem taken_next {s t : State} (h : s.Lawful t) : Taken s (.next t) := ⟨t, rfl, h⟩

theorem taken_console {s : State} (n : Port) (c : Instr) {rule : State → Ruling} (h : s.Lawful (rule s).state) :
    Taken s (console n c s rule) := by
  obtain ⟨r, e, rfl | rfl | rfl⟩ := console_next s n c rule <;> rw [e]
  · exact taken_next (s.lawful_answer ..)
  · exact taken_next (s.lawful_answer ..)
  · exact taken_next (h.trans (State.lawful_answer ..))

theorem lawful_onNumber {m : Nat} {s : State} {rule : Fin m → Ruling} (k : Nat) (h : ∀ i, s.Lawful (rule i).state) :
    s.Lawful (onNumber k s rule).state := by
  unfold onNumber
  split
  · exact h _
  · exact .refl s

theorem lawful_onCueIx {s : State} {rule : CueIx → Ruling} (k : Nat) (h : ∀ x, s.Lawful (rule x).state) :
    s.Lawful (onCueIx k s rule).state := by
  unfold onCueIx
  split
  · exact h _
  · exact .refl s

theorem taken_read {s : State} (n : Port) (c : Instr) {rule : State → Ruling} (h : (rule s).state = s) :
    Taken s (console n c s rule) := taken_console n c (h.symm ▸ .refl s)

theorem state_onNumber {m : Nat} {s : State} {rule : Fin m → Ruling} (k : Nat) (h : ∀ i, (rule i).state = s) :
    (onNumber k s rule).state = s := by
  unfold onNumber
  split
  · exact h _
  · rfl

theorem lawful_noticeRouteRule (ports : Nat) (k : Notice) : s.Lawful (noticeRouteRule s ports k).state :=
  s.lawful_routes _

theorem State.lawful_sprocketAt (p : Projector) (level : Level) : s.Lawful (s.sprocketAt p level) := s.lawful_pins _

theorem State.lawful_onMotion (p : Projector) (f : Motion → Motion)
    (length : (f (s.motion p)).loadedLength = (s.motion p).loadedLength)
    (counter : (f (s.motion p)).framesRemaining = (s.motion p).framesRemaining) : s.Lawful (s.onMotion p f) :=
  (s.act_onMotion p f (by rw [length, counter]; exact id)).lawful (s.film_onMotion p f counter.le)

theorem State.lawful_acceptedPulse (p : Projector) : s.Lawful (s.acceptedPulse p) :=
  (s.act_acceptedPulse p).lawful (s.film_acceptedPulse p)

theorem State.lawful_sampleSprocket (p : Projector) (level : Level) : s.Lawful (s.sampleSprocket p level) := by
  have sampled := (s.lawful_sprocketAt p level).trans (State.lawful_onMotion _ p (fun m => { m with
    accepted := (filterSample (s.motion p).accepted (s.motion p).sampleRun level).1
    sampleRun := (filterSample (s.motion p).accepted (s.motion p).sampleRun level).2.1 }) rfl rfl)
  unfold State.sampleSprocket
  dsimp only
  split
  · exact sampled.trans (State.lawful_acceptedPulse _ p)
  · exact sampled

theorem taken_powerOn (x : PowerOnPins) : Taken s (execPowerOn x s) :=
  taken_next (powerOnState_meetsLaws x).lawful

theorem taken_strikeTimeout (p : Projector) : Taken s (execStrikeTimeout p s) := by
  refine taken_next ?_
  split
  · exact (s.act_strikeFailed p).lawful (s.film_strikeFailed p ‹_›)
  · exact .refl s

theorem taken_holdTimeout (p : Projector) : Taken s (execHoldTimeout p s) := by
  refine taken_next ?_
  split
  · exact (s.act_holdEnded p).lawful (s.film_holdEnded p ‹_›)
  · exact .refl s

theorem taken_changeoverBurstSent : Taken s (execChangeoverBurstSent s) := by
  unfold execChangeoverBurstSent
  split
  · exact taken_next (s.lawful_changeoverSent _ _ ‹_›)
  · exact taken_next (.refl s)

theorem taken_tripBurstSent : Taken s (execTripBurstSent s) := by
  refine taken_next ?_
  split
  · exact s.lawful_setSending _ fun _ _ => nofun
  · exact .refl s

theorem taken_lineResetFrameSent : Taken s (execLineResetFrameSent s) := by
  refine taken_next ?_
  split
  · exact s.lawful_lineResetSent
  · exact .refl s

theorem taken_readStation (n : Port) (p : Nat) : Taken s (execReadStation n p s) := by
  refine taken_read n _ ?_
  unfold readStationRule
  split
  · rfl
  · exact state_onNumber p fun _ => rfl

theorem taken_readHouse (n : Port) (c : Nat) : Taken s (execReadHouse n c s) := by
  refine taken_read n _ ?_
  unfold readHouseRule
  split
  · rfl
  · exact state_onNumber c fun _ => rfl

theorem taken_readList (n : Port) (c : Nat) : Taken s (execReadList n c s) := by
  refine taken_read n _ ?_
  unfold readListRule
  split
  · rfl
  · exact state_onNumber c fun _ => rfl

theorem taken_readCue (n : Port) (x : Nat) : Taken s (execReadCue n x s) := by
  refine taken_read n _ ?_
  unfold onCueIx
  split <;> rfl

theorem taken_noticeRoute (n : Port) (notice ports : Nat) : Taken s (execNoticeRoute n notice ports s) := by
  refine taken_console n _ ?_
  split
  · exact lawful_noticeRouteRule s _ _
  · exact .refl s

/-- Every command is taken: no outcome stops the block, and the queue and the laws are kept. -/
theorem exec_taken (c : Instr) (s : State) : Taken s (exec c s) := by
  unfold exec
  cases c
  all_goals dsimp only
  case powerOn pins => exact taken_powerOn s pins
  case sprocketPulse p =>
    exact taken_next (((s.lawful_sprocketAt p .high).trans (State.lawful_onMotion _ p Motion.acceptHigh rfl rfl)).trans
      (State.lawful_acceptedPulse _ p))
  case slowStartTimeout p => exact taken_next ((s.act_slowStartOut p).lawful (s.film_slowStartOut p))
  case silence p => exact taken_next ((s.act_silence p).lawful (s.film_silence p))
  case slotStart => exact taken_next s.lawful_startSlot
  case replyReceived begun signal => exact taken_next (s.lawful_receiveFrame begun signal)
  case replyWindowEnd => exact taken_next s.lawful_endWindow
  case changeoverBurstSent => exact taken_changeoverBurstSent s
  case tripBurstSent => exact taken_tripBurstSent s
  case lineResetFrameSent => exact taken_lineResetFrameSent s
  case strikeTimeout p => exact taken_strikeTimeout s p
  case holdTimeout p => exact taken_holdTimeout s p
  case feedStep p => exact taken_next ((s.act_feedStep p).lawful (s.film_feedStep p))
  case afterTimerMet c => exact taken_next ((s.act_afterMet c).lawful (s.film_afterMet c))
  case mainsCrossing => exact taken_next s.lawful_crossing
  case mainsOverrun => exact taken_next s.lawful_overrun
  case dimmerFiring c => exact taken_next (s.lawful_fire c)
  case alarmChange level => exact taken_next (s.lawful_alarmChange level)
  case shutterLimitChange k level => exact taken_next (s.lawful_limitChange k level)
  case shutterDropTimeout k => exact taken_next (s.lawful_dropTimeout k)
  case writeStrobe n byte => exact taken_next (s.lawful_writeByte n byte)
  case readStrobe strobe =>
    exact taken_next (s.lawful_onPort_same _ _ (PortRecord.sameNotices_readByte _ _)
      fun _ => PortRecord.dataLineLaw_readByte _ _)
  case portClear n held =>
    exact taken_next (s.lawful_onPort_same n _ ⟨rfl, rfl, rfl⟩ (PortRecord.dataLineLaw_clear _ held))
  case gapTimeout n =>
    exact taken_next (s.lawful_onPort_same n _ (PortRecord.sameNotices_gapOut _) (PortRecord.dataLineLaw_gapOut _))
  case ownerAnswer n => exact taken_next (s.lawful_deliver n)
  case readScreen n c => exact taken_read n _ (state_onNumber c fun _ => rfl)
  case readProjector n p => exact taken_read n _ (state_onNumber p fun _ => rfl)
  case readLamp n p => exact taken_read n _ (state_onNumber p fun _ => rfl)
  case readStation n p => exact taken_readStation s n p
  case readFire n => exact taken_read n _ rfl
  case readShutter n k => exact taken_read n _ (state_onNumber k fun _ => rfl)
  case readHouse n c => exact taken_readHouse s n c
  case readReel n c reel => exact taken_read n _ (state_onNumber c fun _ => state_onNumber reel fun _ => rfl)
  case readCue n x => exact taken_readCue s n x
  case readList n c => exact taken_readList s n c
  case cueNew n c gen => exact taken_console n _ (lawful_onNumber c fun _ => lawful_cueNewRule s _ gen)
  case cueNewBefore n c gen x =>
    exact taken_console n _ (lawful_onNumber c fun _ => lawful_onCueIx x fun _ => lawful_cueNewBeforeRule s _ gen _)
  case cueNewAfter n c gen x =>
    exact taken_console n _ (lawful_onNumber c fun _ => lawful_onCueIx x fun _ => lawful_cueNewAfterRule s _ gen _)
  case cueMoveBefore n c gen x y =>
    exact taken_console n _ (lawful_onNumber c fun _ => lawful_onCueIx x fun _ => lawful_onCueIx y fun _ =>
      lawful_cueMoveBeforeRule s _ gen _ _)
  case cueMoveAfter n c gen x y =>
    exact taken_console n _ (lawful_onNumber c fun _ => lawful_onCueIx x fun _ => lawful_onCueIx y fun _ =>
      lawful_cueMoveAfterRule s _ gen _ _)
  case cueWrite n c gen x cue =>
    exact taken_console n _ (lawful_onNumber c fun _ => lawful_onCueIx x fun _ => lawful_cueWriteRule s _ gen _ cue)
  case cueFree n c gen x =>
    exact taken_console n _ (lawful_onNumber c fun _ => lawful_onCueIx x fun _ => lawful_cueFreeRule s _ gen _)
  case reelSet n c gen reel length side =>
    exact taken_console n _ (lawful_onNumber c fun _ => lawful_onNumber reel fun _ =>
      lawful_reelSetRule s _ gen _ length side)
  case reelThreaded n c reel =>
    exact taken_console n _ (lawful_onNumber c fun _ => lawful_onNumber reel fun _ => lawful_reelThreadedRule s _ _)
  case reelUnthread n c reel =>
    exact taken_console n _ (lawful_onNumber c fun _ => lawful_onNumber reel fun _ => lawful_reelUnthreadRule s _ _)
  case showStart n c => exact taken_console n _ (lawful_onNumber c fun _ => lawful_showStartRule s _)
  case go n c => exact taken_console n _ (lawful_onNumber c fun _ => lawful_goRule s _)
  case showStop n c => exact taken_console n _ (lawful_onNumber c fun _ => lawful_showStopRule s _)
  case showRewind n c => exact taken_console n _ (lawful_onNumber c fun _ => lawful_showRewindRule s _)
  case showClear n c gen => exact taken_console n _ (lawful_onNumber c fun _ => lawful_showClearRule s _ gen)
  case projMotor n p v => exact taken_console n _ (lawful_onNumber p fun _ => lawful_projMotorRule s v _)
  case projDouser n p v => exact taken_console n _ (lawful_onNumber p fun _ => lawful_projDouserRule s v _)
  case lampStrike n p => exact taken_console n _ (lawful_onNumber p fun _ => lawful_lampStrikeRule s _)
  case lampOff n p => exact taken_console n _ (lawful_onNumber p fun _ => lawful_lampOffRule s _)
  case lampSet n p fields => exact taken_console n _ (lawful_onNumber p fun _ => lawful_lampSetRule s fields _)
  case lampRecarbon n p length => exact taken_console n _ (lawful_onNumber p fun _ => lawful_lampRecarbonRule s length _)
  case houseFade n c level time => exact taken_console n _ (lawful_onNumber c fun _ => lawful_houseFadeRule s level time _)
  case fireTrip n => exact taken_console n _ (s.lawful_takeCause _)
  case fireRearm n => exact taken_console n _ (lawful_fireRearmRule s)
  case shutterTest n k => exact taken_console n _ (lawful_onNumber k fun _ => lawful_shutterTestRule s _)
  case lineReset n => exact taken_console n _ (lawful_lineResetRule s)
  case boothSet n margin => exact taken_console n _ (s.lawful_margin _)
  case noticeNext n => exact taken_console n _ (lawful_noticeNextRule s n)
  case noticeMask n hidden => exact taken_console n _ (lawful_noticeMaskRule s n hidden)
  case noticeRoute n notice ports => exact taken_noticeRoute s n notice ports
  case noticeFlush n => exact taken_console n _ (s.lawful_setPending n _)
  case sprocketSample p level => exact taken_next (s.lawful_sampleSprocket p level)

/-- A step keeps the laws, whatever its queue: the command at its front is taken, or the clock runs. -/
theorem step_lawful {s t : State} (h : step s = .next t) :
    ∃ u v l m, u = { s with pending := l } ∧ u.Lawful v ∧ t = { v with pending := m } := by
  unfold step at h
  split at h
  · cases h
    obtain ⟨v, m, kept, e⟩ := s.lawful_tick
    exact ⟨s, v, _, m, rfl, kept, e⟩
  · rename_i c rest _
    obtain ⟨v, e, kept⟩ := exec_taken c { s with pending := rest }
    rw [e] at h
    cases h
    exact ⟨_, t, _, t.pending, rfl, kept, rfl⟩

end Sys2Proof.Machine

section

open Sys2Proof.Machine

/-- Settles O7: every command and the clock keep both laws of the ports. -/
theorem everyStepKeepsThePortLaws : Obligations.EveryStepKeepsThePortLaws := by
  intro s t h
  obtain ⟨_, v, _, _, rfl, kept, rfl⟩ := step_lawful h
  exact ⟨kept.attention, kept.dataLine⟩

/-- Settles O8: every command and the clock keep the blade law and the law of the line in a trip. -/
theorem everyStepKeepsTheLineLaws : Obligations.EveryStepKeepsTheLineLaws := by
  intro s t h
  obtain ⟨_, v, _, _, rfl, kept, rfl⟩ := step_lawful h
  exact ⟨kept.blade, kept.lineTrip⟩

/-- Settles O9: every command and the clock keep the law of the counters and the law of the lamps. -/
theorem everyStepKeepsTheProjectorLaws : Obligations.EveryStepKeepsTheProjectorLaws := by
  intro s t h
  obtain ⟨_, v, _, _, rfl, kept, rfl⟩ := step_lawful h
  exact ⟨kept.counter, kept.lamps⟩

/-- Settles O10: every command and the clock keep the cue pool, the AFTER timers and the arming law. -/
theorem everyStepKeepsTheShowLaws : Obligations.EveryStepKeepsTheShowLaws := by
  intro s t h
  obtain ⟨_, v, _, _, rfl, kept, rfl⟩ := step_lawful h
  exact ⟨kept.pool, kept.after, kept.armed⟩

/-- Settles O11: every command and the clock keep the fades, the full lights, the holds and the trip. -/
theorem everyStepKeepsTheHouseAndTripLaws : Obligations.EveryStepKeepsTheHouseAndTripLaws := by
  intro s t h
  obtain ⟨_, v, _, _, rfl, kept, rfl⟩ := step_lawful h
  exact ⟨kept.house, kept.full, kept.hold, kept.trip⟩

/-- Settles O2: every command is taken, and none touches the queue. -/
theorem everyCommandIsTaken : Obligations.EveryCommandIsTaken := by
  intro c s
  obtain ⟨t, e, kept⟩ := exec_taken c s
  exact ⟨t, e, kept.pending⟩

/-- Settles O1: the step's own equation. -/
theorem stepTakesTheFrontCommand : Obligations.StepTakesTheFrontCommand := by
  intro c rest s h
  simp only [step, h]

/-- Settles O5: the power-on records meet every law, and at the pins taken at reset they are the reset state. -/
theorem resetMeetsTheLaws : Obligations.ResetMeetsTheLaws := by
  obtain ⟨attention, dataLine, blade, lineTrip, counter, pool, after, house, full, hold, armed, lamps, trip⟩ :=
    powerOnState_resetPins ▸ powerOnState_meetsLaws resetPins
  refine ⟨?_, attention, dataLine, blade, lineTrip, counter, pool, after, armed, house, full, hold, trip, lamps⟩
  show Host.Outcome.next { powerOnState resetPins with pending := State.reset.pending } = .next State.reset
  rw [powerOnState_resetPins]

end
end

section
/-! PROOF. Notices and answers in a row of operations, and the commands that touch one record (spec/01 R17, R18, spec/03
R45 to R60, spec/05 R101, spec/10 section 10.4). -/

namespace Sys2Proof.Machine

/-! ### Notices and answers after further operations (R163, R165) -/

section

variable {s t u : State}

theorem PortRecord.getLsbD_grownTo {r r' : PortRecord} (h : r.grownTo r') (k : Nat)
    (pending : r.pendingSet.getLsbD k = true) : r'.pendingSet.getLsbD k = true := by
  obtain rfl | ⟨m, rfl⟩ := h
  · exact pending
  · simp [PortRecord.setPending, PortRecord.refresh, pending]

/-- A notice raised stands pending after it. -/
theorem noticed_raise (s : State) (k : Notice) : noticed k s (s.raise k) := by
  intro n routed
  rw [State.port_raise, if_pos routed]
  simp [PortRecord.setPending, PortRecord.refresh, getLsbD_noticeBit]

/-- What stood pending stays so through an ordinary act. -/
theorem noticed.andAct {k : Notice} (h : noticed k s t) (a : t.Act u) : noticed k s u := fun n routed =>
  PortRecord.getLsbD_grownTo (a.ports n) k.val (h n routed)

/-- A notice raised in the course of an act that leaves the routes. -/
theorem noticed_of_raise {k : Notice} (routes : t.pu.routes = s.pu.routes) (a : (t.raise k).Act u) :
    noticed k s u := by
  refine noticed.andAct (fun n routed => noticed_raise t k n ?_) a
  rw [State.route, routes]
  exact routed

/-- The answer set out leaves what stands pending. -/
theorem noticed.answer {k : Notice} (h : noticed k s t) (n : Port) (c : Instr) (st : Status) (data : List Byte) :
    noticed k s (t.answer n c st data) := h

theorem answers_answer (passed : t.pu.passed = s.pu.passed) (answers : t.pu.answers = s.pu.answers) (n : Port) (c : Instr)
    (st : Status) (data : List Byte) :
    (t.answer n c st data).pu.answers = (s.answer n c st data).pu.answers := by
  simp [State.answer, passed, answers]

theorem pu_answer (h : t.pu = s.pu) (n : Port) (c : Instr) (st : Status) (data : List Byte) :
    (t.answer n c st data).pu = (s.answer n c st data).pu := by
  simp [State.answer, h]

theorem State.Act.answers_answer (a : s.Act t) (n : Port) (c : Instr) (st : Status) (data : List Byte) :
    (t.answer n c st data).pu.answers = (s.answer n c st data).pu.answers :=
  Machine.answers_answer a.passed a.answers n c st data

theorem onlyTouches_refl (bs : List Block) (s : State) : onlyTouches bs s s := by simp [onlyTouches]

theorem onlyTouches.trans {bs : List Block} (a : onlyTouches bs s t) (b : onlyTouches bs t u) : onlyTouches bs s u := by
  obtain ⟨a1, a2, a3, a4, a5, a6, a7, a8, a9⟩ := a
  obtain ⟨b1, b2, b3, b4, b5, b6, b7, b8, b9⟩ := b
  exact ⟨fun h => (b1 h).trans (a1 h), fun h => (b2 h).trans (a2 h), fun h => (b3 h).trans (a3 h),
    fun h => (b4 h).trans (a4 h), fun h => (b5 h).trans (a5 h), fun h => (b6 h).trans (a6 h),
    fun h => (b7 h).trans (a7 h), fun h => (b8 h).trans (a8 h), b9.trans a9⟩

theorem onlyTouches.mono {bs cs : List Block} (a : onlyTouches bs s t) (h : bs ⊆ cs) : onlyTouches cs s t := by
  obtain ⟨a1, a2, a3, a4, a5, a6, a7, a8, a9⟩ := a
  exact ⟨fun k => a1 fun m => k (h m), fun k => a2 fun m => k (h m), fun k => a3 fun m => k (h m),
    fun k => a4 fun m => k (h m), fun k => a5 fun m => k (h m), fun k => a6 fun m => k (h m),
    fun k => a7 fun m => k (h m), fun k => a8 fun m => k (h m), a9⟩

end

section

variable {n : Port} {c : Instr} {s t : State} {rule : State → Ruling} {st : Status} {data : List Byte}

/-- A command that passes its port's checks is answered with its owner's ruling. -/
theorem console_ruled (right : (s.port n).grants (rightNeeded c) = true) (inside : inRange c = true)
    (ruling : rule s = ⟨st, data, t⟩) : console n c s rule = .next (t.answer n c st data) := by
  rw [console_taken s n c rule right inside, ruling]

/-- A command with no right needed and its arguments in range is ruled on by its owner. -/
theorem console_free (free : rightNeeded c = none) (inside : inRange c = true) (ruling : rule s = ⟨st, data, t⟩) :
    console n c s rule = .next (t.answer n c st data) :=
  console_ruled (by rw [free]; rfl) inside ruling

end

variable (s : State)

/-! ### BOOTH_SET (R101) -/

/-- Settles O54: the right, then the margin's clamp. -/
theorem boothSetClampsTheMargin : Obligations.BoothSetClampsTheMargin := by
  intro n margin s
  have ruled : exec (.boothSet n margin) s = console n (.boothSet n margin) s (fun s => boothSetRule s margin) := rfl
  rw [ruled]
  refine ⟨fun none => console_denied n _ s _ none, fun setup => ⟨_, console_ruled setup rfl rfl, ?_, rfl, ?_⟩⟩
  · simpa [State.answer, Config.marginMax] using (min_comm margin 14400).trans (min_def_lt 14400 margin)
  · simp [onlyTouches]

/-! ### The READ commands (section 10.4) -/

theorem length_byte1 (k : Nat) : (byte1 k).length = 1 := rfl
theorem length_byte2 (k : Nat) : (byte2 k).length = 2 := rfl
theorem length_byte3 (k : Nat) : (byte3 k).length = 3 := rfl
theorem length_maybe1 (k : Option Nat) : (maybe1 k).length = 1 := by cases k <;> rfl
theorem length_maybe2 (k : Option Nat) : (maybe2 k).length = 2 := by cases k <;> rfl
theorem length_feedTimerBytes (x : Option FeedTimer) : (feedTimerBytes x).length = 6 := by cases x <;> rfl
theorem length_reportBytes (x : Option Report) : (reportBytes x).length = 12 := by cases x <;> rfl

/-- The lengths of the fixed layouts. -/
theorem length_readBytes (c : Screen) (p : Projector) (k : Shutter) :
    (screenBytes s c).length = 18 ∧ (projectorBytes s p).length = 17 ∧ (lampBytes s p).length = 32
      ∧ (stationBytes s p).length = 22 ∧ (shutterBytes s k).length = 7 := by
  simp [screenBytes, projectorBytes, lampBytes, stationBytes, shutterBytes, changeoverBytes, yesNo, maybeNumber,
    maybeIndex, timer1, timer2, length_byte1, length_byte2, length_byte3, length_maybe1, length_maybe2,
    length_feedTimerBytes, length_reportBytes]

/-- Settles O6: each READ needs no right, its number is in range, and its owner's ruling is the record's bytes with the
state as it was. -/
theorem readsAnswerAndChangeNothing : Obligations.ReadsAnswerAndChangeNothing := by
  intro n s
  have zero : ∀ {m : Nat} (i : Fin m), numberOf i ≠ 0 := fun i => Nat.succ_ne_zero _
  have small : ∀ {m : Nat} (i : Fin m), numberOf i ≤ m := fun i => i.isLt
  refine ⟨fun c => ?_, fun p => ?_, fun p => ?_, fun p => ?_, ?_, ?_, fun k => ?_, fun c => ?_, ?_, fun c r => ?_,
    fun x => ?_, fun c => ?_, ?_, length_readBytes s⟩
  all_goals unfold exec; dsimp only
  · exact console_free rfl (oneTo_numberOf c) (onNumber_numberOf ..)
  · exact console_free rfl (oneTo_numberOf p) (onNumber_numberOf ..)
  · exact console_free rfl (oneTo_numberOf p) (onNumber_numberOf ..)
  · exact console_free rfl (decide_eq_true (small p)) (by simp only [readStationRule, if_neg (zero p), onNumber_numberOf, readRule])
  · exact console_free rfl rfl rfl
  · exact console_free rfl rfl rfl
  · exact console_free rfl (oneTo_numberOf k) (onNumber_numberOf ..)
  · exact console_free rfl (decide_eq_true (small c)) (by simp only [readHouseRule, if_neg (zero c), onNumber_numberOf, readRule])
  · exact console_free rfl rfl rfl
  · exact console_free rfl (by simp [inRange]) (by rw [onNumber_numberOf, onNumber_numberOf, readRule])
  · exact console_free rfl (decide_eq_true x.isLt) (dif_pos x.isLt)
  · exact console_free rfl (decide_eq_true (small c)) (by simp only [readListRule, if_neg (zero c), onNumber_numberOf, readRule])
  · exact console_free rfl rfl rfl

end Sys2Proof.Machine
end

section
/-! PROOF. Film motion: the manual commands, the slow start, the silence and the sprocket filter (spec/01 R2, R3, R12,
R15 to R18). -/

namespace Sys2Proof.Machine

variable (s : State)

/-! ### A change of speed handed to the show unit (R93) -/

section

variable (p q : Projector) (v : Speed)

/-- Only a projector that is STARTING or STANDBY is moved by its speed. -/
theorem State.onSpeed_of_role (starting : s.role p ≠ .starting) (standby : s.role p ≠ .standby) : s.onSpeed p v = s := by
  unfold State.onSpeed
  split <;> simp_all

theorem State.touches_openDouserIf (b : Bool) : onlyTouches [.lc] s (s.openDouserIf p b) := by
  rw [State.openDouserIf_eq]
  split <;> simp [onlyTouches]

theorem State.touches_examine (c : Screen) : onlyTouches [.lc, .su, .pu] s (s.examine c) := by simp [onlyTouches]

theorem State.touches_becomeStandby : onlyTouches [.lc, .su, .pu] s (s.becomeStandby p) :=
  ((show onlyTouches [.lc, .su, .pu] s (s.setRole p .standby) by simp [onlyTouches]).trans
    ((State.touches_openDouserIf ..).mono (by simp))).trans (State.touches_examine ..)

theorem State.touches_onSpeed : onlyTouches [.lc, .su, .pu] s (s.onSpeed p v) := by
  have back : onlyTouches [.lc, .su, .pu] s ((s.setRole p .starting).examine (screenOf p)) := by simp [onlyTouches]
  unfold State.onSpeed
  split
  · exact s.touches_becomeStandby p
  · exact back
  · exact back
  · exact onlyTouches_refl _ s

theorem State.station_openDouserIf (b : Bool) : (s.openDouserIf p b).station q =
    if p = q ∧ b = true ∧ s.lc.tripInForce = false then
      { s.station q with desired := { (s.station q).desired with douser := .opened } } else s.station q := by
  rw [State.openDouserIf_eq]
  by_cases h : p = q <;> by_cases k : b = true ∧ s.lc.tripInForce = false <;> simp [h, k]

@[simp] theorem State.openDouserIf_su (b : Bool) : (s.openDouserIf p b).su = s.su :=
  (s.touches_openDouserIf p b).2.2.2.1 (by simp)

theorem State.role_becomeStandby : (s.becomeStandby p).role q = if p = q then .standby else s.role q := by
  simp only [State.becomeStandby, State.examine_role]
  simp only [State.role, State.openDouserIf_su]
  exact State.role_setRole ..

theorem State.station_becomeStandby : (s.becomeStandby p).station q =
    if p = q ∧ (s.lamp p).state = .burning ∧ s.lc.tripInForce = false then
      { s.station q with desired := { (s.station q).desired with douser := .opened } } else s.station q := by
  simp [State.becomeStandby, State.station_openDouserIf]

/-- What a speed change does to the roles. -/
theorem State.role_onSpeed : (s.onSpeed p v).role q = if p = q then (s.role q).afterSpeed v else s.role q := by
  unfold State.onSpeed
  by_cases h : p = q
  · subst h
    split <;> simp_all [State.role_becomeStandby, Role.afterSpeed]
  · split <;> simp [State.role_becomeStandby, h]

/-- What a speed change does to the stations: the douser of a projector become STANDBY, where its lamp burns. -/
theorem State.station_onSpeed : (s.onSpeed p v).station q =
    if s.role p = .starting ∧ v = .atSpeed then (s.becomeStandby p).station q else s.station q := by
  unfold State.onSpeed
  split <;> simp_all

@[simp] theorem State.onSpeed_mu : (s.onSpeed p v).mu = s.mu := (s.touches_onSpeed p v).1 (by simp)
@[simp] theorem State.onSpeed_motion : (s.onSpeed p v).motion q = s.motion q := by simp [State.motion]

end

/-! ### A reading rule for the record of one motion (R16) -/

@[simp] theorem State.motion_projectorAttention (p q : Projector) (c : MotionCause) :
    (s.projectorAttention p c).motion q = if p = q then { s.motion q with cause := c } else s.motion q := by
  by_cases h : p = q
  · subst h; simp [State.projectorAttention]
  · simp [State.projectorAttention, h]

/-- PROJECTOR_ATTENTION stands pending after it is raised. -/
theorem State.noticed_projectorAttention {s t u : State} {p : Projector} {c : MotionCause}
    (routes : t.pu.routes = s.pu.routes) (a : (t.projectorAttention p c).Act u) :
    noticed (noticeProjectorAttention p) s u := by
  refine noticed_of_raise ?_ a
  exact routes

/-! ### The gate of an IDLE projector (R4, R5, R17) -/

section

variable {s : State} {p : Projector}

theorem State.gateFollows_of_role (starting : s.role p ≠ .starting) (standby : s.role p ≠ .standby) (v : MotorCommand) :
    s.gateFollows p v =
      s.onMotion p (fun _ => match v with | .run => (s.motion p).openGate | .stop => (s.motion p).closeGate) := by
  unfold State.gateFollows State.moveMotion
  cases v
  all_goals
    simp only [ite_eq_left_iff]
    intro _
    exact State.onSpeed_of_role _ p _ starting standby

/-- The desired motor written for an IDLE projector: its field, and the gate where the field changes. -/
theorem State.writeMotor_of_idle (idle : s.role p = .idle) (v : MotorCommand) :
    (s.writeMotor p v).station p = { s.station p with desired := { (s.station p).desired with motor := v } }
      ∧ otherStationsKept p s (s.writeMotor p v)
      ∧ (s.writeMotor p v).motion p = (if (s.station p).desired.motor = v then s.motion p
          else match v with | .run => (s.motion p).openGate | .stop => (s.motion p).closeGate)
      ∧ otherMotionsKept p s (s.writeMotor p v) ∧ onlyTouches [.mu, .lc] s (s.writeMotor p v) := by
  unfold State.writeMotor
  split
  case isTrue same =>
    subst same
    exact ⟨rfl, ⟨fun _ _ => rfl, rfl⟩, rfl, fun _ _ => rfl, onlyTouches_refl _ s⟩
  case isFalse other =>
    rw [State.gateFollows_of_role (by simp [idle]) (by simp [idle])]
    refine ⟨by simp, ⟨fun q hq => by simp [hq.symm], rfl⟩, by simp, fun q hq => by simp [hq.symm], ?_⟩
    simp [onlyTouches]

end

/-! ### PROJ_MOTOR and PROJ_DOUSER (R17, R18) -/

section

variable {s t : State} {n : Port} {p : Projector} {st : Status}

theorem exec_projMotor {a : Nat} (small : a ≤ 1) (ruling : projMotorRule s a p = ⟨st, [], t⟩) :
    exec (.projMotor n (numberOf p) a) s = .next (t.answer n (.projMotor n (numberOf p) a) st []) := by
  unfold exec; dsimp only
  exact console_free rfl (by simp [inRange, small]) (by rw [onNumber_numberOf, ruling])

theorem exec_projDouser {a : Nat} (small : a ≤ 1) (ruling : projDouserRule s a p = ⟨st, [], t⟩) :
    exec (.projDouser n (numberOf p) a) s = .next (t.answer n (.projDouser n (numberOf p) a) st []) := by
  unfold exec; dsimp only
  exact console_free rfl (by simp [inRange, small]) (by rw [onNumber_numberOf, ruling])

theorem projMotorRule_of_idle {a : Nat} (idle : s.role p = .idle) (free : a = 1 → s.lc.tripInForce = false) :
    projMotorRule s a p = ⟨.ok, [], s.writeMotor p (if a = 1 then .run else .stop)⟩ := by
  have taken : ¬((if a = 1 then MotorCommand.run else .stop) = .run ∧ s.lc.tripInForce = true) := by
    rintro ⟨run, trip⟩
    by_cases h : a = 1 <;> simp_all
  rw [projMotorRule, if_neg (not_not.mpr idle), State.askMotor_eq, if_neg taken]

theorem projDouserRule_of_idle {a : Nat} (idle : s.role p = .idle) (free : a = 1 → s.lc.tripInForce = false) :
    projDouserRule s a p =
      ⟨.ok, [], s.onDesired p (fun d => { d with douser := if a = 1 then .opened else .closed })⟩ := by
  have taken : ¬((if a = 1 then Opening.opened else .closed) = .opened ∧ s.lc.tripInForce = true) := by
    rintro ⟨run, trip⟩
    by_cases h : a = 1 <;> simp_all
  rw [projDouserRule, if_neg (not_not.mpr idle), State.askDouser_eq, if_neg taken]

/-- An answer set out touches the port unit alone. -/
theorem onlyTouches.answer {bs cs : List Block} (a : onlyTouches bs s t) (h : bs ⊆ cs) (pu : .pu ∈ cs) (c : Instr)
    (data : List Byte) : onlyTouches cs s (t.answer n c st data) :=
  (a.mono h).trans (by simp [onlyTouches, pu])

end

/-- Settles O17: refused by role, refused by the trip, or the line controller's own act, under which an IDLE projector's
role does not move. -/
theorem manualMotorAndDouser : Obligations.ManualMotorAndDouser := by
  intro n p s
  refine ⟨fun past a => ?_, fun idle trip => ?_, fun idle free => ?_, fun idle => ?_, fun idle a free => ?_⟩
  · have small : a.val ≤ 1 := Nat.le_of_lt_succ a.isLt
    exact ⟨exec_projMotor small (if_pos past), exec_projDouser small (if_pos past)⟩
  · constructor
    · exact exec_projMotor le_rfl (by simp [projMotorRule, idle, State.askMotor_eq, trip])
    · exact exec_projDouser le_rfl (by simp [projDouserRule, idle, State.askDouser_eq, trip])
  · obtain ⟨station, others, motion, motions, touched⟩ := State.writeMotor_of_idle idle .run
    exact ⟨_, exec_projMotor le_rfl (projMotorRule_of_idle idle fun _ => free), station, others,
      pu_answer (touched.2.2.2.2.2.2.1 (by simp)) .., motion, motions, touched.answer (by simp) (by simp) ..⟩
  · obtain ⟨station, others, motion, motions, touched⟩ := State.writeMotor_of_idle idle .stop
    exact ⟨_, exec_projMotor (Nat.zero_le 1) (projMotorRule_of_idle idle fun h => absurd h (by decide)), station, others,
      pu_answer (touched.2.2.2.2.2.2.1 (by simp)) .., motion, motions, touched.answer (by simp) (by simp) ..⟩
  · have same : a.val = 1 ↔ a = 1 := ⟨fun h => Fin.ext h, fun h => congrArg Fin.val h⟩
    refine ⟨_, exec_projDouser (Nat.le_of_lt_succ a.isLt) (projDouserRule_of_idle idle fun h => free (same.mp h)), ?_⟩
    refine ⟨by simp [same], ⟨fun q hq => by simp [hq.symm], rfl⟩, rfl, by simp [onlyTouches]⟩

/-! ### The slow start and the silence (R12, R15) -/

/-- A silence of a timed projector, its own act and its notice. -/
def State.silenced (s : State) (p : Projector) : State :=
  (s.onMotion p Motion.silent).silentAttention p (s.motion p).silentStop

theorem State.silence_of_timed {p : Projector} (timed : (s.motion p).timed = true) : s.silence p =
    (s.silenced p).reportSpeed p (if (s.motion p).speed = .stopped then none else some .stopped) := if_pos timed

theorem State.silence_of_not_timed {p : Projector} (untimed : (s.motion p).timed = false) : s.silence p = s := by
  simp [State.silence, untimed]

theorem State.motion_silenced (p q : Projector) : (s.silenced p).motion q =
    if p = q then { (s.motion q).silent with cause := if (s.motion q).silentStop then .silentStop else (s.motion q).cause }
    else s.motion q := by
  unfold State.silenced State.silentAttention
  by_cases h : p = q
  · subst h
    split <;> simp [*, Motion.silent, Motion.resetPeriod]
  · split <;> simp [h]

theorem State.touches_silenced (p : Projector) : onlyTouches [.mu, .pu] s (s.silenced p) := by
  unfold State.silenced State.silentAttention
  split <;> simp [onlyTouches, State.projectorAttention]

theorem State.touches_reportSpeed (p : Projector) (v : Option Speed) :
    onlyTouches [.lc, .su, .pu] s (s.reportSpeed p v) := by
  cases v with
  | none => exact onlyTouches_refl _ s
  | some v => exact s.touches_onSpeed p v

@[simp] theorem State.motion_reportSpeed (p q : Projector) (v : Option Speed) :
    (s.reportSpeed p v).motion q = s.motion q := by
  cases v <;> simp [State.reportSpeed]

/-- What the report of a silence does to the roles. -/
theorem State.role_silence_reported (p q : Projector) (v : Speed) :
    (s.reportSpeed p (if v = .stopped then none else some .stopped)).role q =
      if p = q then (if s.role q = .standby ∧ v ≠ .stopped then .starting else s.role q) else s.role q := by
  by_cases h : v = .stopped
  · simp [State.reportSpeed, h]
  · simp only [h, if_false, State.reportSpeed, State.role_onSpeed]
    cases s.role q <;> simp [Role.afterSpeed, h]

theorem State.station_silence_reported (p q : Projector) (v : Speed) :
    (s.reportSpeed p (if v = .stopped then none else some .stopped)).station q = s.station q := by
  by_cases h : v = .stopped
  · simp [State.reportSpeed, h]
  · simp [State.reportSpeed, h, State.station_onSpeed]

/-- Settles O16: each event reads whether its moment can come, and does its own act where it can. -/
theorem slowStartAndSilence : Obligations.SlowStartAndSilence := by
  intro p s
  refine ⟨fun x running => ?_, fun stopped => ?_, fun opened started => ?_, fun ended => ?_⟩
  · have out : s.slowStartOut p = (s.onMotion p (fun m => { m with slowStart := none })).projectorAttention p .slowStart := by
      simp only [State.slowStartOut, running]
    refine ⟨_, congrArg Host.Outcome.next out, ?_, fun q hq => ?_, ?_, ?_⟩
    · simp
    · simp [hq.symm]
    · rfl
    · simp [onlyTouches, State.projectorAttention]
  · exact congrArg Host.Outcome.next (by simp only [State.slowStartOut, stopped])
  · have timed : (s.motion p).timed = true := by simp [Motion.timed, opened, started]
    have su : (s.silenced p).su = s.su := (s.touches_silenced p).2.2.2.1 (by simp)
    have lc : (s.silenced p).lc = s.lc := (s.touches_silenced p).2.1 (by simp)
    have role : ∀ q, (s.silenced p).role q = s.role q := fun q => by simp [State.role, su]
    have station : ∀ q, (s.silenced p).station q = s.station q := fun q => by simp [State.station, lc]
    refine ⟨_, congrArg Host.Outcome.next (s.silence_of_timed timed), ⟨?_, fun stop => ?_⟩, ?_, fun q hq => ?_, fun q => ?_,
      fun q hq => ?_, ?_⟩
    · simp [State.motion_silenced, Motion.silent, Motion.resetPeriod, Motion.silentStop, Timer.start, or_assoc]
    · have attention : s.silenced p = (s.onMotion p Motion.silent).projectorAttention p .silentStop :=
        if_pos (by simpa [Motion.silentStop, or_assoc] using stop)
      rw [attention]
      refine State.noticed_projectorAttention ?_ (State.act_reportSpeed _ _ _)
      simp
    · rw [State.role_silence_reported, if_pos rfl, role]
    · simp [State.motion_silenced, hq.symm]
    · rw [State.station_silence_reported, station]
    · rw [State.role_silence_reported, if_neg hq.symm, role]
    · exact ((s.touches_silenced p).mono (by simp)).trans ((State.touches_reportSpeed ..).mono (by simp))
  · exact congrArg Host.Outcome.next (s.silence_of_not_timed (by cases ended <;> simp_all [Motion.timed]))

end Sys2Proof.Machine
end

section
/-! PROOF. Acts of several blocks written as updates of their records: a lamp put out, a motor stopped, a reel moved. -/

namespace Sys2Proof.Machine

variable (s : State)

/-! ### Tables and records replaced by themselves -/

theorem upd_self {α : Type} {n : Nat} (v : Vector α n) (i : Fin n) (f : α → α) (h : f v[i] = v[i]) : upd v i f = v :=
  table_ext fun j => by
    rw [upd_get]
    split
    · subst i; exact h
    · rfl

theorem State.onMotion_self (p : Projector) (f : Motion → Motion) (h : f (s.motion p) = s.motion p) :
    s.onMotion p f = s := by
  rw [State.onMotion, upd_self _ _ _ h]

theorem State.onStation_self (p : Projector) (f : Station → Station) (h : f (s.station p) = s.station p) :
    s.onStation p f = s := by
  rw [State.onStation, upd_self _ _ _ h]

theorem State.onScreen_self (c : Screen) (f : ScreenRecord → ScreenRecord) (h : f (s.screen c) = s.screen c) :
    s.onScreen c f = s := by
  rw [State.onScreen, upd_self _ _ _ h]

/-! ### What an examination leaves of a screen (R113) -/

section

variable (c d : Screen)

@[simp] theorem State.examine_list : ((s.examine c).screen d).list = (s.screen d).list := by rw [s.examine_screen]
@[simp] theorem State.examine_generation : ((s.examine c).screen d).generation = (s.screen d).generation := by
  rw [s.examine_screen]
@[simp] theorem State.examine_state : ((s.examine c).screen d).state = (s.screen d).state := by rw [s.examine_screen]
@[simp] theorem State.examine_next : ((s.examine c).screen d).next = (s.screen d).next := by rw [s.examine_screen]
@[simp] theorem State.examine_afterTimer : ((s.examine c).screen d).afterTimer = (s.screen d).afterTimer := by
  rw [s.examine_screen]
@[simp] theorem State.examine_motorOwed : ((s.examine c).screen d).motorOwed = (s.screen d).motorOwed := by
  rw [s.examine_screen]
@[simp] theorem State.examine_changeHeld : ((s.examine c).screen d).changeHeld = (s.screen d).changeHeld := by
  rw [s.examine_screen]

/-- The fields of a changeover that an examination leaves. -/
def Changeover.settledFields (x : Changeover) : Option Projector × Option CueIx × Bool × Bool :=
  (x.outgoing, x.cue, x.late, x.unconfirmed)

theorem State.settledFields_onChangeover (f : Changeover → Changeover)
    (h : ∀ x, (f x).settledFields = x.settledFields) :
    ((s.onChangeover c f).screen d).changeover.settledFields = (s.screen d).changeover.settledFields := by
  rw [State.screen_onChangeover]
  split <;> simp_all

theorem State.settledFields_requestBurst (p : Projector) :
    ((s.requestBurst c p).screen d).changeover.settledFields = (s.screen d).changeover.settledFields := by
  unfold State.requestBurst State.askBurst
  cases s.burstRuling c
  case ok => exact State.settledFields_onChangeover _ c d _ fun _ => rfl
  all_goals rfl

theorem State.settledFields_withdrawBurst :
    ((s.withdrawBurst c).screen d).changeover.settledFields = (s.screen d).changeover.settledFields := by
  unfold State.withdrawBurst State.askWithdraw
  cases s.lc.burstQueue.any (Burst.isOf c)
  · rfl
  · exact State.settledFields_onChangeover (s.setQueue _) c d (fun x => { x with state := .waitingReady }) fun _ => rfl

theorem State.settledFields_examine :
    ((s.examine c).screen d).changeover.settledFields = (s.screen d).changeover.settledFields := by
  have found := s.settledFields_onChangeover c d (fun x => { x with incoming := s.incomingOf c }) fun _ => rfl
  simp only [State.examine]
  split
  · unfold State.requestIfReady
    split
    · split
      · exact (State.settledFields_requestBurst ..).trans found
      · exact found
    · exact found
  · split
    · exact found
    · exact (State.settledFields_withdrawBurst ..).trans found
  all_goals rfl

@[simp] theorem State.examine_outgoing :
    ((s.examine c).screen d).changeover.outgoing = (s.screen d).changeover.outgoing :=
  congrArg (fun x => x.1) (s.settledFields_examine c d)
@[simp] theorem State.examine_changeoverCue :
    ((s.examine c).screen d).changeover.cue = (s.screen d).changeover.cue :=
  congrArg (fun x => x.2.1) (s.settledFields_examine c d)
@[simp] theorem State.examine_late :
    ((s.examine c).screen d).changeover.late = (s.screen d).changeover.late :=
  congrArg (fun x => x.2.2.1) (s.settledFields_examine c d)
@[simp] theorem State.examine_unconfirmed :
    ((s.examine c).screen d).changeover.unconfirmed = (s.screen d).changeover.unconfirmed :=
  congrArg (fun x => x.2.2.2) (s.settledFields_examine c d)

end

/-! ### A motor stopped (R5, R32) -/

/-- The gate as a change of the desired motor to `v` leaves it. -/
def Motion.gateAfter (m : Motion) : MotorCommand → Motion
  | .run => m.openGate
  | .stop => m.closeGate

/-- The desired motor written for a projector whose role its speed does not move. -/
theorem State.writeMotor_of_role {p : Projector} (starting : s.role p ≠ .starting) (standby : s.role p ≠ .standby)
    (v : MotorCommand) : s.writeMotor p v =
      (s.onDesired p (fun d => { d with motor := v })).onMotion p
        (fun m => if (s.station p).desired.motor = v then m else m.gateAfter v) := by
  unfold State.writeMotor
  split
  case isTrue same =>
    subst same
    rw [State.onMotion_self _ _ _ rfl]
    exact (s.onStation_self _ _ rfl).symm
  case isFalse other =>
    rw [State.gateFollows_of_role (by simpa using starting) (by simpa using standby)]
    cases v <;> rfl

theorem State.stopMotor_of_idle {p : Projector} (idle : s.role p = .idle) : s.stopMotor p =
    (s.onDesired p (fun d => { d with motor := .stop })).onMotion p
      (fun m => if (s.station p).desired.motor = .stop then m else m.closeGate) :=
  s.writeMotor_of_role (by simp [idle]) (by simp [idle]) .stop

@[simp] theorem Motion.closeGate_framesRemaining (m : Motion) : m.closeGate.framesRemaining = m.framesRemaining := rfl
@[simp] theorem Motion.closeGate_cause (m : Motion) : m.closeGate.cause = m.cause := rfl

/-! ### A reel moved (R82) -/

/-- The reel table of projector `p`'s screen with its reel moved from `old` to `new`. -/
def State.movedReels (s : State) (p : Projector) (old new : ReelState) : Vector ReelEntry 12 :=
  match s.reelOf p old with
  | some r => upd (s.screen (screenOf p)).reels r (ReelEntry.withState new)
  | none => (s.screen (screenOf p)).reels

theorem State.moveReel_eq (p : Projector) (old new : ReelState) :
    s.moveReel p old new = s.onScreen (screenOf p) (fun r => { r with reels := s.movedReels p old new }) := by
  unfold State.moveReel State.movedReels
  cases s.reelOf p old with
  | some r => rfl
  | none => exact (s.onScreen_self _ _ rfl).symm

/-- The reel found is the one moved. -/
theorem State.movedReels_get {p : Projector} {old new : ReelState} {r : ReelIx} (h : s.reelOf p old = some r) :
    (s.movedReels p old new)[r] = (s.reel (screenOf p) r).withState new := by
  simp only [State.movedReels, h, State.reel, upd_get, if_true]

/-! ### A lamp record handed on (R44) -/

/-- A lamp that does not become BURNING asks for no douser: the change is a plain event for the incoming. -/
theorem State.handLamp_of_not_burning (p : Projector) {l : Lamp} (h : l.state ≠ .burning) :
    s.handLamp p l = (s.onLamp p (fun _ => l)).examine (screenOf p) := by
  simp [State.handLamp, State.onLampState, State.openDouserIf_eq, h]

theorem Lamp.putOut_not_burning (l : Lamp) : l.putOut.state ≠ .burning := by simp [Lamp.putOut]

theorem State.extinguish_of_cold {p : Projector} (h : (s.lamp p).state = .cold) : s.extinguish p = s := if_pos h

theorem State.extinguish_of_lit {p : Projector} (h : (s.lamp p).state ≠ .cold) : s.extinguish p =
    (((s.onDesired p (fun d => { d with arc := .off })).onLamp p Lamp.putOut).examine (screenOf p)).lampAttention p
      .off := by
  rw [State.extinguish, if_neg h, State.handLamp_of_not_burning _ _ (Lamp.putOut_not_burning _)]
  rfl

@[simp] theorem State.lamp_lampAttention (p q : Projector) (c : LampCause) :
    (s.lampAttention p c).lamp q = if p = q then { s.lamp q with cause := c } else s.lamp q := by
  by_cases h : p = q
  · subst h; simp [State.lampAttention]
  · simp [State.lampAttention, h]

end Sys2Proof.Machine
end

section
/-! PROOF. Sprocket pulses: the filter, the count, the judged periods and the run-out (spec/01 R2 to R14, spec/05 R93,
R94). -/

namespace Sys2Proof.Machine

variable (s : State)

/-! ### The filter (R2) -/

theorem State.sampleSprocket_eq (p : Projector) (level : Level) : s.sampleSprocket p level =
    if (s.motion p).accepted = level then (s.sprocketAt p level).onMotion p (fun m => { m with sampleRun := 0 })
    else if (s.motion p).sampleRun < 2 then
      (s.sprocketAt p level).onMotion p (fun m => { m with sampleRun := m.sampleRun + 1 })
    else if level = .high then ((s.sprocketAt p level).onMotion p Motion.acceptHigh).acceptedPulse p
    else (s.sprocketAt p level).onMotion p (fun m => { m with accepted := .low, sampleRun := 0 }) := by
  by_cases same : level = (s.motion p).accepted
  · have sampled : filterSample (s.motion p).accepted (s.motion p).sampleRun level = ((s.motion p).accepted, 0, false) :=
      if_pos same
    rw [State.sampleSprocket, sampled, if_pos same.symm]
    rfl
  · rw [if_neg (Ne.symm same)]
    by_cases early : (s.motion p).sampleRun < 2
    · have sampled : filterSample (s.motion p).accepted (s.motion p).sampleRun level =
          ((s.motion p).accepted, (s.motion p).sampleRun + 1, false) :=
        (if_neg same).trans (if_neg (Nat.not_le.mpr (Nat.succ_lt_succ early)))
      rw [State.sampleSprocket, sampled, if_pos early]
      rfl
    · have sampled : filterSample (s.motion p).accepted (s.motion p).sampleRun level = (level, 0, true) :=
        (if_neg same).trans (if_pos (Nat.succ_le_succ (Nat.not_lt.mp early)))
      rw [State.sampleSprocket, sampled, if_neg early]
      cases level <;> rfl

/-! ### The motion record of a pulse taken (R6, R9, R11, R13, R14) -/

namespace Motion

variable (m : Motion)

theorem count_eq : m.count = { m with
    framesRemaining := m.framesRemaining - 1
    watch := if m.framesRemaining ≠ 0 ∧ m.reachesWatch = true then none else m.watch } := by
  unfold Motion.count
  split
  · rename_i h
    cases m
    simp_all
  · simp [*]

/-- What the judging of a period leaves alone. -/
theorem judge_keeps (d : Nat) : (m.judge d).accepted = m.accepted ∧ (m.judge d).sampleRun = m.sampleRun
    ∧ (m.judge d).gate = m.gate ∧ (m.judge d).framesRemaining = m.framesRemaining
    ∧ (m.judge d).loadedLength = m.loadedLength ∧ (m.judge d).watch = m.watch ∧ (m.judge d).phase = m.phase
    ∧ (m.judge d).runningCount = m.runningCount ∧ (m.judge d).lastPeriod = m.lastPeriod
    ∧ (m.judge d).periodCurrent = m.periodCurrent ∧ (m.judge d).cause = m.cause := by
  unfold Motion.judge Motion.judgeForSpeed Motion.judgeAtSpeed
  repeat' split
  all_goals simp

theorem time_of_awaiting (h : m.phase = .awaiting) : m.time = { m with
    runningCount := .start 0, phase := .discarding, speed := if m.speed = .stopped then .runningUp else m.speed } := by
  simp [Motion.time, h]

theorem time_of_discarding (h : m.phase = .discarding) :
    m.time = { m with runningCount := .start 0, phase := .judging } := by
  simp [Motion.time, h]

theorem time_of_judging (h : m.phase = .judging) : m.time =
    ({ m with lastPeriod := m.runningCount.value, periodCurrent := true, runningCount := .start 0 } : Motion).judge
      m.runningCount.value := by
  simp [Motion.time, h]

/-- What the timing of a pulse leaves alone. -/
theorem time_keeps : m.time.accepted = m.accepted ∧ m.time.sampleRun = m.sampleRun ∧ m.time.gate = m.gate
    ∧ m.time.framesRemaining = m.framesRemaining ∧ m.time.loadedLength = m.loadedLength ∧ m.time.watch = m.watch
    ∧ m.time.cause = m.cause ∧ m.time.runningCount = .start 0 := by
  cases h : m.phase with
  | awaiting => simp [m.time_of_awaiting h]
  | discarding => simp [m.time_of_discarding h]
  | judging => simp [m.time_of_judging h, judge_keeps]

/-- The watch as the count of a pulse leaves it (R9). -/
def watchAfter (m : Motion) : Option Nat :=
  match m.watch with
  | some w => if m.framesRemaining ≠ 0 ∧ m.framesRemaining - 1 ≤ w then none else some w
  | none => none

/-- The record of a pulse taken: counted, then timed. -/
def pulsed (m : Motion) : Motion := m.acceptHigh.count.time

/-- The record of a pulse taken, counted and not yet timed. -/
def tallied (m : Motion) : Motion :=
  { m with accepted := .high, sampleRun := 0, framesRemaining := m.framesRemaining - 1, watch := m.watchAfter }

theorem count_acceptHigh : m.acceptHigh.count = m.tallied := by
  rw [count_eq]
  cases h : m.watch <;> simp [acceptHigh, reachesWatch, watchAfter, tallied, h]

theorem pulsed_keeps : m.pulsed.accepted = .high ∧ m.pulsed.sampleRun = 0 ∧ m.pulsed.gate = m.gate
    ∧ m.pulsed.framesRemaining = m.framesRemaining - 1 ∧ m.pulsed.loadedLength = m.loadedLength
    ∧ m.pulsed.watch = m.watchAfter ∧ m.pulsed.cause = m.cause ∧ m.pulsed.runningCount = ⟨0, 0⟩ := by
  rw [pulsed, count_acceptHigh]
  exact m.tallied.time_keeps

theorem pulsed_of_awaiting (h : m.phase = .awaiting) : m.pulsed.phase = .discarding ∧ m.pulsed.lastPeriod = m.lastPeriod
    ∧ m.pulsed.periodCurrent = m.periodCurrent
    ∧ m.pulsed.speed = if m.speed = .stopped then .runningUp else m.speed := by
  rw [pulsed, count_acceptHigh, time_of_awaiting m.tallied h]
  exact ⟨rfl, rfl, rfl, rfl⟩

theorem pulsed_of_discarding (h : m.phase = .discarding) : m.pulsed.phase = .judging
    ∧ m.pulsed.lastPeriod = m.lastPeriod ∧ m.pulsed.periodCurrent = m.periodCurrent ∧ m.pulsed.speed = m.speed := by
  rw [pulsed, count_acceptHigh, time_of_discarding m.tallied h]
  exact ⟨rfl, rfl, rfl, rfl⟩

/-- A period judged: the record before it, counted, with the period just measured. -/
def counted (m : Motion) : Motion :=
  { m.tallied with lastPeriod := m.runningCount.value, periodCurrent := true, runningCount := ⟨0, 0⟩ }

theorem pulsed_of_judging (h : m.phase = .judging) : m.pulsed = m.counted.judge m.runningCount.value := by
  rw [pulsed, count_acceptHigh, time_of_judging m.tallied h]
  rfl

end Motion

/-! ### The state of a pulse taken (R3, R16) -/

section

variable (p q : Projector)

/-- The motion unit's own act on a pulse. -/
def State.pulsed (s : State) (p : Projector) : State :=
  ((s.sprocketAt p .high).onMotion p Motion.acceptHigh).takePulse p

/-- Whether a pulse loses the speed (R14). -/
def Motion.losesSpeed (m : Motion) : Bool := m.pulsed.speed = .offSpeed && m.speed ≠ .offSpeed

theorem State.pulsed_eq : s.pulsed p =
    if (s.motion p).losesSpeed then ((s.sprocketAt p .high).onMotion p Motion.pulsed).projectorAttention p .offSpeed
    else (s.sprocketAt p .high).onMotion p Motion.pulsed := by
  have motion : ((s.sprocketAt p .high).onMotion p Motion.acceptHigh).motion p = (s.motion p).acceptHigh :=
    (State.motion_onMotion ..).trans (if_pos rfl)
  have twice : (((s.sprocketAt p .high).onMotion p Motion.acceptHigh).onMotion p (fun _ => (s.motion p).pulsed)) =
      (s.sprocketAt p .high).onMotion p Motion.pulsed := by
    simp [State.onMotion, upd]
    rfl
  simp only [State.pulsed, State.takePulse, motion]
  exact if_congr Iff.rfl (congrArg (State.projectorAttention · p .offSpeed) twice) twice

theorem State.motion_pulsed : (s.pulsed p).motion q =
    if p = q then { (s.motion q).pulsed with
      cause := if (s.motion q).losesSpeed then .offSpeed else (s.motion q).cause } else s.motion q := by
  have read : ((s.sprocketAt p .high).onMotion p Motion.pulsed).motion q =
      if p = q then (s.motion q).pulsed else s.motion q := by
    rw [State.motion_onMotion]
    by_cases h : p = q
    · subst h; rfl
    · simp only [h, if_false]; rfl
  have cause := (s.motion q).pulsed_keeps.2.2.2.2.2.2.1
  rw [State.pulsed_eq]
  by_cases h : p = q
  · subst h
    split <;> simp_all
    rw [← cause]
  · split <;> simp_all

theorem State.touches_pulsed : onlyTouches [.mu, .pu, .pins] s (s.pulsed p) := by
  rw [State.pulsed_eq]
  split <;> exact ⟨by simp, fun _ => rfl, fun _ => rfl, fun _ => rfl, fun _ => rfl, fun _ => rfl, by simp, by simp, rfl⟩

theorem State.pulsed_of_kept (kept : (s.motion p).losesSpeed = false) : onlyTouches [.mu, .pins] s (s.pulsed p) := by
  rw [State.pulsed_eq, if_neg (by simp [kept])]
  exact ⟨by simp, fun _ => rfl, fun _ => rfl, fun _ => rfl, fun _ => rfl, fun _ => rfl, fun _ => rfl, by simp, rfl⟩

/-- The speed a pulse reports (R16). -/
def Motion.newSpeed (m : Motion) : Option Speed := if m.pulsed.speed = m.speed then none else some m.pulsed.speed

theorem exec_sprocketPulse_of_opened {s : State} {p : Projector} (opened : (s.motion p).gate = .opened) :
    exec (.sprocketPulse p) s = .next
      ((((s.pulsed p).reportWatch p ((s.motion p).framesRemaining ≠ 0 && (s.motion p).reachesWatch)).reportZero p
        ((s.motion p).framesRemaining = 1)).reportSpeed p (s.motion p).newSpeed) := by
  have motion : ((s.sprocketAt p .high).onMotion p Motion.acceptHigh).motion p = (s.motion p).acceptHigh :=
    (State.motion_onMotion ..).trans (if_pos rfl)
  have gate : (s.motion p).acceptHigh.gate = .opened := opened
  show Host.Outcome.next (((s.sprocketAt p .high).onMotion p Motion.acceptHigh).acceptedPulse p) = _
  rw [State.acceptedPulse, motion, gate]
  rfl

theorem State.reportWatch_of_unreached {s : State} {p : Projector} {b : Bool} (h : b = true → s.role p ≠ .onScreen) :
    s.reportWatch p b = s := by
  cases b with
  | false => rfl
  | true => exact if_pos (h rfl)

theorem State.role_pulsed : (s.pulsed p).role q = s.role q := by
  rw [State.role, (s.touches_pulsed p).2.2.2.1 (by simp)]; rfl
theorem State.lamp_pulsed : (s.pulsed p).lamp q = s.lamp q := by
  rw [State.lamp, (s.touches_pulsed p).2.2.1 (by simp)]; rfl
theorem State.station_pulsed : (s.pulsed p).station q = s.station q := by
  rw [State.station, (s.touches_pulsed p).2.1 (by simp)]; rfl

/-- A pulse that ends no reel and reaches no watch of a projector on screen reports its speed alone. -/
theorem exec_sprocketPulse_plain {s : State} {p : Projector} (opened : (s.motion p).gate = .opened)
    (more : (s.motion p).framesRemaining ≠ 1)
    (unreached : ∀ w, (s.motion p).watch = some w → s.role p = .onScreen →
      (s.motion p).framesRemaining = 0 ∨ w < (s.motion p).framesRemaining - 1) :
    exec (.sprocketPulse p) s = .next ((s.pulsed p).reportSpeed p (s.motion p).newSpeed) := by
  have quiet : ((s.motion p).framesRemaining ≠ 0 && (s.motion p).reachesWatch) = true → (s.pulsed p).role p ≠ .onScreen := by
    intro reached shown
    rw [s.role_pulsed] at shown
    cases watch : (s.motion p).watch with
    | none => simp [Motion.reachesWatch, watch] at reached
    | some w =>
      have := unreached w watch shown
      simp [Motion.reachesWatch, watch] at reached
      omega
  rw [exec_sprocketPulse_of_opened opened, State.reportWatch_of_unreached quiet]
  simp [State.reportZero, more]

theorem State.motion_plainPulse (v : Option Speed) : ((s.pulsed p).reportSpeed p v).motion q =
    if p = q then { (s.motion q).pulsed with
      cause := if (s.motion q).losesSpeed then .offSpeed else (s.motion q).cause } else s.motion q := by
  rw [State.motion_reportSpeed, State.motion_pulsed]

theorem State.onSpeed_runningUp : s.onSpeed p .runningUp = s := by
  unfold State.onSpeed
  split <;> simp_all

end

/-- A period is judged by the third pulse and later ones; the first two start the timing. -/
theorem Motion.newSpeed_of_not_judging {m : Motion} (h : m.phase ≠ .judging) :
    m.losesSpeed = false ∧ (m.newSpeed = none ∨ m.newSpeed = some .runningUp) := by
  cases phase : m.phase with
  | judging => exact absurd phase h
  | discarding =>
    have speed := (m.pulsed_of_discarding phase).2.2.2
    simp [Motion.losesSpeed, Motion.newSpeed, speed]
  | awaiting =>
    have speed := (m.pulsed_of_awaiting phase).2.2.2
    by_cases stopped : m.speed = .stopped <;> simp [Motion.losesSpeed, Motion.newSpeed, speed, stopped]

/-- Settles O12: the pulse is the motion unit's own act and the report of its speed. -/
theorem pulseIsCountedAndTimed : Obligations.PulseIsCountedAndTimed := by
  intro p s opened more unreached
  have motion : ((s.pulsed p).reportSpeed p (s.motion p).newSpeed).motion p = { (s.motion p).pulsed with
      cause := if (s.motion p).losesSpeed then .offSpeed else (s.motion p).cause } := by
    rw [State.motion_plainPulse, if_pos rfl]
  obtain ⟨accepted, run, gate, frames, loaded, watch, -, count⟩ := (s.motion p).pulsed_keeps
  refine ⟨_, exec_sprocketPulse_plain opened more unreached, ?_⟩
  rw [motion]
  refine ⟨accepted, run, frames, loaded, gate.trans opened, watch, count, fun phase => ?_, fun phase => ?_, fun phase => ?_,
    fun q hq => ?_, ?_, fun phase => ?_⟩
  · exact (s.motion p).pulsed_of_awaiting phase
  · exact (s.motion p).pulsed_of_discarding phase
  · obtain ⟨-, -, -, -, -, -, judged, -, period, current, -⟩ :=
      (s.motion p).counted.judge_keeps (s.motion p).runningCount.value
    rw [← (s.motion p).pulsed_of_judging phase] at judged period current
    exact ⟨judged.trans phase, period, current⟩
  · rw [State.motion_plainPulse, if_neg hq.symm]
  · exact ((s.touches_pulsed p).mono (by simp)).trans ((State.touches_reportSpeed ..).mono (by simp))
  · obtain ⟨kept, none | up⟩ := Motion.newSpeed_of_not_judging phase
    · rw [none]; exact s.pulsed_of_kept p kept
    · rw [up, State.reportSpeed, State.onSpeed_runningUp]; exact s.pulsed_of_kept p kept

/-! ### Periods judged (R13, R14) -/

namespace Motion

variable {m : Motion} {d : Nat}

theorem inBand_iff : inBand d = true ↔ 409 ≤ d ∧ d ≤ 425 := by
  rw [inBand, Bool.and_eq_true, decide_eq_true_iff, decide_eq_true_iff]
  exact Iff.rfl

theorem judge_of_slow (slow : m.speed ≠ .atSpeed) (moving : m.speed ≠ .stopped) : m.judge d = m.judgeForSpeed d := by
  cases h : m.speed <;> simp_all [judge]

theorem judge_outOfBand (slow : m.speed ≠ .atSpeed) (moving : m.speed ≠ .stopped) (outside : ¬(409 ≤ d ∧ d ≤ 425)) :
    m.judge d = { m with inBandRun := 0 } := by
  rw [judge_of_slow slow moving, judgeForSpeed, if_pos (by simpa [inBand_iff, ← Bool.not_eq_true] using outside)]

theorem judge_inBand (slow : m.speed ≠ .atSpeed) (moving : m.speed ≠ .stopped) (inside : 409 ≤ d ∧ d ≤ 425)
    (more : m.inBandRun < 2) : m.judge d = { m with inBandRun := m.inBandRun + 1 } := by
  have small : m.inBandRun + 1 < Config.inBandRuns := Nat.succ_lt_succ more
  rw [judge_of_slow slow moving, judgeForSpeed, if_neg (by simp [inBand_iff.mpr inside]), if_pos small]

theorem judge_proved (slow : m.speed ≠ .atSpeed) (moving : m.speed ≠ .stopped) (inside : 409 ≤ d ∧ d ≤ 425)
    (third : 2 ≤ m.inBandRun) : m.judge d =
      { m with speed := .atSpeed, inBandRun := 0, outOfBandRun := 0, reachedSpeed := true, slowStart := none } := by
  have reached : ¬m.inBandRun + 1 < Config.inBandRuns := Nat.not_lt.mpr (Nat.succ_le_succ third)
  rw [judge_of_slow slow moving, judgeForSpeed, if_neg (by simp [inBand_iff.mpr inside]), if_neg reached]

theorem judge_atSpeed (fast : m.speed = .atSpeed) (inside : 409 ≤ d ∧ d ≤ 425) :
    m.judge d = { m with outOfBandRun := 0 } := by
  simp [judge, fast, judgeAtSpeed, inBand_iff.mpr inside]

theorem judge_slipping (fast : m.speed = .atSpeed) (outside : ¬(409 ≤ d ∧ d ≤ 425)) (first : m.outOfBandRun = 0) :
    m.judge d = { m with outOfBandRun := m.outOfBandRun + 1 } := by
  have small : m.outOfBandRun + 1 < Config.outOfBandRuns := by rw [first]; decide
  simp only [judge, fast, judgeAtSpeed]
  rw [if_neg (mt inBand_iff.mp outside), if_pos small]

theorem judge_lost (fast : m.speed = .atSpeed) (outside : ¬(409 ≤ d ∧ d ≤ 425)) (second : 1 ≤ m.outOfBandRun) :
    m.judge d = { m with speed := .offSpeed, inBandRun := 0, outOfBandRun := 0 } := by
  have reached : ¬m.outOfBandRun + 1 < Config.outOfBandRuns := Nat.not_lt.mpr (Nat.succ_le_succ second)
  simp only [judge, fast, judgeAtSpeed]
  rw [if_neg (mt inBand_iff.mp outside), if_neg reached]

end Motion

theorem State.role_plainPulse (p q : Projector) : ((s.pulsed p).reportSpeed p (s.motion p).newSpeed).role q =
    if p = q ∧ (s.motion p).pulsed.speed ≠ (s.motion p).speed then (s.role q).afterSpeed (s.motion p).pulsed.speed
    else s.role q := by
  by_cases same : (s.motion p).pulsed.speed = (s.motion p).speed
  · simp [Motion.newSpeed, same, State.reportSpeed, State.role_pulsed]
  · simp [Motion.newSpeed, same, State.reportSpeed, State.role_onSpeed, State.role_pulsed]

theorem State.station_plainPulse (p q : Projector) : ((s.pulsed p).reportSpeed p (s.motion p).newSpeed).station q =
    if p = q ∧ s.role p = .starting ∧ (s.motion p).pulsed.speed = .atSpeed ∧ (s.motion p).speed ≠ .atSpeed
        ∧ (s.lamp p).state = .burning ∧ s.lc.tripInForce = false then
      { s.station q with desired := { (s.station q).desired with douser := .opened } }
    else s.station q := by
  have trip : (s.pulsed p).lc.tripInForce = s.lc.tripInForce := by rw [(s.touches_pulsed p).2.1 (by simp)]
  by_cases same : (s.motion p).pulsed.speed = (s.motion p).speed
  · rw [if_neg (by rw [same]; tauto)]
    simp [Motion.newSpeed, same, State.reportSpeed, State.station_pulsed]
  · have fresh : (s.motion p).pulsed.speed = .atSpeed → (s.motion p).speed ≠ .atSpeed := fun h k => same (h.trans k.symm)
    simp only [Motion.newSpeed, same, if_false, State.reportSpeed, State.station_onSpeed, State.role_pulsed,
      State.station_becomeStandby, State.lamp_pulsed, State.station_pulsed, trip]
    by_cases moved : s.role p = .starting ∧ (s.motion p).pulsed.speed = .atSpeed
    · simp [moved, fresh moved.2]
    · rw [if_neg moved, if_neg (by tauto)]

/-- Settles O13: the record is the judged one, and the roles follow the change of speed. -/
theorem speedStatesFollowThePeriods : Obligations.SpeedStatesFollowThePeriods := by
  intro p s opened more unreached judging moving
  have judged := (s.motion p).pulsed_of_judging judging
  have motion : ((s.pulsed p).reportSpeed p (s.motion p).newSpeed).motion p = { (s.motion p).pulsed with
      cause := if (s.motion p).losesSpeed then .offSpeed else (s.motion p).cause } := by
    rw [State.motion_plainPulse, if_pos rfl]
  refine ⟨_, exec_sprocketPulse_plain opened more unreached, ?_, fun q hq => ?_⟩
  · dsimp only
    rw [motion, State.role_plainPulse]
    refine ⟨fun slow outside => ?_, fun slow inside run => ?_, fun slow inside run => ?_, fun fast inside => ?_,
      fun fast outside run => ?_, fun fast outside run => ?_, fun same => ?_⟩
    · rw [judged, Motion.judge_outOfBand (m := (s.motion p).counted) slow moving outside]
      exact ⟨rfl, rfl, rfl⟩
    · rw [judged, Motion.judge_inBand (m := (s.motion p).counted) slow moving inside run]
      exact ⟨rfl, rfl⟩
    · have proved := judged.trans (Motion.judge_proved (m := (s.motion p).counted) slow moving inside run)
      have speed : (s.motion p).pulsed.speed = .atSpeed := by rw [proved]
      refine ⟨speed, by rw [proved], by rw [proved], by rw [proved], by rw [proved], ?_, fun starting burning free => ?_⟩
      · rw [speed, if_pos ⟨rfl, Ne.symm slow⟩]
        cases s.role p <;> rfl
      · rw [State.station_plainPulse, if_pos ⟨rfl, starting, speed, slow, burning, free⟩]
    · rw [judged, Motion.judge_atSpeed (m := (s.motion p).counted) fast inside]
      exact ⟨rfl, fast⟩
    · rw [judged, Motion.judge_slipping (m := (s.motion p).counted) fast outside run]
      exact ⟨congrArg (· + 1) run, fast⟩
    · have lost := judged.trans (Motion.judge_lost (m := (s.motion p).counted) fast outside run)
      have speed : (s.motion p).pulsed.speed = .offSpeed := by rw [lost]
      have loses : (s.motion p).losesSpeed = true := by simp [Motion.losesSpeed, speed, fast]
      refine ⟨speed, by rw [lost], by rw [lost], if_pos loses, ?_, ?_⟩
      · rw [s.pulsed_eq, if_pos loses]
        refine State.noticed_projectorAttention ?_ (State.act_reportSpeed _ _ _)
        rfl
      · rw [speed, if_pos ⟨rfl, by rw [fast]; decide⟩]
        cases s.role p <;> rfl
    · have same : (s.motion p).pulsed.speed = (s.motion p).speed := same
      have kept : (s.motion p).losesSpeed = false := by simp [Motion.losesSpeed, same]
      rw [Motion.newSpeed, if_pos same]
      exact s.pulsed_of_kept p kept
  · rw [State.role_plainPulse, State.motion_plainPulse, State.station_plainPulse]
    exact ⟨if_neg fun h => hq h.1.symm, if_neg hq.symm, if_neg fun h => hq h.1.symm⟩

/-! ### The filter's three samples (R2, R3) -/

section

variable {s : State} {p : Projector} {level : Level}


/-- The level of a sprocket input taken, and its projector's record rewritten. -/
theorem State.sprocketAt_onMotion (f : Motion → Motion) :
    ((s.sprocketAt p level).onMotion p f).motion p = f (s.motion p)
      ∧ otherMotionsKept p s ((s.sprocketAt p level).onMotion p f)
      ∧ onlyTouches [.mu, .pins] s ((s.sprocketAt p level).onMotion p f) :=
  ⟨(State.motion_onMotion ..).trans (if_pos rfl), fun q hq => (State.motion_onMotion ..).trans (if_neg hq.symm),
    ⟨by simp, fun _ => rfl, fun _ => rfl, fun _ => rfl, fun _ => rfl, fun _ => rfl, fun _ => rfl, by simp, rfl⟩⟩

end

/-- Settles O14: the filter's three cases, an acceptance of HIGH being a pulse, and a pulse at a CLOSED gate. -/
theorem sprocketFilterTakesTheThirdSample : Obligations.SprocketFilterTakesTheThirdSample := by
  intro p level s
  refine ⟨fun same => ?_, fun other early => ?_, fun high low third => ?_, fun low high third => ?_, fun closed => ?_⟩
  · exact ⟨_, congrArg Host.Outcome.next ((s.sampleSprocket_eq p level).trans (if_pos same)),
      State.sprocketAt_onMotion _⟩
  · exact ⟨_, congrArg Host.Outcome.next ((s.sampleSprocket_eq p level).trans ((if_neg other).trans (if_pos early))),
      State.sprocketAt_onMotion _⟩
  · have accepted : s.sampleSprocket p level =
        (s.sprocketAt p level).onMotion p (fun m => { m with accepted := .low, sampleRun := 0 }) := by
      rw [State.sampleSprocket_eq, if_neg (by simp [high, low]), if_neg (by omega), if_neg (by simp [low])]
    exact ⟨_, congrArg Host.Outcome.next accepted, State.sprocketAt_onMotion _⟩
  · subst high
    refine congrArg Host.Outcome.next ?_
    rw [State.sampleSprocket_eq, if_neg (by simp [low]), if_neg (by omega), if_pos rfl]
  · have ignored : ((s.sprocketAt p .high).onMotion p Motion.acceptHigh).acceptedPulse p =
        (s.sprocketAt p .high).onMotion p Motion.acceptHigh := by
      have gate : (((s.sprocketAt p .high).onMotion p Motion.acceptHigh).motion p).gate = .closed := by
        rw [(State.sprocketAt_onMotion _).1]; exact closed
      rw [State.acceptedPulse, gate]
    exact ⟨_, congrArg Host.Outcome.next ignored, State.sprocketAt_onMotion _⟩

end Sys2Proof.Machine
end

section
/-! PROOF. The run-out of a reel, acted on by the projector's role (spec/05 R94, spec/06 R120). -/

namespace Sys2Proof.Machine

variable (s : State) (p : Projector)

/-- A reel is DONE, and its projector IDLE. -/
theorem State.reelDone_eq (old : ReelState) : s.reelDone p old =
    (s.onScreen (screenOf p) (fun r => { r with reels := s.movedReels p old .done })).setRole p .idle := by
  rw [State.reelDone, State.moveReel_eq]

theorem State.reel_reelDone {old : ReelState} {r : ReelIx} (h : s.reelOf p old = some r) :
    (s.reelDone p old).reel (screenOf p) r = (s.reel (screenOf p) r).withState .done := by
  rw [State.reelDone_eq]
  simp only [State.reel, State.setRole_screen, State.screen_onScreen, if_true]
  exact State.movedReels_get s h

@[simp] theorem State.role_reelDone (q : Projector) (old : ReelState) :
    (s.reelDone p old).role q = if p = q then .idle else s.role q := by
  simp [State.reelDone_eq]

/-! ### Each role's act -/

/-- The run-out of a TAIL as updates of records. -/
theorem State.onCounterZero_of_tail (tail : s.role p = .tail) : s.onCounterZero p =
    (((s.reelDone p .running).onDesired p (fun d => { d with motor := .stop })).onMotion p
      (fun m => if (s.station p).desired.motor = .stop then m else m.closeGate)).examine (screenOf p) := by
  rw [State.onCounterZero, tail]
  dsimp only
  rw [State.stopMotor_of_idle _ (by simp)]
  rw [State.reelDone_eq]
  rfl

/-- The run-out of a projector that never reached the screen, as updates of records. -/
theorem State.onCounterZero_of_readying (readying : (s.role p).readying) : s.onCounterZero p =
    (((((s.reelDone p .loaded).onDesired p (fun d => { d with motor := .stop })).onMotion p
      (fun m => if (s.station p).desired.motor = .stop then m else m.closeGate)).onDesired p
        (fun d => { d with douser := .closed })).projectorAttention p .runOutUnseen).examine (screenOf p) := by
  have unseen : s.onCounterZero p = s.runOutUnseen p := by
    rcases readying with h | h | h <;> rw [State.onCounterZero, h]
  rw [unseen, State.runOutUnseen, State.stopMotor_of_idle _ (by simp), State.reelDone_eq]
  rfl

/-- The state of an ON_SCREEN projector's run-out before its lamp is put out. -/
def State.ranDark (s : State) (p : Projector) : State :=
  (((((s.reelDone p .running).onScreen (screenOf p) (ScreenRecord.runDark p)).onDesired p
    (fun d => { d with douser := .closed })).onDesired p (fun d => { d with blade := .closed })).onDesired p
      (fun d => { d with motor := .stop })).onMotion p
        (fun m => if (s.station p).desired.motor = .stop then m else m.closeGate)

theorem State.onCounterZero_of_onScreen (shown : s.role p = .onScreen) : s.onCounterZero p =
    (((s.ranDark p).extinguish p).raise (noticeScreenDark (screenOf p))).examine (screenOf p) := by
  rw [State.onCounterZero, shown]
  dsimp only
  rw [State.runOutOnScreen, State.stopMotor_of_idle]
  · simp [State.closeDouser_eq, State.closeBlade_eq, State.ranDark, State.reelDone_eq]
  · simp [State.closeDouser_eq, State.closeBlade_eq]

/-! ### What every run-out leaves (R94) -/

theorem State.onCounterZero_of_idle (idle : s.role p = .idle) : s.onCounterZero p = s := by
  rw [State.onCounterZero, idle]

/-- The four ways a run-out is acted on. -/
theorem Role.runOut_cases (r : Role) : r = .idle ∨ r = .tail ∨ r = .onScreen ∨ r.readying := by
  cases r <;> simp [Role.readying]

/-- Out of `s` and into `t`, with projector `p` IDLE and its counter as it was, the other projectors are left alone. -/
def State.othersKept (s : State) (p : Projector) (t : State) : Prop :=
  t.role p = .idle ∧ (t.motion p).framesRemaining = (s.motion p).framesRemaining
    ∧ (∀ q, q ≠ p → t.role q = s.role q ∧ t.motion q = s.motion q ∧ t.station q = s.station q ∧ t.lamp q = s.lamp q)
    ∧ t.hu = s.hu ∧ t.fu = s.fu

theorem Motion.framesRemaining_stopped (m : Motion) (v : MotorCommand) :
    (if v = .stop then m else m.closeGate).framesRemaining = m.framesRemaining := by
  split <;> rfl

theorem State.othersKept_extinguish {t : State} (h : s.othersKept p t) : s.othersKept p (t.extinguish p) := by
  obtain ⟨idle, frames, others, hu, fu⟩ := h
  by_cases cold : (t.lamp p).state = .cold
  · rw [State.extinguish_of_cold _ cold]
    exact ⟨idle, frames, others, hu, fu⟩
  · rw [State.extinguish_of_lit _ cold]
    refine ⟨?_, ?_, fun q hq => ?_, ?_, ?_⟩
    · simpa [State.lampAttention] using idle
    · simpa [State.lampAttention] using frames
    · simpa [State.lampAttention, hq.symm] using others q hq
    · simpa [State.lampAttention] using hu
    · simpa [State.lampAttention] using fu

theorem State.othersKept_ranDark : s.othersKept p (s.ranDark p) := by
  refine ⟨?_, ?_, fun q hq => ?_, ?_, ?_⟩
  · simp [State.ranDark]
  · simp [State.ranDark, State.reelDone_eq, Motion.framesRemaining_stopped]
  · simp [State.ranDark, State.reelDone_eq, hq.symm]
  · simp [State.ranDark, State.reelDone_eq]
  · simp [State.ranDark, State.reelDone_eq]

theorem State.othersKept_onCounterZero : s.othersKept p (s.onCounterZero p) := by
  obtain idle | tail | shown | readying := (s.role p).runOut_cases
  · rw [State.onCounterZero_of_idle _ _ idle]
    exact ⟨idle, rfl, fun _ _ => ⟨rfl, rfl, rfl, rfl⟩, rfl, rfl⟩
  · rw [State.onCounterZero_of_tail _ _ tail]
    refine ⟨?_, ?_, fun q hq => ?_, ?_, ?_⟩
    · simp
    · simp [State.reelDone_eq, Motion.framesRemaining_stopped]
    · simp [State.reelDone_eq, hq.symm]
    · simp [State.reelDone_eq]
    · simp [State.reelDone_eq]
  · rw [State.onCounterZero_of_onScreen _ _ shown]
    obtain ⟨idle, frames, others, hu, fu⟩ := s.othersKept_extinguish p (s.othersKept_ranDark p)
    refine ⟨?_, ?_, fun q hq => ?_, ?_, ?_⟩
    · simpa using idle
    · simpa using frames
    · simpa using others q hq
    · simpa using hu
    · simpa using fu
  · rw [State.onCounterZero_of_readying _ _ readying]
    refine ⟨?_, ?_, fun q hq => ?_, ?_, ?_⟩
    · simp [State.projectorAttention]
    · simp [State.projectorAttention, State.reelDone_eq, Motion.framesRemaining_stopped]
    · simp [State.projectorAttention, State.reelDone_eq, hq.symm]
    · simp [State.projectorAttention, State.reelDone_eq]
    · simp [State.projectorAttention, State.reelDone_eq]

/-! ### The pulse that ends the reel (R6, R10, R94) -/

section

variable {s : State} {p : Projector}

/-- A watch reached is acted on for a projector on screen whose next cue waits for the film. -/
theorem State.onWatchReached_of_unwatched (h : s.role p ≠ .onScreen
    ∨ ∀ x, (s.screen (screenOf p)).next = some x → (s.cue x).trigger.ofFilm = false) : s.onWatchReached p = s := by
  unfold State.onWatchReached State.nextCue
  split
  · rfl
  · rename_i shown
    have unfilmed := h.resolve_left (not_not.mpr (not_not.mp shown))
    dsimp only
    by_cases performing : (s.screen (screenOf p)).state.performing = true
    · rw [if_pos performing]
      cases next : (s.screen (screenOf p)).next with
      | none => rfl
      | some x =>
        have free := unfilmed x next
        dsimp only
        cases trigger : (s.cue x).trigger <;> simp_all [Trigger.ofFilm]
    · rw [if_neg performing]

/-- A pulse that ends the reel, with no cue taken by its watch first, is the motion unit's act and the run-out's. -/
theorem exec_sprocketPulse_runOut (opened : (s.motion p).gate = .opened) (last : (s.motion p).framesRemaining = 1)
    (unwatched : (s.motion p).watch = none ∨ s.role p ≠ .onScreen
      ∨ ∀ x, (s.screen (screenOf p)).next = some x → (s.cue x).trigger.ofFilm = false) :
    exec (.sprocketPulse p) s = .next ((s.pulsed p).onCounterZero p) := by
  have su : (s.pulsed p).su = s.su := (s.touches_pulsed p).2.2.2.1 (by simp)
  have watch : ∀ b, (b = true → (s.motion p).watch ≠ none) → (s.pulsed p).reportWatch p b = s.pulsed p := by
    intro b reached
    cases b with
    | false => rfl
    | true =>
      refine State.onWatchReached_of_unwatched ?_
      simp only [State.role, State.screen, State.cue, su]
      exact unwatched.resolve_left (reached rfl)
  have idle : ((s.pulsed p).onCounterZero p).role p = .idle := ((s.pulsed p).othersKept_onCounterZero p).1
  rw [exec_sprocketPulse_of_opened opened, watch _ fun reached none => by simp [Motion.reachesWatch, none] at reached]
  simp only [State.reportZero, last, decide_true, if_true]
  cases (s.motion p).newSpeed with
  | none => rfl
  | some v => exact congrArg Host.Outcome.next (State.onSpeed_of_role _ p v (by simp [idle]) (by simp [idle]))

/-! ### The acts of the roles read off (R94, R120) -/

/-- A lamp put out, and what the stations and screens show of it. -/
theorem State.extinguish_reads (t : State) (p : Projector) :
    ((t.extinguish p).lamp p).state = .cold
      ∧ ((t.lamp p).state ≠ .cold →
          ((t.extinguish p).lamp p).feedRate = 0 ∧ ((t.extinguish p).station p).desired.arc = .off)
      ∧ ((t.extinguish p).station p).desired.motor = (t.station p).desired.motor
      ∧ ((t.extinguish p).station p).desired.douser = (t.station p).desired.douser
      ∧ ((t.extinguish p).station p).desired.blade = (t.station p).desired.blade
      ∧ (∀ c r, (t.extinguish p).reel c r = t.reel c r) ∧ (∀ c, ((t.extinguish p).screen c).state = (t.screen c).state)
      ∧ (∀ c, ((t.extinguish p).screen c).changeover.outgoing = (t.screen c).changeover.outgoing)
      ∧ (∀ c, ((t.extinguish p).screen c).changeover.late = (t.screen c).changeover.late) := by
  by_cases cold : (t.lamp p).state = .cold
  · simp [State.extinguish_of_cold _ cold, cold]
  · simp [State.extinguish_of_lit _ cold, State.lampAttention, Lamp.putOut, Lamp.setFeed, State.reel]

theorem State.runOut_onScreen (shown : s.role p = .onScreen) :
    ((s.onCounterZero p).station p).desired.motor = .stop
      ∧ ((s.onCounterZero p).station p).desired.douser = .closed
      ∧ ((s.onCounterZero p).station p).desired.blade = .closed ∧ ((s.onCounterZero p).lamp p).state = .cold
      ∧ ((s.lamp p).state ≠ .cold →
          ((s.onCounterZero p).lamp p).feedRate = 0 ∧ ((s.onCounterZero p).station p).desired.arc = .off)
      ∧ (∀ r, s.reelOf p .running = some r →
          (s.onCounterZero p).reel (screenOf p) r = (s.reel (screenOf p) r).withState .done)
      ∧ ((s.onCounterZero p).screen (screenOf p)).state =
          (if (s.screen (screenOf p)).state = .running ∨ (s.screen (screenOf p)).state = .waiting then .dark
            else (s.screen (screenOf p)).state)
      ∧ ((s.screen (screenOf p)).changeover.state.examined = true →
          (s.screen (screenOf p)).changeover.outgoing = some p →
          ((s.onCounterZero p).screen (screenOf p)).changeover.outgoing = none
            ∧ ((s.onCounterZero p).screen (screenOf p)).changeover.late = true) := by
  obtain ⟨cold, feed, motor, douser, blade, reel, state, outgoing, late⟩ := (s.ranDark p).extinguish_reads p
  have lamp : (s.ranDark p).lamp p = s.lamp p := by simp [State.ranDark, State.reelDone_eq]
  rw [lamp] at feed
  rw [State.onCounterZero_of_onScreen _ _ shown]
  refine ⟨?_, ?_, ?_, ?_, fun lit => ?_, fun r found => ?_, ?_, fun examined mine => ?_⟩
  · rw [State.examine_station, State.raise_station, motor]; simp [State.ranDark]
  · rw [State.examine_station, State.raise_station, douser]; simp [State.ranDark]
  · rw [State.examine_station, State.raise_station, blade]; simp [State.ranDark]
  · simpa using cold
  · simpa using feed lit
  · have done := s.reel_reelDone p found
    rw [State.examine_reel]
    refine (reel ..).trans ?_
    simpa [State.ranDark, State.reel, ScreenRecord.runDark] using done
  · rw [State.examine_state, State.raise_screen, state]
    simp [State.ranDark, ScreenRecord.runDark, State.reelDone_eq]
  · rw [State.examine_outgoing, State.examine_late, State.raise_screen, outgoing, late]
    simp [State.ranDark, ScreenRecord.runDark, State.reelDone_eq, Changeover.runOut, examined, mine]

end

theorem State.routes_pulsed : (s.pulsed p).pu.routes = s.pu.routes := by
  rw [State.pulsed_eq]
  split <;> rfl

theorem noticed.before {k : Notice} {s t u : State} (h : noticed k t u) (routes : t.pu.routes = s.pu.routes) :
    noticed k s u := fun n routed => h n (by rw [State.route, routes]; exact routed)

theorem State.noticed_runOut_onScreen (shown : s.role p = .onScreen) :
    noticed (noticeScreenDark (screenOf p)) s (s.onCounterZero p) := by
  have dark : (s.ranDark p).pu.routes = s.pu.routes := by simp [State.ranDark, State.reelDone_eq]
  rw [State.onCounterZero_of_onScreen _ _ shown]
  exact noticed_of_raise ((State.act_extinguish _ p).routes.trans dark) (State.act_examine _ _)

theorem State.noticed_runOut_unseen (readying : (s.role p).readying) :
    noticed (noticeProjectorAttention p) s (s.onCounterZero p) := by
  rw [State.onCounterZero_of_readying _ _ readying]
  refine State.noticed_projectorAttention ?_ (State.act_examine _ _)
  simp [State.reelDone_eq]

/-- Settles O15: the pulse is the motion unit's act and the show unit's on COUNTER_ZERO, by the role. -/
theorem runOutIsActedOnByRole : Obligations.RunOutIsActedOnByRole := by
  intro p s opened last unwatched
  have touched := s.touches_pulsed p
  have lc : (s.pulsed p).lc = s.lc := touched.2.1 (by simp)
  have lu : (s.pulsed p).lu = s.lu := touched.2.2.1 (by simp)
  have su : (s.pulsed p).su = s.su := touched.2.2.2.1 (by simp)
  have hu : (s.pulsed p).hu = s.hu := touched.2.2.2.2.1 (by simp)
  have fu : (s.pulsed p).fu = s.fu := touched.2.2.2.2.2.1 (by simp)
  have role : ∀ q, (s.pulsed p).role q = s.role q := fun q => s.role_pulsed p q
  have screen : ∀ c, (s.pulsed p).screen c = s.screen c := fun c => by simp [State.screen, su]
  have reelOf : ∀ st, (s.pulsed p).reelOf p st = s.reelOf p st := fun st => by simp [State.reelOf, State.reel, screen]
  obtain ⟨idle, frames, others, hu', fu'⟩ := (s.pulsed p).othersKept_onCounterZero p
  refine ⟨_, exec_sprocketPulse_runOut opened last unwatched, idle, ?_, fun past => ?_, fun shown => ?_, fun tail => ?_,
    fun readying => ?_, fun at_rest => ?_, fun q hq => ?_, hu'.trans hu, fu'.trans fu⟩
  · rw [frames, State.motion_pulsed, if_pos rfl]
    exact (s.motion p).pulsed_keeps.2.2.2.1.trans (by rw [last])
  · rw [← role] at past
    obtain rest | tail | shown | readying := ((s.pulsed p).role p).runOut_cases
    · exact absurd rest past
    · simp [State.onCounterZero_of_tail _ _ tail]
    · exact (State.runOut_onScreen shown).1
    · simp [State.onCounterZero_of_readying _ _ readying, State.projectorAttention]
  · rw [← role] at shown
    obtain ⟨-, douser, blade, cold, feed, done, state, late⟩ := State.runOut_onScreen shown
    simp only [State.lamp, lu, screen, State.reel, reelOf] at feed done state late
    refine ⟨douser, blade, cold, feed, done, state, ?_, fun examined mine => late ?_ mine⟩
    · exact (State.noticed_runOut_onScreen _ p shown).before (s.routes_pulsed p)
    · rcases examined with h | h <;> rw [h] <;> rfl
  · rw [← role] at tail
    rw [State.onCounterZero_of_tail _ _ tail]
    refine ⟨fun r found => ?_, ?_, ?_⟩
    · have done := (s.pulsed p).reel_reelDone p ((reelOf _).trans found)
      simpa [State.reel, screen] using done
    · simp [State.reelDone_eq, lu]
    · simp [State.reelDone_eq, screen]
  · have ready : ((s.pulsed p).role p).readying := by rw [role]; exact readying
    rw [State.onCounterZero_of_readying _ _ ready]
    refine ⟨?_, fun r found => ?_, ?_, ?_, ?_⟩
    · simp [State.projectorAttention]
    · have done := (s.pulsed p).reel_reelDone p ((reelOf _).trans found)
      simpa [State.reel, screen, State.projectorAttention] using done
    · simp
    · rw [← State.onCounterZero_of_readying _ _ ready]
      exact (State.noticed_runOut_unseen _ p ready).before (s.routes_pulsed p)
    · simp [State.reelDone_eq, State.projectorAttention, lu]
  · rw [← role] at at_rest
    rw [State.onCounterZero_of_idle _ _ at_rest]
    exact touched.mono (by simp)
  · obtain ⟨r, m, st, l⟩ := others q hq
    rw [r, m, st, l, role, s.station_pulsed, s.lamp_pulsed, State.motion_pulsed, if_neg hq.symm]
    exact ⟨rfl, rfl, rfl, rfl⟩

end Sys2Proof.Machine
end

section
/-! PROOF. Lamps struck, put out and faulted, and the steps of their feed (spec/03 R45 to R60). -/

namespace Sys2Proof.Machine

/-! ### A lamp's change of state with its request for the arc and its notice (R44) -/

/-- The arc of lamp `p` asked for, the lamp's new record handed on, and its notice raised. -/
def State.lampMoved (s : State) (p : Projector) (arc : Switch) (l : Lamp) (c : LampCause) : State :=
  ((s.onDesired p (fun d => { d with arc := arc })).handLamp p l).lampAttention p c

/-- What a lamp's change of state writes, where the lamp does not become BURNING. -/
structure State.MovesLamp (s : State) (p : Projector) (arc : Switch) (l : Lamp) (t : State) : Prop where
  lamp : t.lamp p = l
  station : t.station p = { s.station p with desired := { (s.station p).desired with arc := arc } }
  noticed : noticed (noticeLampAttention p) s t
  answers : t.pu.answers = s.pu.answers
  passed : t.pu.passed = s.pu.passed
  lamps : otherLampsKept p s t
  stations : ∀ q, q ≠ p → t.station q = s.station q
  roles : t.su.roles = s.su.roles
  touched : onlyTouches [.lc, .lu, .su, .pu] s t

theorem State.movesLamp_lampMoved (s : State) (p : Projector) (arc : Switch) {l : Lamp} (c : LampCause)
    (dark : l.state ≠ .burning) : s.MovesLamp p arc { l with cause := c } (s.lampMoved p arc l c) := by
  unfold State.lampMoved
  rw [State.handLamp_of_not_burning _ _ dark]
  exact {
    lamp := by simp
    station := by simp [State.lampAttention]
    noticed := noticed_of_raise (by simp) (State.Act.refl _)
    answers := by simp [State.lampAttention]
    passed := by simp [State.lampAttention]
    lamps := ⟨fun q hq => by simp [hq.symm], by simp [State.lampAttention]⟩
    stations := fun q hq => by simp [State.lampAttention, hq.symm]
    roles := by simp [State.lampAttention]
    touched := by simp [onlyTouches, State.lampAttention] }

/-! ### LAMP_STRIKE and LAMP_OFF (R45, R50) -/

section

variable {s t : State} {n : Port} {p : Projector} {st : Status}

theorem exec_lampStrike (ruling : s.strike p = (st, t)) :
    exec (.lampStrike n (numberOf p)) s = .next (t.answer n (.lampStrike n (numberOf p)) st []) := by
  unfold exec; dsimp only
  exact console_free rfl (oneTo_numberOf p) (by rw [onNumber_numberOf, lampStrikeRule, ruling])

theorem exec_lampOff (ruling : lampOffRule s p = ⟨st, [], t⟩) :
    exec (.lampOff n (numberOf p)) s = .next (t.answer n (.lampOff n (numberOf p)) st []) := by
  unfold exec; dsimp only
  exact console_free rfl (oneTo_numberOf p) (by rw [onNumber_numberOf, ruling])

theorem State.strike_of_trip (trip : s.lu.tripInForce = true) : s.strike p = (.trip, s) := by
  simp [State.strike, State.strikeRuling, trip]

theorem State.strike_of_unfit (free : s.lu.tripInForce = false)
    (unfit : (s.lamp p).state = .striking ∨ (s.lamp p).state = .burning ∨ (s.lamp p).carbon = 0
      ∨ (s.station p).presence ≠ .present) : s.strike p = (.state, s) := by
  have ruling : s.strikeRuling p = .state := by
    unfold State.strikeRuling
    rw [if_neg (by simp [free])]
    split_ifs with lit carbon absent
    · rfl
    · rfl
    · rfl
    · simp at lit
      tauto
  simp [State.strike, ruling]

/-- A strike that its lamp and station allow is the line controller's to take or refuse. -/
theorem State.strike_of_fit (free : s.lu.tripInForce = false) (unlit : (s.lamp p).state ≠ .striking)
    (dark : (s.lamp p).state ≠ .burning) (carbon : (s.lamp p).carbon ≠ 0)
    (present : (s.station p).presence = .present) : s.strike p =
      if s.lc.tripInForce then (.trip, s) else (.ok, s.lampMoved p .on (s.lamp p).strike .strikeStarted) := by
  have ruling : s.strikeRuling p = .ok := by simp [State.strikeRuling, free, unlit, dark, carbon, present]
  rw [State.strike, ruling]
  dsimp only
  rw [State.askArc_eq]
  by_cases trip : s.lc.tripInForce = true
  · simp [trip]
  · rw [if_neg (by tauto), if_neg trip]
    rfl

end

/-- Settles O26: LAMP_STRIKE by its ruling, LAMP_OFF by the lamp's state. -/
theorem lampsAreStruckAndPutOut : Obligations.LampsAreStruckAndPutOut := by
  refine ⟨fun n p s => ⟨fun trip => ?_, fun free unfit => ?_, fun free unlit dark carbon present => ⟨fun trip => ?_,
    fun clear => ?_⟩⟩, fun n p s => ⟨fun shown => ?_, fun unshown cold => ?_, fun unshown lit => ?_⟩⟩
  · exact exec_lampStrike (State.strike_of_trip trip)
  · exact exec_lampStrike (State.strike_of_unfit free unfit)
  · exact exec_lampStrike ((State.strike_of_fit free unlit dark carbon present).trans (if_pos trip))
  · have struck := (State.strike_of_fit free unlit dark carbon present).trans (if_neg (by simp [clear]))
    have moved := s.movesLamp_lampMoved p .on (l := (s.lamp p).strike) .strikeStarted (by simp [Lamp.strike])
    exact ⟨_, exec_lampStrike struck, moved.lamp, moved.station, moved.noticed.answer _ _ _ _, answers_answer moved.passed
      moved.answers .., moved.lamps, moved.stations, moved.roles, moved.touched.answer (by simp) (by simp) ..⟩
  · exact exec_lampOff (if_pos shown)
  · exact exec_lampOff ((if_neg unshown).trans (by rw [State.extinguish_of_cold _ cold]))
  · have off : lampOffRule s p = ⟨.ok, [], s.lampMoved p .off (s.lamp p).putOut .off⟩ :=
      (if_neg unshown).trans (by rw [State.extinguish, if_neg lit]; rfl)
    have moved := s.movesLamp_lampMoved p .off .off (s.lamp p).putOut_not_burning
    exact ⟨_, exec_lampOff off, moved.lamp, moved.station, moved.noticed.answer _ _ _ _, answers_answer moved.passed
      moved.answers .., moved.lamps, moved.stations, moved.roles, moved.touched.answer (by simp) (by simp) ..⟩

/-! ### The notices of a feed step (R57, R58) -/

section

variable {s : State} {p : Projector}

theorem State.noticed_lampAttention {s t u : State} {p : Projector} {c : LampCause}
    (routes : t.pu.routes = s.pu.routes) (a : (t.lampAttention p c).Act u) : noticed (noticeLampAttention p) s u := by
  refine noticed_of_raise ?_ a
  exact routes

theorem State.noticed_feedStep {x : FeedTimer} (running : (s.lamp p).feedTimer = some x)
    (reason : ((s.lamp p).carbon - 1 ≤ (s.lamp p).trim ∧ (s.lamp p).trimNoticed = false) ∨ (s.lamp p).carbon = 1) :
    noticed (noticeLampAttention p) s (s.feedStep p) := by
  rw [State.feedStep_of_running _ running]
  by_cases last : (s.lamp p).carbon = 1
  · rw [State.exhaustIf, if_pos (by simpa using last)]
    refine State.noticed_lampAttention ?_ (State.Act.refl _)
    exact (State.act_trimTest _ p).routes
  · have trims := reason.resolve_right last
    rw [State.exhaustIf, if_neg (by simpa using last), State.trimTest, if_pos (by simpa [Lamp.stepFeed] using trims)]
    refine State.noticed_lampAttention ?_ (State.Act.refl _)
    rfl

theorem State.pu_feedStep_of_quiet {x : FeedTimer} (running : (s.lamp p).feedTimer = some x)
    (quiet : ¬((s.lamp p).carbon - 1 ≤ (s.lamp p).trim ∧ (s.lamp p).trimNoticed = false)) (more : (s.lamp p).carbon ≠ 1) :
    (s.feedStep p).pu = s.pu := by
  rw [State.feedStep_of_running _ running, State.exhaustIf, if_neg (by simpa using more), State.trimTest,
    if_neg (by simpa [Lamp.stepFeed] using quiet)]
  rfl

end

/-- Settles O27: each timer's command reads its timer, and the feed step is written out by `Lamp.afterFeed`. -/
theorem lampTimersAndFeedSteps : Obligations.LampTimersAndFeedSteps := by
  refine ⟨fun p s => ⟨fun x running => ?_, fun stopped => ?_, fun x running => ?_, fun stopped => ?_⟩, fun p s =>
    ⟨fun stopped => ?_, fun x running => ?_⟩⟩
  · have out : exec (.strikeTimeout p) s = .next (s.strikeFailed p) := congrArg Host.Outcome.next (if_pos (by simp [running]))
    obtain ⟨lamp, station, noticed, -, -, lamps, stations, roles, touched⟩ := s.movesLamp_lampMoved p .off
      (l := { s.lamp p with state := .fault, fault := .strikeFailed, strikeCount := 0, strikeTimer := none })
      .strikeFailed (by simp)
    exact ⟨_, out, lamp, station, noticed, lamps, stations, roles, touched⟩
  · exact congrArg Host.Outcome.next (if_neg (by simp [stopped]))
  · have out : exec (.holdTimeout p) s = .next (s.holdEnded p) := congrArg Host.Outcome.next (if_pos (by simp [running]))
    obtain ⟨lamp, station, noticed, -, -, lamps, stations, roles, touched⟩ := s.movesLamp_lampMoved p .off
      (l := { (s.lamp p).setFeed 0 with state := .fault, fault := .stationLost, outCount := 0, holdTimer := none })
      .stationLost (by simp)
    exact ⟨_, out, lamp, station, noticed, lamps, stations, roles, touched⟩
  · exact congrArg Host.Outcome.next (if_neg (by simp [stopped]))
  · exact congrArg Host.Outcome.next (State.feedStep_of_stopped s stopped)
  · exact ⟨_, rfl, ⟨State.lamp_feedStep s running, State.noticed_feedStep running, State.pu_feedStep_of_quiet running⟩,
      s.feedStep_keeps p⟩

end Sys2Proof.Machine
end

section
/-! PROOF. What the acts of the show unit, the lamp unit and the motion unit leave of the line record and of the mark
counts: everything but the desired states and the burst queue (spec/02 R24 to R39). -/

namespace Sys2Proof.Machine

/-- The line record without the stations' desired states and the burst queue, which requests of other blocks write. -/
def LineControl.own (l : LineControl) : LineControl :=
  { l with burstQueue := [], stations := updAll l.stations (fun r => { r with desired := .safe }) }

section

variable {l m : LineControl}

theorem LineControl.own_station (h : l.own = m.own) (p : Projector) :
    l.stations[p] = { m.stations[p] with desired := l.stations[p].desired } := by
  have station : (updAll l.stations (fun r => { r with desired := .safe }))[p] =
      (updAll m.stations (fun r => { r with desired := .safe }))[p] :=
    congrArg (fun x : LineControl => x.stations[p]) h
  rw [updAll_get, updAll_get] at station
  cases e : l.stations[p]
  simp_all

theorem LineControl.own_fields (h : l.own = m.own) :
    l = { m with stations := l.stations, burstQueue := l.burstQueue } := by
  cases l; cases m
  simp only [LineControl.own, LineControl.mk.injEq] at h ⊢
  tauto

end

section

variable (s : State)

@[simp] theorem State.own_onDesired (p : Projector) (f : Desired → Desired) : (s.onDesired p f).lc.own = s.lc.own := by
  have stations : updAll (s.onDesired p f).lc.stations (fun r => { r with desired := .safe }) =
      updAll s.lc.stations (fun r => { r with desired := .safe }) := table_ext fun q => by
    rw [updAll_get, updAll_get]
    have read := s.station_onDesired p q f
    simp only [State.station] at read
    rw [read]
    by_cases h : p = q
    · subst h; rw [if_pos rfl]
    · rw [if_neg h]
  exact congrArg (fun x => { s.lc with burstQueue := [], stations := x }) stations

@[simp] theorem State.own_setQueue (q : List Burst) : (s.setQueue q).lc.own = s.lc.own := rfl

@[simp] theorem State.own_examine (c : Screen) : (s.examine c).lc.own = s.lc.own := by
  rw [(s.examines_examine c).lc]; rfl

end

/-- From `s` to `t` the line record is kept but for desired states and the burst queue, and the mark counts are kept. -/
structure State.KeepsLine (s t : State) : Prop where
  own : t.lc.own = s.lc.own
  marks : t.su.marks = s.su.marks

namespace State.KeepsLine

variable {s t u : State}

theorem refl (s : State) : s.KeepsLine s := ⟨rfl, rfl⟩

theorem trans (a : s.KeepsLine t) (b : t.KeepsLine u) : s.KeepsLine u := ⟨b.own.trans a.own, b.marks.trans a.marks⟩

theorem andThen (a : s.KeepsLine t) {f : State → State} (h : ∀ u : State, u.KeepsLine (f u)) : s.KeepsLine (f t) :=
  a.trans (h t)

/-- What neither the line controller's record nor the mark counts take part in. -/
theorem of_eq (lc : t.lc = s.lc) (marks : t.su.marks = s.su.marks) : s.KeepsLine t := ⟨by rw [lc], marks⟩

theorem ite {c : Prop} [Decidable c] (h : c → s.KeepsLine t) (k : ¬c → s.KeepsLine u) :
    s.KeepsLine (if c then t else u) := by
  split
  · exact h ‹_›
  · exact k ‹_›

end State.KeepsLine

/-! ### Requests and roles -/

section

variable (s : State)

theorem State.line_onDesired (p : Projector) (f : Desired → Desired) : s.KeepsLine (s.onDesired p f) :=
  ⟨s.own_onDesired p f, rfl⟩
theorem State.line_onMotion (p : Projector) (f : Motion → Motion) : s.KeepsLine (s.onMotion p f) := ⟨rfl, rfl⟩
theorem State.line_onLamp (p : Projector) (f : Lamp → Lamp) : s.KeepsLine (s.onLamp p f) := ⟨rfl, rfl⟩
theorem State.line_onScreen (c : Screen) (f : ScreenRecord → ScreenRecord) : s.KeepsLine (s.onScreen c f) := ⟨rfl, rfl⟩
theorem State.line_setRole (p : Projector) (r : Role) : s.KeepsLine (s.setRole p r) := ⟨rfl, rfl⟩
theorem State.line_raise (k : Notice) : s.KeepsLine (s.raise k) := ⟨rfl, rfl⟩
theorem State.line_onCue (x : CueIx) (f : Cue → Cue) : s.KeepsLine (s.onCue x f) := ⟨rfl, rfl⟩
theorem State.line_onChangeover (c : Screen) (f : Changeover → Changeover) : s.KeepsLine (s.onChangeover c f) := ⟨rfl, rfl⟩
theorem State.line_setFrameWatch (p : Projector) (w : Option Nat) : s.KeepsLine (s.setFrameWatch p w) := ⟨rfl, rfl⟩
theorem State.line_closeDouser (p : Projector) : s.KeepsLine (s.closeDouser p) := ⟨s.own_onDesired p _, rfl⟩
theorem State.line_closeBlade (p : Projector) : s.KeepsLine (s.closeBlade p) := ⟨s.own_onDesired p _, rfl⟩
theorem State.line_examine (c : Screen) : s.KeepsLine (s.examine c) := ⟨s.own_examine c, s.examine_marks c⟩

theorem State.line_askDouser (p : Projector) (v : Opening) : s.KeepsLine (s.askDouser p v).2 := by
  rw [State.askDouser_eq, apply_ite Prod.snd]
  exact .ite (fun _ => ⟨rfl, rfl⟩) fun _ => ⟨s.own_onDesired p _, rfl⟩

theorem State.line_askBlade (p : Projector) (v : Opening) : s.KeepsLine (s.askBlade p v).2 := by
  unfold State.askBlade
  cases s.bladeRuling p v
  case ok => exact ⟨s.own_onDesired p _, rfl⟩
  all_goals exact ⟨rfl, rfl⟩

theorem State.line_openDouserIf (p : Projector) (b : Bool) : s.KeepsLine (s.openDouserIf p b) := by
  rw [State.openDouserIf_eq]
  exact .ite (fun _ => ⟨s.own_onDesired p _, rfl⟩) fun _ => ⟨rfl, rfl⟩

theorem State.line_becomeStandby (p : Projector) : s.KeepsLine (s.becomeStandby p) :=
  ((s.line_setRole p _).andThen fun u => u.line_openDouserIf p _).andThen fun u => u.line_examine _

theorem State.line_onSpeed (p : Projector) (v : Speed) : s.KeepsLine (s.onSpeed p v) := by
  have back := (s.line_setRole p .starting).andThen fun u => u.line_examine (screenOf p)
  unfold State.onSpeed
  split
  · exact s.line_becomeStandby p
  · exact back
  · exact back
  · exact ⟨rfl, rfl⟩

theorem State.line_moveMotion (p : Projector) (m : Motion) : s.KeepsLine (s.moveMotion p m) :=
  .ite (fun _ => s.line_onMotion p _) fun _ => (s.line_onMotion p _).andThen fun u => u.line_onSpeed p _

theorem State.line_gateFollows (p : Projector) (v : MotorCommand) : s.KeepsLine (s.gateFollows p v) := by
  cases v <;> exact s.line_moveMotion p _

theorem State.line_writeMotor (p : Projector) (v : MotorCommand) : s.KeepsLine (s.writeMotor p v) :=
  .ite (fun _ => ⟨rfl, rfl⟩) fun _ => (s.line_onDesired p _).andThen fun u => u.line_gateFollows p v

theorem State.line_askMotor (p : Projector) (v : MotorCommand) : s.KeepsLine (s.askMotor p v).2 := by
  rw [State.askMotor_eq, apply_ite Prod.snd]
  exact .ite (fun _ => ⟨rfl, rfl⟩) fun _ => s.line_writeMotor p v

theorem State.line_moveReel (p : Projector) (old new : ReelState) : s.KeepsLine (s.moveReel p old new) := by
  rw [State.moveReel_eq]
  exact s.line_onScreen ..

theorem State.line_requestBurst (c : Screen) (p : Projector) : s.KeepsLine (s.requestBurst c p) := by
  unfold State.requestBurst State.askBurst
  cases s.burstRuling c
  case ok => exact ⟨rfl, rfl⟩
  all_goals exact ⟨rfl, rfl⟩

theorem State.line_requestIfReady (c : Screen) (inc : Option Projector) : s.KeepsLine (s.requestIfReady c inc) := by
  unfold State.requestIfReady
  cases inc with
  | none => exact ⟨rfl, rfl⟩
  | some p => exact .ite (fun _ => s.line_requestBurst c p) fun _ => ⟨rfl, rfl⟩

/-! ### Lamps -/

theorem State.line_handLamp (p : Projector) (l : Lamp) : s.KeepsLine (s.handLamp p l) :=
  ((s.line_onLamp p _).andThen fun u => u.line_openDouserIf p _).andThen fun u => u.line_examine _

theorem State.line_lampAttention (p : Projector) (c : LampCause) : s.KeepsLine (s.lampAttention p c) := ⟨rfl, rfl⟩
theorem State.line_lampMoved (p : Projector) (arc : Switch) (l : Lamp) (c : LampCause) :
    s.KeepsLine (s.lampMoved p arc l c) :=
  ((s.line_onDesired p _).andThen fun u => u.line_handLamp p l).andThen fun u => u.line_lampAttention p c

theorem State.line_extinguish (p : Projector) : s.KeepsLine (s.extinguish p) :=
  .ite (fun _ => ⟨rfl, rfl⟩) fun _ => s.line_lampMoved p .off _ .off

theorem State.line_strike (p : Projector) : s.KeepsLine (s.strike p).2 := by
  unfold State.strike
  cases s.strikeRuling p
  case ok =>
    rw [State.askArc_eq]
    by_cases trip : Switch.on = .on ∧ s.lc.tripInForce = true
    · rw [if_pos trip]; exact ⟨rfl, rfl⟩
    · rw [if_neg trip]; exact s.line_lampMoved p .on _ .strikeStarted
  all_goals exact ⟨rfl, rfl⟩

theorem State.line_sample (p : Projector) (volts amps : Nat) : s.KeepsLine (s.sample p volts amps) := by
  unfold State.sample
  split
  · exact .ite (fun _ => s.line_onLamp p _) fun _ => .ite (fun _ => s.line_onLamp p _) fun _ =>
      (s.line_handLamp p _).andThen fun u => u.line_lampAttention p .struck
  · exact .ite (fun _ => s.line_onLamp p _) fun _ => .ite (fun _ => s.line_onLamp p _) fun _ =>
      s.line_lampMoved p .off _ .arcOut
  all_goals exact ⟨rfl, rfl⟩

/-! ### Cues -/

theorem State.line_strikeCue (c : Screen) : s.KeepsLine (s.strikeCue c).2 := by
  unfold State.strikeCue
  split
  · exact ⟨rfl, rfl⟩
  split
  · exact ⟨rfl, rfl⟩
  rename_i side _
  have struck := s.line_strike (projectorOf c side)
  split <;> simp_all

theorem State.line_standbyIf (p : Projector) (b : Bool) : s.KeepsLine (s.standbyIf p b) :=
  .ite (fun _ => s.line_becomeStandby p) fun _ => ⟨rfl, rfl⟩

theorem State.line_motorAction (p : Projector) : s.KeepsLine (s.motorAction p).2 := by
  have motor := s.line_askMotor p .run
  unfold State.motorAction
  split
  · rename_i s1 asked
    rw [asked] at motor
    exact ((motor.trans (s1.line_setRole p .starting)).andThen fun u => u.line_examine _).andThen
      fun u => u.line_standbyIf p _
  · exact ⟨rfl, rfl⟩

theorem State.line_motorCue (c : Screen) : s.KeepsLine (s.motorCue c).2 := by
  unfold State.motorCue
  split
  · exact s.line_motorAction _
  · exact s.line_onScreen ..

theorem State.line_douserCue (c : Screen) (x : DouserTarget) : s.KeepsLine (s.douserCue c x).2 := by
  unfold State.douserCue
  split
  · exact ⟨rfl, rfl⟩
  rename_i p v _
  have asked := s.line_askDouser p v
  split <;> simp_all

theorem State.line_houseCue (c : Screen) (level time : Nat) : s.KeepsLine (s.houseCue c level time).2 := by
  have faded : s.KeepsLine (s.askFade c level time).2 := by
    unfold State.askFade State.fade
    split
    · exact ⟨rfl, rfl⟩
    · exact .ite (fun _ => ⟨rfl, rfl⟩) fun _ => ⟨rfl, rfl⟩
  unfold State.houseCue
  split <;> simp_all

theorem State.line_waitUnlessQueued (c : Screen) : s.KeepsLine (s.waitUnlessQueued c) :=
  .ite (fun _ => ⟨rfl, rfl⟩) fun _ => ⟨rfl, rfl⟩

theorem State.line_openChangeover (c : Screen) (x : CueIx) : s.KeepsLine (s.openChangeover c x) :=
  ((s.line_onChangeover c _).andThen fun u => u.line_requestIfReady c (s.incomingOf c)).andThen
    fun u => u.line_waitUnlessQueued c

theorem State.line_cueAction (c : Screen) (x : CueIx) : s.KeepsLine (s.cueAction c x).2 := by
  unfold State.cueAction
  split
  · exact s.line_strikeCue c
  · exact s.line_motorCue c
  · exact s.line_openChangeover c x
  · exact s.line_douserCue c _
  · exact s.line_houseCue c ..
  · exact ⟨rfl, rfl⟩

theorem State.line_dropCueWatch (c : Screen) (x : CueIx) : s.KeepsLine (s.dropCueWatch c x) := by
  unfold State.dropCueWatch
  split <;> exact ⟨rfl, rfl⟩

theorem State.line_fireCue (c : Screen) (x : CueIx) : s.KeepsLine (s.fireCue c x) :=
  ((((s.line_dropCueWatch c x).andThen fun u => u.line_cueAction c x).andThen fun u => u.line_onCue x _).andThen
    fun u => u.line_raise _).andThen fun u => u.line_onScreen c (ScreenRecord.advance x)

theorem State.line_holdChange (c : Screen) (x : CueIx) : s.KeepsLine (s.holdChange c x) :=
  (s.line_dropCueWatch c x).andThen fun u => u.line_onScreen c (fun r => { r with changeHeld := true })

theorem State.line_evaluate (c : Screen) (x : CueIx) : s.KeepsLine (s.evaluate c x).2 := by
  unfold State.evaluate
  split
  · exact ⟨rfl, rfl⟩
  · exact ⟨rfl, rfl⟩
  all_goals
    split
    · exact ⟨rfl, rfl⟩
    · split <;> exact ⟨rfl, rfl⟩

theorem State.line_runCues (fuel : Nat) (c : Screen) (s : State) : s.KeepsLine (s.runCues fuel c) := by
  induction fuel generalizing s with
  | zero => exact ⟨rfl, rfl⟩
  | succ k ih =>
    simp only [State.runCues]
    split
    · exact ⟨rfl, rfl⟩
    split
    · exact ⟨rfl, rfl⟩
    rename_i x _
    have evaluated := s.line_evaluate c x
    split
    · rename_i s1 waits
      rw [waits] at evaluated
      exact evaluated
    · rename_i s1 met
      rw [met] at evaluated
      exact .ite (fun _ => evaluated.trans (s1.line_holdChange c x)) fun _ =>
        (evaluated.trans (s1.line_fireCue c x)).trans (ih _)

theorem State.line_takeCue (c : Screen) (x : CueIx) : s.KeepsLine (s.takeCue c x) :=
  .ite (fun _ => s.line_holdChange c x) fun _ => (s.line_fireCue c x).trans (State.line_runCues _ c _)

theorem State.line_onMark (p : Projector) : s.KeepsLine (s.onMark p) := by
  unfold State.onMark
  dsimp only
  split
  · exact ⟨rfl, rfl⟩
  split
  · exact ⟨rfl, rfl⟩
  split
  · split
    · exact ⟨rfl, rfl⟩
    · split
      · exact s.line_takeCue ..
      · exact (s.line_raise _).andThen fun u => u.line_takeCue ..
  all_goals exact ⟨rfl, rfl⟩

/-! ### Changeovers sent and settled -/

theorem State.line_toTail (p : Projector) : s.KeepsLine (s.toTail p) :=
  (((s.line_setRole p .tail).andThen fun u => u.line_setFrameWatch p _).andThen
    fun u => u.line_closeDouser p).andThen fun u => u.line_extinguish p

theorem State.line_reevaluate (c : Screen) : s.KeepsLine (s.reevaluate c) := by
  unfold State.reevaluate
  split
  · exact ⟨rfl, rfl⟩
  split
  · exact State.line_runCues ..
  · exact State.line_runCues ..
  all_goals exact ⟨rfl, rfl⟩

theorem State.line_takeOff (o : Option Projector) : s.KeepsLine (s.takeOff o) := by
  cases o with
  | none => exact ⟨rfl, rfl⟩
  | some q => exact s.line_toTail q

theorem State.line_putOn (c : Screen) (p : Projector) : s.KeepsLine (s.putOn c p) :=
  ((s.line_onChangeover c _).andThen fun u => u.line_moveReel p .loaded .running).andThen
    fun u => u.line_setRole p .onScreen

theorem State.line_changeoverDone (c : Screen) (p : Projector) : s.KeepsLine (s.changeoverDone c p) :=
  (((s.line_putOn c p).andThen fun u => u.line_takeOff _).andThen
    fun u => u.line_onScreen c ScreenRecord.picture).andThen fun u => u.line_reevaluate c

theorem State.line_reopenBlade (o : Option Projector) : s.KeepsLine (s.reopenBlade o) := by
  cases o with
  | none => exact ⟨rfl, rfl⟩
  | some q => exact s.line_askBlade q .opened

theorem State.line_undoBurst (c : Screen) (side : Side) : s.KeepsLine (s.undoBurst c side) :=
  (((s.line_onChangeover c _).andThen fun u => u.line_closeBlade _).andThen fun u => u.line_reopenBlade _).andThen
    fun u => u.line_raise _

theorem State.line_onBurstSent (c : Screen) (side : Side) : s.KeepsLine (s.onBurstSent c side) := by
  unfold State.onBurstSent
  split
  · exact .ite (fun _ => s.line_changeoverDone c _) fun _ => s.line_undoBurst c side
  · exact s.line_undoBurst c side
  · exact (s.line_closeBlade _).andThen fun u => u.line_closeBlade _

theorem State.line_fireHeld (c : Screen) : s.KeepsLine (s.fireHeld c) := by
  have released : s.KeepsLine (s.onScreen c (fun r => { r with changeHeld := false })) := s.line_onScreen c _
  simp only [State.fireHeld]
  refine .ite (fun _ => ?_) fun _ => ⟨rfl, rfl⟩
  split
  · exact (released.andThen fun u => u.line_fireCue c _).trans (State.line_runCues _ c _)
  · exact released

theorem State.line_confirm (p : Projector) (b : Bool) : s.KeepsLine (s.confirm p b) :=
  .ite (fun _ => ⟨rfl, rfl⟩) fun _ => ⟨rfl, rfl⟩

theorem State.line_onOutcome (c : Screen) (a b : Bool) : s.KeepsLine (s.onOutcome c a b) := by
  unfold State.onOutcome
  refine .ite (fun _ => ?_) fun _ => s.line_examine c
  exact ((((s.line_onChangeover c _).andThen fun u => u.line_confirm _ a).andThen fun u =>
    u.line_confirm _ b).andThen fun u => u.line_raise _).andThen fun u => u.line_fireHeld c

end

end Sys2Proof.Machine
end

section
/-! PROOF. The slots of the booth line (spec/02 R24 to R26, R36 to R40). -/

namespace Sys2Proof.Machine

variable (s : State)

/-! ### What stays of the line record through an act of a poll's end -/

/-- From `s` to `t` the slot's position, the frame being sent and the reply window are as they were. -/
structure State.KeepsSlot (s t : State) : Prop where
  position : t.lc.position = s.lc.position
  sending : t.lc.sending = s.lc.sending
  window : t.lc.window = s.lc.window

theorem State.KeepsSlot.trans {s t u : State} (a : s.KeepsSlot t) (b : t.KeepsSlot u) : s.KeepsSlot u :=
  ⟨b.position.trans a.position, b.sending.trans a.sending, b.window.trans a.window⟩

theorem State.keepsSlot_of_own {s t : State} (h : t.lc.own = s.lc.own) : s.KeepsSlot t := by
  have fields := LineControl.own_fields h
  exact ⟨by rw [fields], by rw [fields], by rw [fields]⟩

theorem State.line_withdraw (p : Projector) : s.KeepsLine (s.withdraw p) :=
  ((((((s.line_moveReel p .loaded .listed).andThen fun u => u.line_setRole p .idle).andThen
    fun u => u.line_askMotor p .stop).andThen fun u => u.line_closeDouser p).andThen
      fun u => u.line_onMotion p _).andThen fun u => u.line_raise _).andThen fun u => u.line_examine _

theorem State.line_withdrawIf (p : Projector) (b : Bool) : s.KeepsLine (s.withdrawIf p b) :=
  .ite (fun _ => s.line_withdraw p) fun _ => ⟨rfl, rfl⟩

theorem State.lc_lampPresence (p : Projector) (old new : Presence) : (s.lampPresence p old new).lc = s.lc := by
  unfold State.lampPresence
  split
  · rfl
  · split <;> rfl

theorem State.lc_forgetMark (p : Projector) (v : Presence) : (s.forgetMark p v).lc = s.lc := by
  unfold State.forgetMark
  split <;> rfl

theorem State.own_handPresence (p : Projector) (old : Presence) : (s.handPresence p old).lc.own = s.lc.own := by
  simp only [State.handPresence, State.showPresence]
  rw [(State.line_examine _ _).own, (State.line_withdrawIf _ p _).own, State.lc_forgetMark, State.lc_lampPresence]

theorem State.keepsSlot_miss (p : Projector) : s.KeepsSlot (s.miss p) := by
  unfold State.miss
  dsimp only
  split
  · exact ⟨rfl, rfl, rfl⟩
  · exact (show s.KeepsSlot ((s.onStation p Station.miss).raise noticeStationLost) from ⟨rfl, rfl, rfl⟩).trans
      (State.keepsSlot_of_own (State.own_handPresence ..))

theorem State.keepsSlot_judgePoll (p : Projector) (blade : Option Opening) : s.KeepsSlot (s.judgePoll p blade) := by
  unfold State.judgePoll
  dsimp only
  split
  · exact ⟨rfl, rfl, rfl⟩
  · split
    · exact (show s.KeepsSlot (s.setWatch (screenOf p) .closed) from ⟨rfl, rfl, rfl⟩).trans
        (State.keepsSlot_of_own (State.line_onOutcome ..).own)
    · exact ⟨rfl, rfl, rfl⟩

/-- The end of a reply window closes it and leaves the frame being sent. -/
theorem State.keepsSlot_judgeWindow : (s.setWindow .closed).KeepsSlot s.judgeWindow := by
  unfold State.judgeWindow
  split
  · rename_i closed
    exact ⟨rfl, rfl, closed⟩
  · exact State.keepsSlot_judgePoll ..
  · exact (State.keepsSlot_miss ..).trans (State.keepsSlot_judgePoll ..)
  · exact (State.keepsSlot_miss ..).trans (State.keepsSlot_judgePoll ..)

theorem State.keepsSlot_changeoverSent (c : Screen) (side : Side) :
    (s.setSending .nothing).KeepsSlot (s.changeoverSent c side) := by
  refine State.KeepsSlot.trans (t := ((((s.onDesired (projectorOf c .a) _).onDesired (projectorOf c .b) _).setWatch c
    _).setSending .nothing)) ⟨rfl, rfl, rfl⟩ (State.keepsSlot_of_own (State.line_onBurstSent _ c side).own)

/-! ### What is under way at the start of a slot is ended first (log 24) -/

/-- The slot's position and a free line, with the reply window whatever it is. -/
theorem State.frameSent_slot : s.frameSent.lc.position = s.lc.position ∧ s.frameSent.lc.sending = .nothing := by
  unfold State.frameSent
  split
  · exact ⟨rfl, ‹_›⟩
  · exact ⟨rfl, rfl⟩
  · exact ⟨rfl, rfl⟩
  · exact ⟨(s.keepsSlot_changeoverSent ..).position, (s.keepsSlot_changeoverSent ..).sending⟩
  · rename_i p d sending
    rw [State.pollSent_lc, LineControl.pollSent_of_poll s.lc sending]
    exact ⟨rfl, rfl⟩

theorem State.frameSent_of_nothing {s : State} (h : s.lc.sending = .nothing) : s.frameSent = s := by
  simp only [State.frameSent, h]

theorem State.pollSent_of_nothing {s : State} (h : s.lc.sending = .nothing) : s.pollSent = s := by
  rw [State.pollSent, LineControl.pollSent_of_not_poll s.lc (by simp [h])]

theorem State.endWindow_of_free {s : State} (nothing : s.lc.sending = .nothing) (closed : s.lc.window = .closed) :
    s.endWindow = s := by
  rw [State.endWindow, State.pollSent_of_nothing nothing, State.judgeWindow, closed]

/-- The line free and no window open: what is under way at a slot's start has been ended. -/
theorem State.frameSent_endWindow_slot : s.frameSent.endWindow.lc.position = s.lc.position
    ∧ s.frameSent.endWindow.lc.sending = .nothing ∧ s.frameSent.endWindow.lc.window = .closed := by
  obtain ⟨position, nothing⟩ := s.frameSent_slot
  rw [State.endWindow, State.pollSent_of_nothing nothing]
  have kept := s.frameSent.keepsSlot_judgeWindow
  exact ⟨kept.position.trans position, kept.sending.trans nothing, kept.window⟩

theorem State.startSlot_ended : s.frameSent.endWindow.startSlot = s.startSlot := by
  obtain ⟨-, nothing, closed⟩ := s.frameSent_endWindow_slot
  have ended : s.frameSent.endWindow.frameSent.endWindow = s.frameSent.endWindow := by
    rw [State.frameSent_of_nothing nothing, State.endWindow_of_free nothing closed]
  simp only [State.startSlot, ended]

/-! ### The claim on a slot (R24) -/

/-- The state in which the slot of the station at the position begins, the line being free. -/
def State.slotBegun (s : State) : State :=
  { s with lc := { s.lc with position := s.lc.position + 1, untilSlot := 5000 } }

theorem State.startSlot_of_free {s : State} (nothing : s.lc.sending = .nothing) (closed : s.lc.window = .closed) :
    s.startSlot = s.slotBegun.carry s.lc.position := by
  rw [State.startSlot, State.frameSent_of_nothing nothing, State.endWindow_of_free nothing closed]
  rfl

section

variable {s : State} {p : Projector}

theorem State.carry_reset (h : s.lc.resetPending = true) : s.carry p = s.setSending .lineReset := by
  simp [State.carry, h]

theorem State.carry_burst {b : Burst} {rest : List Burst} (h : s.lc.resetPending = false)
    (queue : s.lc.burstQueue = b :: rest) : s.carry p = (s.setQueue rest).setSending (.burst b) := by
  simp [State.carry, h, queue]

theorem State.carry_poll (h : s.lc.resetPending = false) (queue : s.lc.burstQueue = [])
    (present : (s.station p).presence = .present) : s.carry p = s.setSending (.poll p (s.station p).desired) := by
  simp [State.carry, h, queue, present, State.sendPoll]

theorem State.carry_rare (h : s.lc.resetPending = false) (queue : s.lc.burstQueue = [])
    (absent : (s.station p).presence ≠ .present) (due : (s.station p).rareCountdown = 0) : s.carry p =
      (s.onStation p (fun r => { r with rareCountdown := 9 })).setSending (.poll p (s.station p).desired) := by
  simp [State.carry, h, queue, absent, due, State.sendPoll, Config.rareCycles]

theorem State.carry_idle (h : s.lc.resetPending = false) (queue : s.lc.burstQueue = [])
    (absent : (s.station p).presence ≠ .present) (early : (s.station p).rareCountdown ≠ 0) : s.carry p =
      s.onStation p (fun r => { r with rareCountdown := r.rareCountdown - 1 }) := by
  simp [State.carry, h, queue, absent, early]

/-- What a claimed slot leaves of the line record and of the other stations. -/
theorem State.carry_keeps (s : State) (p : Projector) : (s.carry p).lc.window = s.lc.window
    ∧ (s.carry p).lc.position = s.lc.position ∧ (s.carry p).lc.untilSlot = s.lc.untilSlot
    ∧ (s.carry p).lc.tripInForce = s.lc.tripInForce ∧ (s.carry p).lc.watches = s.lc.watches
    ∧ (s.carry p).lc.resetPending = s.lc.resetPending ∧ (∀ q, q ≠ p → (s.carry p).station q = s.station q)
    ∧ onlyTouches [.lc] s (s.carry p) := by
  by_cases reset : s.lc.resetPending = true
  · simp [State.carry_reset reset, onlyTouches]
  rw [Bool.not_eq_true] at reset
  match queue : s.lc.burstQueue with
  | b :: rest => simp [State.carry_burst reset queue, onlyTouches]
  | [] =>
    by_cases present : (s.station p).presence = .present
    · simp [State.carry_poll reset queue present, onlyTouches]
    by_cases due : (s.station p).rareCountdown = 0
    · simp +contextual [State.carry_rare reset queue present due, onlyTouches, eq_comm]
    · simp +contextual [State.carry_idle reset queue present due, onlyTouches, eq_comm]

end

/-- Settles O18: on a free line the slot is carried out by its claim; else what is under way is ended first. -/
theorem slotIsClaimedInOrder : Obligations.SlotIsClaimedInOrder := by
  intro s
  refine ⟨fun nothing closed => ?_, ?_⟩
  · obtain ⟨window, position, slot, trip, watches, pending, others, touched⟩ :=
      s.slotBegun.carry_keeps s.lc.position
    refine ⟨_, congrArg Host.Outcome.next (State.startSlot_of_free nothing closed), window.trans closed, position, slot,
      trip, watches, pending, others, ⟨fun reset => ?_, fun reset busy => ?_, fun reset queue present => ?_,
        fun reset queue absent due => ?_, fun reset queue absent early => ?_⟩, ?_⟩
    · rw [State.carry_reset (s := s.slotBegun) reset]
      exact ⟨rfl, rfl, rfl⟩
    · obtain ⟨b, rest, queue⟩ := List.exists_cons_of_ne_nil busy
      rw [State.carry_burst (s := s.slotBegun) reset queue, queue]
      exact ⟨⟨b, rfl, rfl⟩, rfl, rfl⟩
    · rw [State.carry_poll (s := s.slotBegun) reset queue present]
      exact ⟨rfl, rfl, queue⟩
    · rw [State.carry_rare (s := s.slotBegun) reset queue absent due]
      exact ⟨rfl, (State.station_onStation ..).trans (if_pos rfl), queue⟩
    · rw [State.carry_idle (s := s.slotBegun) reset queue absent early]
      exact ⟨nothing, (State.station_onStation ..).trans (if_pos rfl), queue⟩
    · exact (show onlyTouches [.lc] s s.slotBegun by simp [onlyTouches, State.slotBegun]).trans touched
  · obtain ⟨position, nothing, closed⟩ := s.frameSent_endWindow_slot
    refine ⟨s.frameSent.endWindow, ?_, nothing, closed, position, congrArg Host.Outcome.next s.startSlot_ended.symm⟩
    have twice : s.frameSent = s.pollSent → execAll [.replyWindowEnd, .replyWindowEnd] s = .next s.frameSent.endWindow := by
      intro free
      have ended : s.frameSent.endWindow = s.endWindow := by
        rw [free, State.endWindow, State.endWindow]
        simp only [State.pollSent, LineControl.pollSent_pollSent]
      rw [ended] at nothing closed ⊢
      exact congrArg Host.Outcome.next (State.endWindow_of_free nothing closed)
    cases sending : s.lc.sending with
    | nothing => exact twice (by rw [State.frameSent_of_nothing sending, State.pollSent_of_nothing sending])
    | poll q d => exact twice (by simp only [State.frameSent, sending])
    | lineReset =>
      have sent : exec .lineResetFrameSent s = .next s.frameSent := by
        refine (congrArg Host.Outcome.next (if_pos sending)).trans ?_
        simp only [State.frameSent, sending]
      simp only [execAll, sent]
      rfl
    | burst b =>
      cases b with
      | trip =>
        have sent : exec .tripBurstSent s = .next s.frameSent := by
          refine (congrArg Host.Outcome.next (if_pos sending)).trans ?_
          simp only [State.frameSent, sending]
        simp only [execAll, sent]
        rfl
      | changeover c side =>
        have sent : exec .changeoverBurstSent s = .next s.frameSent := by
          show execChangeoverBurstSent s = _
          simp only [execChangeoverBurstSent, State.frameSent, sending]
        simp only [execAll, sent]
        rfl

end Sys2Proof.Machine
end

section
/-! PROOF. What a trip keeps of the stations' reports, and a projector withdrawn (spec/02 R27 to R34, spec/05 R95). -/

namespace Sys2Proof.Machine

/-! ### The reports kept, whatever the trip does to the desired states -/

/-- From `s` to `t` each station's record is kept but for its desired state, and so are the window and the marks. -/
structure State.KeepsReports (s t : State) : Prop where
  station : ∀ q, t.station q = { s.station q with desired := (t.station q).desired }
  window : t.lc.window = s.lc.window
  marks : t.su.marks = s.su.marks

namespace State.KeepsReports

variable {s t u : State}

theorem refl (s : State) : s.KeepsReports s := ⟨fun _ => rfl, rfl, rfl⟩

theorem trans (a : s.KeepsReports t) (b : t.KeepsReports u) : s.KeepsReports u :=
  ⟨fun q => by have h := b.station q; rw [a.station q] at h; exact h, b.window.trans a.window, b.marks.trans a.marks⟩

theorem of_own (own : t.lc.own = s.lc.own) (marks : t.su.marks = s.su.marks) : s.KeepsReports t :=
  ⟨fun q => LineControl.own_station own q, by rw [LineControl.own_fields own], marks⟩

end State.KeepsReports

theorem State.KeepsLine.reports {s t : State} (h : s.KeepsLine t) : s.KeepsReports t := .of_own h.own h.marks

section

variable (s : State)

theorem State.line_foldl {α : Type} (f : State → α → State) (h : ∀ (u : State) a, u.KeepsLine (f u a)) (l : List α) :
    s.KeepsLine (l.foldl f s) := by
  induction l generalizing s with
  | nil => exact ⟨rfl, rfl⟩
  | cons a rest ih => exact (h s a).trans (ih (f s a))

theorem State.reports_lineStopped : s.KeepsReports s.lineStopped :=
  ⟨fun q => by rw [State.station_lineStopped], rfl, rfl⟩

theorem State.line_lampTrip (p : Projector) : s.KeepsLine (s.lampTrip p) :=
  .ite (fun _ => ⟨rfl, rfl⟩) fun _ => s.line_handLamp p _

theorem State.line_screenTrip (c : Screen) : s.KeepsLine (s.screenTrip c) := by
  unfold State.screenTrip State.endedIf
  dsimp only
  split <;> exact ⟨rfl, rfl⟩

theorem State.line_handShutter (k : Shutter) : s.KeepsLine (s.handShutter k) := by
  unfold State.handShutter
  split
  · exact (s.line_withdrawIf _ _).andThen fun u => u.line_examine _
  · exact ⟨rfl, rfl⟩

theorem State.line_passStops (before : LineControl) : s.KeepsLine (s.passStops before) :=
  s.line_foldl _ (fun u _ => .ite (fun _ => u.line_gateFollows _ .stop) fun _ => ⟨rfl, rfl⟩) _

theorem State.line_handTripShutters (before : FireUnit) : s.KeepsLine (s.handTripShutters before) :=
  s.line_foldl _ (fun u k => .ite (fun _ => ⟨rfl, rfl⟩) fun _ => u.line_handShutter k) _

theorem State.lineTrip_eq : s.lineTrip = s.lc.dropped.foldl State.onBurstDropped (s.lineStopped.passStops s.lc) := rfl

theorem State.lampUnitTrip_eq : s.lampUnitTrip = (List.finRange 8).foldl State.lampTrip s.lampsTripped := rfl

theorem State.enterTrip_eq (c : Cause) :
    s.enterTrip c = ((s.fireTripped c).signalTrip.handTripShutters s.fu).shutTest := rfl

theorem State.reports_lineTrip : s.KeepsReports s.lineTrip := by
  rw [State.lineTrip_eq]
  exact s.reports_lineStopped.trans ((s.lineStopped.line_passStops s.lc).trans
    (State.line_foldl _ State.onBurstDropped (fun _ _ => ⟨rfl, rfl⟩) _)).reports

theorem State.reports_showTrip : s.KeepsReports s.showTrip := by
  rw [State.showTrip_eq]
  exact (show s.KeepsReports s.showTripped from ⟨fun _ => rfl, rfl, rfl⟩).trans
    (State.line_foldl _ State.screenTrip (fun u c => u.line_screenTrip c) _).reports

theorem State.reports_lampUnitTrip : s.KeepsReports s.lampUnitTrip := by
  rw [State.lampUnitTrip_eq]
  exact (show s.KeepsReports s.lampsTripped from ⟨fun _ => rfl, rfl, rfl⟩).trans
    (State.line_foldl _ State.lampTrip (fun u p => u.line_lampTrip p) _).reports

theorem State.reports_houseTrip : s.KeepsReports s.houseTrip := ⟨fun _ => rfl, rfl, rfl⟩

theorem State.reports_signalTrip : s.KeepsReports s.signalTrip :=
  ((s.reports_lineTrip.trans (State.reports_lampUnitTrip _)).trans (State.reports_showTrip _)).trans
    (State.reports_houseTrip _)

theorem State.reports_shutTest : s.KeepsReports s.shutTest := by
  unfold State.shutTest
  split
  · exact .refl s
  · split <;> exact ⟨fun _ => rfl, rfl, rfl⟩
  · split <;> exact ⟨fun _ => rfl, rfl, rfl⟩

theorem State.reports_enterTrip (c : Cause) : s.KeepsReports (s.enterTrip c) := by
  rw [State.enterTrip_eq]
  exact (((show s.KeepsReports (s.fireTripped c) from ⟨fun _ => rfl, rfl, rfl⟩).trans (State.reports_signalTrip _)).trans
    (State.line_handTripShutters _ s.fu).reports).trans (State.reports_shutTest _)

theorem State.reports_takeCause (c : Cause) : s.KeepsReports (s.takeCause c) := by
  have recorded : s.KeepsReports (if c ∈ s.fu.causes then s
      else (s.setCauses (s.fu.causes ++ [c])).raise noticeTripCauseAdded) := by
    split <;> exact ⟨fun _ => rfl, rfl, rfl⟩
  unfold State.takeCause
  split
  · exact s.reports_enterTrip c
  · exact recorded
  · exact recorded

theorem State.reports_flameFlag (p : Projector) (flag : Sensor) : s.KeepsReports (s.flameFlag p flag) := by
  unfold State.flameFlag
  split
  · exact s.reports_takeCause _
  · exact .refl s

theorem State.flameFlag_clear (p : Projector) : s.flameFlag p .clear = s := rfl

/-! ### A cause stands recorded once it is taken (R142) -/

theorem State.causes_shutTest : s.shutTest.fu.causes = s.fu.causes := by
  unfold State.shutTest
  split
  · rfl
  · split <;> rfl
  · split <;> rfl

theorem State.causes_enterTrip (c : Cause) : (s.enterTrip c).fu.causes = [c] := by
  have fu : (s.fireTripped c).signalTrip.fu = (s.fireTripped c).fu := (State.trip_signalTrip _).2.2.2.2
  have handed := ((s.fireTripped c).signalTrip.act_handTripShutters s.fu).fu
  rw [State.enterTrip_eq, State.causes_shutTest, handed, fu]
  rfl

theorem State.mem_causes_takeCause (c : Cause) : c ∈ (s.takeCause c).fu.causes := by
  have recorded : c ∈ (if c ∈ s.fu.causes then s
      else (s.setCauses (s.fu.causes ++ [c])).raise noticeTripCauseAdded).fu.causes := by
    split
    · assumption
    · exact List.mem_append_right _ (List.mem_singleton.mpr rfl)
  unfold State.takeCause
  split
  · rw [State.causes_enterTrip]; exact List.mem_singleton.mpr rfl
  · exact recorded
  · exact recorded

/-! ### A projector withdrawn (R95) -/

section

variable (p : Projector)

/-- A projector's reel listed again, its motor stopped, its douser closed and its counter cleared. -/
def State.givenUp (s : State) (p : Projector) : State :=
  (((((s.onScreen (screenOf p) (fun r => { r with reels := s.movedReels p .loaded .listed })).setRole p .idle).onDesired p
    (fun d => { d with motor := .stop })).onMotion p
      (fun m => if (s.station p).desired.motor = .stop then m else m.closeGate)).onDesired p
        (fun d => { d with douser := .closed })).onMotion p (fun m => { m with framesRemaining := 0, watch := none })

theorem State.withdraw_eq : s.withdraw p =
    ((s.givenUp p).raise (noticeArmWithdrawn (screenOf p))).examine (screenOf p) := by
  unfold State.withdraw
  dsimp only
  rw [State.moveReel_eq, State.stopMotor_of_idle _ (by simp)]
  rfl

theorem State.withdraw_reads : (s.withdraw p).role p = .idle ∧ ((s.withdraw p).station p).desired.motor = .stop
    ∧ ((s.withdraw p).station p).desired.douser = .closed ∧ ((s.withdraw p).motion p).framesRemaining = 0
    ∧ ((s.withdraw p).motion p).watch = none
    ∧ (∀ r, s.reelOf p .loaded = some r →
        (s.withdraw p).reel (screenOf p) r = (s.reel (screenOf p) r).withState .listed) := by
  rw [State.withdraw_eq]
  refine ⟨?_, ?_, ?_, ?_, ?_, fun r found => ?_⟩
  · simp [State.givenUp]
  · simp [State.givenUp]
  · simp [State.givenUp]
  · simp [State.givenUp]
  · simp [State.givenUp]
  · have moved := s.movedReels_get (new := .listed) found
    simpa [State.givenUp, State.reel] using moved

theorem State.noticed_withdraw : noticed (noticeArmWithdrawn (screenOf p)) s (s.withdraw p) := by
  rw [State.withdraw_eq]
  refine noticed_of_raise ?_ (State.act_examine _ _)
  rfl

/-- What a withdrawal leaves of the other projectors and of the lamps. -/
theorem State.withdraw_keeps : (∀ q, q ≠ p → (s.withdraw p).station q = s.station q ∧ (s.withdraw p).role q = s.role q
      ∧ (s.withdraw p).motion q = s.motion q)
    ∧ (s.withdraw p).lu = s.lu ∧ (s.withdraw p).hu = s.hu ∧ (s.withdraw p).fu = s.fu := by
  rw [State.withdraw_eq]
  refine ⟨fun q hq => ?_, ?_, ?_, ?_⟩
  · simp [State.givenUp, hq.symm]
  · simp [State.givenUp]
  · simp [State.givenUp]
  · simp [State.givenUp]

end

end

end Sys2Proof.Machine
end

section
/-! PROOF. Replies heard on the booth line: presence, reports and samples (spec/02 R22 to R31, spec/03 R47 to R53). -/

namespace Sys2Proof.Machine

section

variable {s : State} {p : Projector}

/-! ### A good reply moves presence (R27) -/

theorem State.onStation_congr {f g : Station → Station} (h : f (s.station p) = g (s.station p)) :
    s.onStation p f = s.onStation p g :=
  congrArg (fun r => { s with lc := { s.lc with stations := s.lc.stations.set p r } }) h

theorem State.onLamp_self {f : Lamp → Lamp} (h : f (s.lamp p) = s.lamp p) : s.onLamp p f = s := by
  rw [State.onLamp, upd_self _ _ _ h]

/-- A good reply that leaves presence changes the station's record alone. -/
theorem State.goodReply_of_kept {f : Station → Station} (good : (s.station p).goodReply = f (s.station p))
    (kept : (f (s.station p)).presence = (s.station p).presence) : s.goodReply p = s.onStation p f := by
  have same : ((s.onStation p Station.goodReply).station p).presence = (s.station p).presence := by simp [good, kept]
  rw [State.goodReply, if_pos same]
  exact State.onStation_congr good

/-- A miss that leaves presence changes the station's record alone. -/
theorem State.miss_of_kept {f : Station → Station} (missed : (s.station p).miss = f (s.station p))
    (kept : (f (s.station p)).presence = (s.station p).presence) : s.miss p = s.onStation p f := by
  have same : ((s.onStation p Station.miss).station p).presence = (s.station p).presence := by simp [missed, kept]
  rw [State.miss, if_pos same]
  exact State.onStation_congr missed

theorem State.goodReply_of_present (h : (s.station p).presence = .present) :
    s.goodReply p = s.onStation p (fun r => { r with missRun := 0 }) :=
  State.goodReply_of_kept (by simp [Station.goodReply, h]) rfl

theorem State.goodReply_of_first (absent : (s.station p).presence ≠ .present) (first : (s.station p).goodRun = 0) :
    s.goodReply p = s.onStation p (fun r => { r with goodRun := 1 }) :=
  State.goodReply_of_kept
    (by cases h : (s.station p).presence <;> simp_all [Station.goodReply, Config.repliesToPresent]) rfl

/-- A station record at the good reply that makes it PRESENT. -/
def Station.found (r : Station) : Station := { r with presence := .present, goodRun := 0, missRun := 0 }

/-- A station record at the miss that makes it LOST. -/
def Station.lostNow (r : Station) : Station :=
  { r with presence := .lost, missRun := 0, goodRun := 0, rareCountdown := 9, reportOld := true }

/-- A lamp as the loss of its station leaves it. -/
def Lamp.held (l : Lamp) : Lamp := if l.state = .burning then { l with holdTimer := some ⟨50, 0⟩ } else l

/-- The state of a station just become PRESENT, and what its presence makes of its lamp and its mark count. -/
def State.nowPresent (s : State) (p : Projector) : State :=
  ((((s.onStation p Station.found).raise
    noticeStationPresent).onLamp p (fun l => { l with holdTimer := none })).setMark p none).examine (screenOf p)

theorem State.goodReply_of_second (absent : (s.station p).presence ≠ .present) (second : 1 ≤ (s.station p).goodRun) :
    s.goodReply p = s.nowPresent p := by
  have reached : ¬(s.station p).goodRun + 1 < Config.repliesToPresent := Nat.not_lt.mpr (Nat.succ_le_succ second)
  have good : (s.station p).goodReply = (s.station p).found := by
    cases h : (s.station p).presence <;> simp_all [Station.goodReply, Station.found]
  have changed : ¬((s.onStation p Station.goodReply).station p).presence = (s.station p).presence := by
    simp [good, Station.found, Ne.symm absent]
  rw [State.goodReply, if_neg changed, State.onStation_congr (g := Station.found) good]
  simp [State.handPresence, State.lampPresence, State.showPresence, State.forgetMark, State.withdrawIf, State.nowPresent,
    Station.found]

/-! ### A miss moves presence (R27) -/

theorem State.miss_of_absent (absent : (s.station p).presence ≠ .present) :
    s.miss p = s.onStation p (fun r => { r with goodRun := 0 }) :=
  State.miss_of_kept (by cases h : (s.station p).presence <;> simp_all [Station.miss]) rfl

theorem State.miss_of_early (present : (s.station p).presence = .present) (early : (s.station p).missRun < 2) :
    s.miss p = s.onStation p (fun r => { r with missRun := r.missRun + 1 }) := by
  have small : (s.station p).missRun + 1 < Config.missesToLose := Nat.succ_lt_succ early
  exact State.miss_of_kept (by simp [Station.miss, present, small]) rfl

/-- The state of a station just LOST, the hold of a BURNING lamp started. -/
def State.nowLost (s : State) (p : Projector) : State :=
  ((s.onStation p Station.lostNow).raise noticeStationLost).onLamp p Lamp.held

theorem State.miss_of_third (present : (s.station p).presence = .present) (third : 2 ≤ (s.station p).missRun) :
    s.miss p = ((s.nowLost p).withdrawIf p true).examine (screenOf p) := by
  have reached : ¬(s.station p).missRun + 1 < Config.missesToLose := Nat.not_lt.mpr (Nat.succ_le_succ third)
  have missed : (s.station p).miss = (s.station p).lostNow := by
    simp [Station.miss, Station.lostNow, present, reached, Config.rareCycles]
  have changed : ¬((s.onStation p Station.miss).station p).presence = (s.station p).presence := by
    simp [missed, Station.lostNow, present]
  rw [State.miss, if_neg changed, State.onStation_congr (g := Station.lostNow) missed]
  have hold : ∀ u : State, u.lampPresence p .present .lost =
      u.onLamp p Lamp.held := by
    intro u
    by_cases burning : (u.lamp p).state = .burning
    · simp only [State.lampPresence, burning]
      exact congrArg (fun l => { u with lu := { u.lu with lamps := u.lu.lamps.set p l } }) (if_pos burning).symm
    · rw [State.onLamp_self (f := Lamp.held) (if_neg burning)]
      simp [State.lampPresence, burning]
  have lost : ((((s.onStation p Station.lostNow).raise noticeStationLost)).station p).presence = .lost := by
    simp [Station.lostNow]
  rw [State.handPresence, lost, present, hold]
  rfl

/-! ### A reply taken (R28 to R31) -/

theorem State.own_onMarkCount (s : State) (p : Projector) (k : Nat) : (s.onMarkCount p k).lc.own = s.lc.own := by
  unfold State.onMarkCount
  split
  · rfl
  · split
    · rfl
    · exact (State.line_onMark _ p).own

/-- A mark count heard is the one remembered. -/
theorem State.mark_onMarkCount (s : State) (p q : Projector) (k : Nat) :
    (s.onMarkCount p k).mark q = if p = q then some k else s.mark q := by
  have kept : ((s.setMark p (some k)).onMark p).mark q = (s.setMark p (some k)).mark q := by
    rw [State.mark, (State.line_onMark _ p).marks]; rfl
  unfold State.onMarkCount
  split
  · exact State.mark_setMark ..
  · rename_i old known
    split
    · rename_i same
      by_cases h : p = q
      · subst h; rw [if_pos rfl, known, same]
      · rw [if_neg h]
    · exact kept.trans (State.mark_setMark ..)

/-- The state of a station whose report has been taken, before its parts are handed on. -/
def State.reported (s : State) (p : Projector) (toggle : Bool) (x : Report) : State :=
  (s.setWindow (.opened p (.good (some x.blade)))).onStation p
    (fun r => r.takeReport (toggle = r.expectedToggle) x)

/-- What a report makes of its lamp, its marks and its screen. -/
def State.measured (s : State) (p : Projector) (fresh : Bool) (x : Report) : State :=
  (s.handMeasured p fresh x).examine (screenOf p)

theorem State.takeReply_of_present {toggle : Bool} {x : Report} {address : Nat}
    (present : ((s.goodReply p).station p).presence = .present) : s.takeReply p ⟨address, toggle, some x⟩ =
      (((s.goodReply p).reported p toggle x).measured p (toggle = ((s.goodReply p).station p).expectedToggle) x).flameFlag
        p x.gateFlame := by
  simp only [State.takeReply, present]
  rfl

theorem State.takeReply_of_not_present {toggle : Bool} {x : Report} {address : Nat}
    (absent : ((s.goodReply p).station p).presence ≠ .present) : s.takeReply p ⟨address, toggle, some x⟩ =
      ((s.goodReply p).setWindow (.opened p (.good none))).flameFlag p x.gateFlame := by
  cases h : ((s.goodReply p).station p).presence
  · simp only [State.takeReply, h]
  · exact absurd h absent
  · simp only [State.takeReply, h]

theorem State.takeReply_bare {toggle : Bool} {address : Nat} : s.takeReply p ⟨address, toggle, none⟩ =
    (s.goodReply p).setWindow (.opened p (.good none)) := rfl

theorem exec_replyReceived_heard {begun : Nat} {signal : List Nat} {toggle : Bool} {report : Option Report}
    (heard : heardReply p begun signal toggle report s) :
    exec (.replyReceived begun signal) s = .next (s.pollSent.takeReply p ⟨numberOf p, toggle, report⟩) :=
  congrArg Host.Outcome.next (s.receiveFrame_of_heardReply heard)

/-- The line record and the marks, as the parts of a report handed on leave them. -/
theorem State.measured_reads (s : State) (p : Projector) (fresh : Bool) (x : Report) :
    (s.measured p fresh x).lc.own = s.lc.own
      ∧ ∀ q, (s.measured p fresh x).mark q = if p = q ∧ fresh = true then some x.marks else s.mark q := by
  cases fresh with
  | false => exact ⟨State.own_examine .., fun q => by simp [State.measured, State.handMeasured]⟩
  | true =>
    have sampled := s.line_sample p x.volts x.amps
    refine ⟨?_, fun q => ?_⟩
    · rw [State.measured, State.own_examine]
      exact (State.own_onMarkCount ..).trans sampled.own
    · rw [State.measured, State.examine_mark]
      refine (State.mark_onMarkCount ..).trans ?_
      have marks : (s.sample p x.volts x.amps).mark q = s.mark q := by rw [State.mark, sampled.marks]; rfl
      simp [marks]

end

end Sys2Proof.Machine
end

section
/-! PROOF. Reports, presence and samples as the booth line's replies bring them (spec/02 R26 to R31, spec/03 R47 to R55). -/

namespace Sys2Proof.Machine

/-! ### A sample's act on its lamp (R47, R49, R52, R53) -/

/-- The lamp record a fresh sample leaves. -/
def Lamp.sampled (l : Lamp) (volts amps : Nat) : Lamp :=
  match l.state with
  | .striking =>
    if 2 * amps < l.ir then { l with strikeCount := 0 }
    else if l.strikeCount < 2 then { l with strikeCount := l.strikeCount + 1 }
    else { Lamp.regulate { l with state := .burning, strikeTimer := none, strikeCount := 0, outCount := 0 } volts amps with
      cause := .struck }
  | .burning =>
    if l.ir ≤ 4 * amps then Lamp.regulate { l with outCount := 0 } volts amps
    else if l.outCount < 4 then Lamp.regulate { l with outCount := l.outCount + 1 } volts amps
    else { l.setFeed 0 with state := .out, fault := .arcOut, outCount := 0, cause := .arcOut }
  | .cold | .out | .fault => l

section

variable {l : Lamp} (volts amps : Nat)

theorem Lamp.sampled_of_striking (h : l.state = .striking) : l.sampled volts amps =
    if 2 * amps < l.ir then { l with strikeCount := 0 }
    else if l.strikeCount < 2 then { l with strikeCount := l.strikeCount + 1 }
    else { Lamp.regulate { l with state := .burning, strikeTimer := none, strikeCount := 0, outCount := 0 } volts amps with
      cause := .struck } := by
  unfold Lamp.sampled
  split
  · rfl
  all_goals
    rename_i other
    exact absurd (h.symm.trans other) (by decide)

theorem Lamp.sampled_of_burning (h : l.state = .burning) : l.sampled volts amps =
    if l.ir ≤ 4 * amps then Lamp.regulate { l with outCount := 0 } volts amps
    else if l.outCount < 4 then Lamp.regulate { l with outCount := l.outCount + 1 } volts amps
    else { l.setFeed 0 with state := .out, fault := .arcOut, outCount := 0, cause := .arcOut } := by
  unfold Lamp.sampled
  split
  · rename_i other
    exact absurd (h.symm.trans other) (by decide)
  · rfl
  all_goals
    rename_i other
    exact absurd (h.symm.trans other) (by decide)

theorem Lamp.sampled_of_dark (h : l.state = .cold ∨ l.state = .out ∨ l.state = .fault) : l.sampled volts amps = l := by
  rcases h with h | h | h <;> simp [Lamp.sampled, h]

end

section

variable (s : State) (p : Projector) (volts amps : Nat)

theorem State.lamp_handLamp (q : Projector) (l : Lamp) :
    (s.handLamp p l).lamp q = if p = q then l else s.lamp q := by
  have kept : ∀ (u : State) (b : Bool), (u.openDouserIf p b).lamp q = u.lamp q := fun u b => by
    rw [State.openDouserIf_eq]; split <;> rfl
  simp [State.handLamp, State.onLampState, kept]

theorem State.touches_handLamp (l : Lamp) : onlyTouches [.lc, .lu, .su, .pu] s (s.handLamp p l) :=
  ((show onlyTouches [.lc, .lu, .su, .pu] s (s.onLamp p (fun _ => l)) by simp [onlyTouches]).trans
    ((State.touches_openDouserIf ..).mono (by simp))).trans ((State.touches_examine ..).mono (by simp))

theorem State.roles_handLamp (l : Lamp) : (s.handLamp p l).su.roles = s.su.roles := by
  simp [State.handLamp, State.onLampState]

/-- What a sample touches at most. -/
structure State.SamplesLamp (s : State) (p : Projector) (l : Lamp) (t : State) : Prop where
  lamp : t.lamp p = l
  others : otherLampsKept p s t
  roles : t.su.roles = s.su.roles
  touched : onlyTouches [.lc, .lu, .su, .pu] s t

theorem State.samplesLamp_onLamp {f : Lamp → Lamp} {l : Lamp} (h : f (s.lamp p) = l) :
    s.SamplesLamp p l (s.onLamp p f) where
  lamp := by simp [h]
  others := ⟨fun q hq => by simp [hq.symm], rfl⟩
  roles := rfl
  touched := by simp [onlyTouches]

theorem State.luTrip_handLamp (l : Lamp) : (s.handLamp p l).lu.tripInForce = s.lu.tripInForce :=
  (s.act_handLamp p l).luTrip

theorem State.samplesLamp_handLamp (l : Lamp) (c : LampCause) :
    s.SamplesLamp p { l with cause := c } ((s.handLamp p l).lampAttention p c) where
  lamp := by rw [State.lamp_lampAttention, if_pos rfl, State.lamp_handLamp, if_pos rfl]
  others := ⟨fun q hq => by
    rw [State.lamp_lampAttention, if_neg hq.symm, State.lamp_handLamp, if_neg hq.symm], s.luTrip_handLamp p l⟩
  roles := s.roles_handLamp p l
  touched := (s.touches_handLamp p l).trans (by simp [onlyTouches, State.lampAttention])

/-- A sample writes its lamp's record by `Lamp.sampled`. -/
theorem State.samplesLamp_sample : s.SamplesLamp p ((s.lamp p).sampled volts amps) (s.sample p volts amps) := by
  have dark : ((s.lamp p).state = .cold ∨ (s.lamp p).state = .out ∨ (s.lamp p).state = .fault) →
      s.SamplesLamp p ((s.lamp p).sampled volts amps) s := fun h => by
    rw [Lamp.sampled_of_dark _ _ h]
    exact ⟨rfl, ⟨fun _ _ => rfl, rfl⟩, rfl, onlyTouches_refl _ s⟩
  unfold State.sample
  split
  case h_1 striking =>
    rw [Lamp.sampled_of_striking _ _ striking]
    unfold State.sampleStriking
    dsimp only
    by_cases weak : 2 * amps < (s.lamp p).ir
    · rw [if_pos weak, if_pos weak]
      exact s.samplesLamp_onLamp p rfl
    rw [if_neg weak, if_neg weak]
    by_cases early : (s.lamp p).strikeCount < 2
    · rw [if_pos (show (s.lamp p).strikeCount + 1 < Config.strikeSamples from Nat.succ_lt_succ early), if_pos early]
      exact s.samplesLamp_onLamp p rfl
    · rw [if_neg (show ¬(s.lamp p).strikeCount + 1 < Config.strikeSamples from
        fun h => early (Nat.lt_of_succ_lt_succ h)), if_neg early]
      exact s.samplesLamp_handLamp p _ .struck
  case h_2 burning =>
    rw [Lamp.sampled_of_burning _ _ burning]
    unfold State.sampleBurning
    dsimp only
    by_cases strong : (s.lamp p).ir ≤ 4 * amps
    · rw [if_pos strong, if_pos strong]
      exact s.samplesLamp_onLamp p rfl
    rw [if_neg strong, if_neg strong]
    by_cases early : (s.lamp p).outCount < 4
    · rw [if_pos (show (s.lamp p).outCount + 1 < Config.arcOutSamples from Nat.succ_lt_succ early), if_pos early]
      exact s.samplesLamp_onLamp p rfl
    · rw [if_neg (show ¬(s.lamp p).outCount + 1 < Config.arcOutSamples from
        fun h => early (Nat.lt_of_succ_lt_succ h)), if_neg early]
      have out := s.movesLamp_lampMoved p .off
        (l := { (s.lamp p).setFeed 0 with state := .out, fault := .arcOut, outCount := 0 }) .arcOut (by simp)
      exact ⟨out.lamp, out.lamps, out.roles, out.touched⟩
  case h_3 h => exact dark (.inl h)
  case h_4 h => exact dark (.inr (.inl h))
  case h_5 h => exact dark (.inr (.inr h))

end

/-! ### A fresh report from a PRESENT station (R29, R31) -/

section

variable {s : State} {p : Projector}

theorem State.setMark_self {k : Option Nat} (h : s.mark p = k) : s.setMark p k = s := by
  rw [State.setMark, upd_self _ _ _ h.symm]

/-- A mark count that makes no mark event is remembered. -/
theorem State.onMarkCount_of_quiet {k : Nat} (quiet : s.role p ≠ .onScreen ∨ s.mark p = none ∨ s.mark p = some k) :
    s.onMarkCount p k = s.setMark p (some k) := by
  unfold State.onMarkCount
  split
  · rfl
  · rename_i old known
    split
    · rename_i same
      rw [State.setMark_self (known.trans (congrArg some same))]
    · rename_i other
      have unseen : s.role p ≠ .onScreen := by
        refine quiet.resolve_right ?_
        rw [known]
        rintro (none | same)
        · exact nomatch none
        · exact other (Option.some.inj same)
      exact if_pos unseen

/-- What a fresh report that makes no mark event makes of the lamp, and what it leaves. -/
theorem State.measured_of_quiet {x : Report} (quiet : s.role p ≠ .onScreen ∨ s.mark p = none ∨ s.mark p = some x.marks) :
    s.SamplesLamp p ((s.lamp p).sampled x.volts x.amps) (s.measured p true x) := by
  obtain ⟨lamp, ⟨others, trip⟩, roles, touched⟩ := s.samplesLamp_sample p x.volts x.amps
  have role : (s.sample p x.volts x.amps).role p = s.role p := by rw [State.role, roles]; rfl
  have mark : (s.sample p x.volts x.amps).mark p = s.mark p := by
    rw [State.mark, (s.line_sample p x.volts x.amps).marks]; rfl
  have handed : s.handMeasured p true x = (s.sample p x.volts x.amps).setMark p (some x.marks) :=
    State.onMarkCount_of_quiet (by rwa [role, mark])
  rw [State.measured, handed]
  refine ⟨?_, ⟨fun q hq => ?_, ?_⟩, ?_, ?_⟩
  · simp [lamp]
  · simp [others q hq]
  · simp [trip]
  · simp [roles]
  · exact (touched.trans (by simp [onlyTouches])).trans ((State.touches_examine ..).mono (by simp))

/-! ### A report taken and handed on (R28 to R31) -/

theorem State.station_of_own {s t : State} (own : t.lc.own = s.lc.own) (q : Projector) :
    t.station q = { s.station q with desired := (t.station q).desired } := LineControl.own_station own q

/-- The state after the report `x` of a station PRESENT in `g`. -/
def State.heard (g : State) (p : Projector) (toggle : Bool) (x : Report) : State :=
  ((g.reported p toggle x).measured p (toggle = (g.station p).expectedToggle) x).flameFlag p x.gateFlame

theorem State.station_reported (g : State) (p q : Projector) (toggle : Bool) (x : Report) :
    (g.reported p toggle x).station q =
      if p = q then (g.station q).takeReport (toggle = (g.station q).expectedToggle) x else g.station q := by
  unfold State.reported
  rw [State.station_onStation]
  by_cases h : p = q
  · subst h; rfl
  · simp [h]

/-- The stations, the window and the marks after a report. -/
theorem State.heard_reads (g : State) (p : Projector) (toggle : Bool) (x : Report) :
    (g.heard p toggle x).station p =
        { (g.station p).takeReport (toggle = (g.station p).expectedToggle) x with
          desired := ((g.heard p toggle x).station p).desired }
      ∧ (∀ q, q ≠ p → (g.heard p toggle x).station q =
          { g.station q with desired := ((g.heard p toggle x).station q).desired })
      ∧ (g.heard p toggle x).lc.window = .opened p (.good (some x.blade))
      ∧ (∀ q, (g.heard p toggle x).mark q =
          if p = q ∧ toggle = (g.station p).expectedToggle then some x.marks else g.mark q) := by
  obtain ⟨own, marks⟩ := (g.reported p toggle x).measured_reads p (toggle = (g.station p).expectedToggle) x
  have flame := ((g.reported p toggle x).measured p (toggle = (g.station p).expectedToggle) x).reports_flameFlag p x.gateFlame
  have station : ∀ q, (g.heard p toggle x).station q =
      { (g.reported p toggle x).station q with desired := ((g.heard p toggle x).station q).desired } := fun q => by
    have kept := flame.station q
    rw [State.station_of_own own q] at kept
    exact kept
  refine ⟨?_, fun q hq => ?_, ?_, fun q => ?_⟩
  · rw [station, State.station_reported, if_pos rfl]
  · rw [station, State.station_reported, if_neg hq.symm]
  · rw [State.heard, flame.window, LineControl.own_fields own]
    rfl
  · have mark : (g.heard p toggle x).mark q =
        ((g.reported p toggle x).measured p (toggle = (g.station p).expectedToggle) x).mark q := by
      rw [State.mark, State.heard, flame.marks]; rfl
    rw [mark, marks]
    simp only [decide_eq_true_eq]
    rfl

theorem Station.takeReport_fresh (r : Station) (x : Report) :
    r.takeReport true x = { r with lastReport := some x, reportOld := false, expectedToggle := !r.expectedToggle } := rfl

theorem Station.takeReport_stale (r : Station) (x : Report) : r.takeReport false x = { r with
    lastReport := some (match r.lastReport with | some old => old.withLive x | none => x.unmeasured) } := rfl

/-- A stale report without flame hands nothing on but the examination of the incoming. -/
theorem State.heard_of_stale {g : State} {toggle : Bool} {x : Report} (stale : toggle ≠ (g.station p).expectedToggle)
    (clear : x.gateFlame = .clear) : g.heard p toggle x = (g.reported p toggle x).examine (screenOf p) := by
  rw [State.heard, clear, State.flameFlag_clear, decide_eq_false stale]
  rfl

theorem State.heard_of_fresh {g : State} {toggle : Bool} {x : Report} (fresh : toggle = (g.station p).expectedToggle)
    (clear : x.gateFlame = .clear) : g.heard p toggle x = (g.reported p toggle x).measured p true x := by
  rw [State.heard, clear, State.flameFlag_clear, decide_eq_true fresh]

end

/-! ### The obligations -/

/-- The state in which a PRESENT station has answered a poll, before its report is taken. -/
def State.answered (s : State) (p : Projector) : State := s.pollSent.onStation p (fun r => { r with missRun := 0 })

theorem State.station_answered (s : State) (p q : Projector) :
    (s.answered p).station q = if p = q then { s.station q with missRun := 0 } else s.station q := by
  by_cases h : p = q
  · subst h; simp [State.answered]
  · simp [State.answered, h]

theorem exec_replyReceived_present {s : State} {p : Projector} {begun : Nat} {signal : List Nat} {toggle : Bool}
    {x : Report} (heard : heardReply p begun signal toggle (some x) s) (present : (s.station p).presence = .present) :
    exec (.replyReceived begun signal) s = .next ((s.answered p).heard p toggle x) := by
  have good : s.pollSent.goodReply p = s.answered p := State.goodReply_of_present (by simpa using present)
  have stays : ((s.pollSent.goodReply p).station p).presence = .present := by
    rw [good, State.station_answered, if_pos rfl]; exact present
  rw [exec_replyReceived_heard heard, State.takeReply_of_present stays, good]
  rfl

/-- Settles O19: the station's record is taken fresh or stale by its toggle, and handed on accordingly. -/
theorem reportsAreFreshOrStale : Obligations.ReportsAreFreshOrStale := by
  intro p begun signal x toggle s heard present
  obtain ⟨station, others, window, marks⟩ := (s.answered p).heard_reads p toggle x
  have record : (s.answered p).station p = { s.station p with missRun := 0 } := by
    rw [State.station_answered, if_pos rfl]
  rw [record] at station marks
  refine ⟨_, exec_replyReceived_present heard present, ?_, ?_, ?_, ?_, window, fun fresh => ?_, fun stale => ?_,
    fun q hq => ?_, fun clear => ?_, fun clear unseen => ?_⟩
  · rw [station]; unfold Station.takeReport; split <;> exact present
  · rw [station]; unfold Station.takeReport; split <;> rfl
  · rw [station]; unfold Station.takeReport; split <;> rfl
  · rw [station]; unfold Station.takeReport; split <;> rfl
  · rw [decide_eq_true fresh, Station.takeReport_fresh] at station
    exact ⟨by rw [station], by rw [station], by rw [station], (marks p).trans (if_pos ⟨rfl, fresh⟩)⟩
  · rw [decide_eq_false stale, Station.takeReport_stale] at station
    refine ⟨by rw [station], by rw [station], (marks p).trans (if_neg fun h => stale h.2), fun old known => ?_,
      fun unknown => ?_, fun clear => ?_⟩
    · rw [station]; simp only [known]; rfl
    · rw [station]; simp only [unknown]; rfl
    · rw [State.heard_of_stale (by rw [record]; exact stale) clear]
      refine ⟨by simp [State.reported, State.answered], ?_⟩
      rw [State.examine_station, State.station_reported, if_pos rfl, record]
      unfold Station.takeReport
      split <;> rfl
  · rw [others q hq, marks q, if_neg fun h => hq h.1.symm, State.station_answered, if_neg hq.symm]
    exact ⟨rfl, rfl, rfl⟩
  · rw [State.heard, clear, State.flameFlag_clear]
    have act := ((s.answered p).reported p toggle x).act_handMeasured p
      (toggle = ((s.answered p).station p).expectedToggle) x
    rw [State.measured, State.examine_fu, act.fu]
    rfl
  · by_cases fresh : toggle = ((s.answered p).station p).expectedToggle
    · rw [State.heard_of_fresh fresh clear]
      obtain ⟨mu, -, -, -, hu, -⟩ := (State.measured_of_quiet (s := (s.answered p).reported p toggle x) (x := x)
        (.inl unseen)).touched
      exact ⟨mu (by simp), hu (by simp)⟩
    · rw [State.heard_of_stale fresh clear]
      simp [State.reported, State.answered]

end Sys2Proof.Machine
end

section
/-! PROOF. What the samples of a BURNING lamp regulate, and how presence follows the replies (spec/02 R27, spec/03 R47 to
R55). -/

namespace Sys2Proof.Machine

/-! ### Regulation (R52, R54, R55) -/

section

variable {l : Lamp} (volts amps : Nat)

theorem Lamp.regulated_eq : ((l.regulated volts amps : Nat) : Int) =
    if l.carbon = 0 then 0 else max 0 (min (l.feedSum volts amps) (l.fmax : Int)) := by
  unfold Lamp.regulated
  split
  · rfl
  · omega

/-- A lamp that a sample leaves BURNING is regulated by it. -/
theorem Lamp.sampled_burning (burning : (l.sampled volts amps).state = .burning) :
    (l.sampled volts amps).feedRate = l.regulated volts amps
      ∧ (l.sampled volts amps).feedTimer = setFeedTimer l.feedTimer (l.regulated volts amps) := by
  cases state : l.state with
  | striking =>
    rw [Lamp.sampled_of_striking _ _ state] at burning ⊢
    split_ifs at burning ⊢
    · exact absurd (state.symm.trans burning) (by decide)
    · exact absurd (state.symm.trans burning) (by decide)
    · exact ⟨rfl, rfl⟩
  | burning =>
    rw [Lamp.sampled_of_burning _ _ state] at burning ⊢
    split_ifs at burning ⊢
    · exact ⟨rfl, rfl⟩
    · exact ⟨rfl, rfl⟩
  | cold =>
    rw [Lamp.sampled_of_dark _ _ (.inl state)] at burning
    exact absurd (state.symm.trans burning) (by decide)
  | out =>
    rw [Lamp.sampled_of_dark _ _ (.inr (.inl state))] at burning
    exact absurd (state.symm.trans burning) (by decide)
  | fault =>
    rw [Lamp.sampled_of_dark _ _ (.inr (.inr state))] at burning
    exact absurd (state.symm.trans burning) (by decide)

/-- A BURNING lamp that a sample puts OUT has no feed. -/
theorem Lamp.sampled_out (burning : l.state = .burning) (out : (l.sampled volts amps).state ≠ .burning) :
    (l.sampled volts amps).feedTimer = none := by
  rw [Lamp.sampled_of_burning _ _ burning] at out ⊢
  split_ifs at out ⊢
  · exact absurd burning out
  · exact absurd burning out
  · rfl

end

/-! ### The notices of a sample (R47, R49) -/

section

variable {s : State} {p : Projector} {volts amps : Nat}

theorem State.noticed_sample_struck (striking : (s.lamp p).state = .striking) (strong : (s.lamp p).ir ≤ 2 * amps)
    (third : 2 ≤ (s.lamp p).strikeCount) : noticed (noticeLampAttention p) s (s.sample p volts amps) := by
  have reached : ¬(s.lamp p).strikeCount + 1 < Config.strikeSamples := Nat.not_lt.mpr (Nat.succ_le_succ third)
  simp only [State.sample, striking, State.sampleStriking]
  rw [if_neg (Nat.not_lt.mpr strong), if_neg reached]
  exact State.noticed_lampAttention (State.act_handLamp _ _ _).routes (State.Act.refl _)

theorem State.sample_arcOut (burning : (s.lamp p).state = .burning) (weak : 4 * amps < (s.lamp p).ir)
    (fifth : 4 ≤ (s.lamp p).outCount) : noticed (noticeLampAttention p) s (s.sample p volts amps)
      ∧ ((s.sample p volts amps).station p).desired.arc = .off := by
  have reached : ¬(s.lamp p).outCount + 1 < Config.arcOutSamples := Nat.not_lt.mpr (Nat.succ_le_succ fifth)
  simp only [State.sample, burning, State.sampleBurning]
  rw [if_neg (Nat.not_le.mpr weak), if_neg reached]
  have out := s.movesLamp_lampMoved p .off
    (l := { (s.lamp p).setFeed 0 with state := .out, fault := .arcOut, outCount := 0 }) .arcOut (by simp)
  refine ⟨out.noticed, ?_⟩
  have station := congrArg (fun r => r.desired.arc) out.station
  exact station

theorem noticed.measured {k : Notice} {x : Report} (h : noticed k s (s.sample p x.volts x.amps)) :
    noticed k s (s.measured p true x) :=
  (h.andAct (State.act_onMarkCount _ p x.marks)).andAct (State.act_examine _ _)

/-- The desired state that a quiet report's sample leaves. -/
theorem State.desired_measured {x : Report}
    (quiet : s.role p ≠ .onScreen ∨ s.mark p = none ∨ s.mark p = some x.marks) :
    ((s.measured p true x).station p).desired = ((s.sample p x.volts x.amps).station p).desired := by
  obtain ⟨-, -, roles, -⟩ := s.samplesLamp_sample p x.volts x.amps
  have role : (s.sample p x.volts x.amps).role p = s.role p := by rw [State.role, roles]; rfl
  have mark : (s.sample p x.volts x.amps).mark p = s.mark p := by
    rw [State.mark, (s.line_sample p x.volts x.amps).marks]; rfl
  have handed : s.handMeasured p true x = (s.sample p x.volts x.amps).setMark p (some x.marks) :=
    State.onMarkCount_of_quiet (by rwa [role, mark])
  rw [State.measured, handed]
  simp

end

/-- Settles O29: the lamp's record is `Lamp.sampled`, read off by the lamp's state. -/
theorem freshSamplesStrikeRegulateAndFindArcOut : Obligations.FreshSamplesStrikeRegulateAndFindArcOut := by
  intro p begun signal x s heard present clear quiet
  have fresh : (s.station p).expectedToggle = ((s.answered p).station p).expectedToggle := by
    rw [State.station_answered, if_pos rfl]
  have taken := exec_replyReceived_present heard present
  rw [State.heard_of_fresh fresh clear] at taken
  have samples := State.measured_of_quiet (s := (s.answered p).reported p (s.station p).expectedToggle x) (x := x) quiet
  have arc := State.desired_measured (s := (s.answered p).reported p (s.station p).expectedToggle x) (x := x) quiet
  obtain ⟨lamp, others, -, touched⟩ := samples
  refine ⟨_, taken, ?_, others, (?_ : onlyTouches _ s _).trans touched⟩
  · dsimp only
    rw [lamp]
    have record : ((s.answered p).reported p (s.station p).expectedToggle x).lamp p = s.lamp p := rfl
    rw [record]
    have rate := Lamp.regulated_eq (l := s.lamp p) x.volts x.amps
    refine ⟨Lamp.sampled_of_dark _ _, fun striking weak => ?_, fun striking strong early => ?_,
      fun striking strong third => ?_, fun burning strong => ?_, fun burning weak early => ?_,
      fun burning weak fifth => ?_, fun zero lit => ?_, fun burning positive stopped => ?_,
      fun old running burning positive => ?_⟩
    · rw [Lamp.sampled_of_striking _ _ striking, if_pos weak]
    · rw [Lamp.sampled_of_striking _ _ striking, if_neg (Nat.not_lt.mpr strong), if_pos early]
    · rw [Lamp.sampled_of_striking _ _ striking, if_neg (Nat.not_lt.mpr strong), if_neg (Nat.not_lt.mpr third)]
      refine ⟨rfl, rfl, rfl, rfl, rate, rfl, ?_, rfl⟩
      exact (State.noticed_sample_struck (s := (s.answered p).reported p (s.station p).expectedToggle x) striking
        strong third).measured
    · rw [Lamp.sampled_of_burning _ _ burning, if_pos strong]
      exact ⟨burning, rfl, rate, rfl, rfl⟩
    · rw [Lamp.sampled_of_burning _ _ burning, if_neg (Nat.not_le.mpr weak), if_pos early]
      exact ⟨burning, rfl, rate, rfl⟩
    · have out := State.sample_arcOut (s := (s.answered p).reported p (s.station p).expectedToggle x)
        (volts := x.volts) burning weak fifth
      rw [Lamp.sampled_of_burning _ _ burning, if_neg (Nat.not_le.mpr weak), if_neg (Nat.not_lt.mpr fifth)]
      exact ⟨rfl, rfl, rfl, rfl, rfl, rfl, by rw [arc]; exact out.2, out.1.measured⟩
    · by_cases burning : ((s.lamp p).sampled x.volts x.amps).state = .burning
      · obtain ⟨same, timer⟩ := Lamp.sampled_burning _ _ burning
        rw [timer, ← same, zero]
        rfl
      · exact Lamp.sampled_out _ _ (lit.resolve_right burning) burning
    · obtain ⟨same, timer⟩ := Lamp.sampled_burning _ _ burning
      rw [timer, ← same, stopped, setFeedTimer, if_neg (Nat.ne_of_gt positive)]
      rfl
    · obtain ⟨same, timer⟩ := Lamp.sampled_burning _ _ burning
      rw [timer, ← same, running, setFeedTimer, if_neg (Nat.ne_of_gt positive)]
      rfl
  · simp [onlyTouches, State.reported, State.answered]

end Sys2Proof.Machine
end

section
/-! PROOF. Presence by the replies and the misses, and frames that are no good reply (spec/02 R22, R26, R27). -/

namespace Sys2Proof.Machine

/-! ### What stands pending stays so through a trip (R143, R165) -/

/-- From `s` to `t` every port keeps what it had pending. -/
def State.Grows (s t : State) : Prop := ∀ i, (s.port i).grownTo (t.port i)

theorem State.Grows.trans {s t u : State} (a : s.Grows t) (b : t.Grows u) : s.Grows u := fun i =>
  PortRecord.grownTo_trans (a i) (b i)

theorem State.Grows.of_pu {s t : State} (h : t.pu = s.pu) : s.Grows t := fun i => .inl (by rw [State.port, h]; rfl)

theorem State.Act.grows {s t : State} (a : s.Act t) : s.Grows t := a.ports

theorem noticed.andGrow {k : Notice} {s t u : State} (h : noticed k s t) (a : t.Grows u) : noticed k s u :=
  fun n routed => PortRecord.getLsbD_grownTo (a n) k.val (h n routed)

section

variable (s : State)

theorem State.grows_raise (k : Notice) : s.Grows (s.raise k) := (s.act_raise k).grows

theorem State.grows_lineTrip : s.Grows s.lineTrip :=
  (show s.Grows s.lineStopped from .of_pu rfl).trans s.act_lineStopped_lineTrip.grows

theorem State.grows_lampUnitTrip : s.Grows s.lampUnitTrip :=
  (show s.Grows s.lampsTripped from .of_pu rfl).trans s.act_lampsTripped_lampUnitTrip.grows

theorem State.grows_showTrip : s.Grows s.showTrip :=
  (show s.Grows s.showTripped from .of_pu rfl).trans s.act_showTripped_showTrip.grows

theorem State.grows_houseTrip : s.Grows s.houseTrip := .of_pu rfl

theorem State.grows_signalTrip : s.Grows s.signalTrip :=
  ((s.grows_lineTrip.trans (State.grows_lampUnitTrip _)).trans (State.grows_showTrip _)).trans
    (State.grows_houseTrip _)

theorem State.grows_shutTest : s.Grows s.shutTest := by
  unfold State.shutTest
  split
  · exact .of_pu rfl
  · split
    · exact (State.Grows.of_pu rfl).trans (State.grows_raise _ _)
    · exact .of_pu rfl
  · split <;> exact .of_pu rfl

theorem State.grows_tripped (c : Cause) : (s.fireTripped c).Grows (s.enterTrip c) := by
  rw [State.enterTrip_eq]
  exact (((s.fireTripped c).grows_signalTrip).trans (State.act_handTripShutters _ s.fu).grows).trans
    (State.grows_shutTest _)

theorem State.grows_enterTrip (c : Cause) : s.Grows (s.enterTrip c) :=
  (show s.Grows (s.fireTripped c) from (State.Grows.of_pu rfl).trans (State.grows_raise _ _)).trans (s.grows_tripped c)

theorem State.grows_takeCause (c : Cause) : s.Grows (s.takeCause c) := by
  have recorded : s.Grows (if c ∈ s.fu.causes then s
      else (s.setCauses (s.fu.causes ++ [c])).raise noticeTripCauseAdded) := by
    split
    · exact .of_pu rfl
    · exact (State.Grows.of_pu rfl).trans (State.grows_raise _ _)
  unfold State.takeCause
  split
  · exact s.grows_enterTrip c
  · exact recorded
  · exact recorded

theorem State.grows_flameFlag (p : Projector) (flag : Sensor) : s.Grows (s.flameFlag p flag) := by
  unfold State.flameFlag
  split
  · exact s.grows_takeCause _
  · exact .of_pu rfl

end

section

variable {s : State} {p : Projector} {begun : Nat} {signal : List Nat} {toggle : Bool}

/-! ### Good replies of a station not PRESENT -/

/-- The state after the first good reply in a row of a station not PRESENT. -/
def State.answeredOnce (s : State) (p : Projector) : State := s.pollSent.onStation p (fun r => { r with goodRun := 1 })

theorem State.station_answeredOnce (q : Projector) :
    (s.answeredOnce p).station q = if p = q then { s.station q with goodRun := 1 } else s.station q := by
  by_cases h : p = q
  · subst h; simp [State.answeredOnce]
  · simp [State.answeredOnce, h]

theorem State.station_nowPresent (q : Projector) :
    (s.pollSent.nowPresent p).station q = if p = q then (s.station q).found else s.station q := by
  by_cases h : p = q
  · subst h; simp [State.nowPresent]
  · simp [State.nowPresent, h]

theorem State.mark_nowPresent : (s.pollSent.nowPresent p).mark p = none := by simp [State.nowPresent]

theorem State.noticed_nowPresent : noticed noticeStationPresent s (s.pollSent.nowPresent p) := by
  have marked : (((s.pollSent.onStation p Station.found).raise noticeStationPresent).Act
      (s.pollSent.nowPresent p)) :=
    ((State.act_onLamp _ p _).andThen fun u => u.act_setMark p none).andThen fun u => u.act_examine _
  refine noticed_of_raise ?_ marked
  rfl

theorem noticed.heard {k : Notice} {g : State} {x : Report} (h : noticed k s g) : noticed k s (g.heard p toggle x) := by
  refine h.andGrow ?_
  have reported : g.Grows (g.reported p toggle x) := .of_pu rfl
  have measured := ((g.reported p toggle x).act_handMeasured p (toggle = (g.station p).expectedToggle) x).andThen
    fun u => u.act_examine (screenOf p)
  exact (reported.trans measured.grows).trans (State.grows_flameFlag _ p x.gateFlame)

theorem State.goodReply_first (absent : (s.station p).presence ≠ .present) (first : (s.station p).goodRun = 0) :
    s.pollSent.goodReply p = s.answeredOnce p :=
  State.goodReply_of_first (by simpa using absent) (by simpa using first)

theorem State.goodReply_second (absent : (s.station p).presence ≠ .present) (second : 1 ≤ (s.station p).goodRun) :
    s.pollSent.goodReply p = s.pollSent.nowPresent p :=
  State.goodReply_of_second (by simpa using absent) (by simpa using second)

/-! ### Frames that are no good reply (R22, R26) -/

theorem State.receiveFrame_of_outside (h : begun < 872 ∨ 5000 < begun + signalTime signal) :
    s.receiveFrame begun signal = s := by
  unfold State.receiveFrame
  split
  · rfl
  · rename_i started
    have late : endsInSlot begun signal = false :=
      decide_eq_false (Nat.not_le.mpr (h.resolve_left started))
    rw [late]
    rfl

theorem State.receiveFrame_of_inside (started : 872 ≤ begun) (ended : begun + signalTime signal ≤ 5000) :
    s.receiveFrame begun signal = s.pollSent.judgeFrame begun signal := by
  rw [State.receiveFrame, if_neg (show ¬begun < Config.pollTime from Nat.not_lt.mpr started),
    if_pos (show endsInSlot begun signal = true from decide_eq_true ended)]

theorem goodReplyOf_eq_none (other : ∀ r, replyOf signal = some r → r.address ≠ numberOf p) :
    goodReplyOf p signal = none := by
  unfold goodReplyOf
  cases h : replyOf signal with
  | none => rfl
  | some r => exact if_neg (other r h)

/-- Where no window is awaiting a reply, a poll's last cell included, a frame changes nothing. -/
theorem State.receiveFrame_of_no_window (h : ∀ q, s.lc.pollSent.window ≠ .opened q .awaiting) :
    s.receiveFrame begun signal = s := by
  have sent : s.pollSent = s := by
    unfold State.pollSent
    rw [LineControl.pollSent_of_not_poll]
    intro q d polling
    exact h q (by rw [LineControl.pollSent_of_poll _ polling])
  have shut : ∀ q, s.lc.window ≠ .opened q .awaiting := by rwa [← State.pollSent_lc, sent] at h
  unfold State.receiveFrame
  split
  · rfl
  split
  · rw [sent]
    unfold State.judgeFrame
    split
    · rename_i q awaiting
      exact absurd awaiting (shut q)
    · rfl
  · rfl

/-! ### A window's end as a miss (R26, R27) -/

theorem State.watches_miss (s : State) (p : Projector) : (s.miss p).lc.watches = s.lc.watches := by
  unfold State.miss
  dsimp only
  split
  · rfl
  · rw [LineControl.own_fields (State.own_handPresence ..)]
    rfl

theorem State.endWindow_of_missed (missed : s.lc.pollSent.window = .opened p .awaiting
    ∨ s.lc.pollSent.window = .opened p .bad) (unwatched : s.watch (screenOf p) = .closed) :
    s.endWindow = (s.pollSent.setWindow .closed).miss p := by
  have closed : ((s.pollSent.setWindow .closed).miss p).watch (screenOf p) = .closed := by
    rw [State.watch, State.watches_miss, ← unwatched]
    exact s.pollSent_watch _
  have judged : ((s.pollSent.setWindow .closed).miss p).judgePoll p none = (s.pollSent.setWindow .closed).miss p := by
    simp only [State.judgePoll, closed, Watch.judge]
  rw [State.endWindow, State.judgeWindow, State.pollSent_lc]
  rcases missed with h | h <;> rw [h] <;> exact judged

/-- What the loss of a station writes. -/
theorem State.miss_third_reads (present : (s.station p).presence = .present) (third : 2 ≤ (s.station p).missRun) :
    (s.miss p).station p = { (s.station p).lostNow with desired := ((s.miss p).station p).desired }
      ∧ noticed noticeStationLost s (s.miss p) ∧ (s.miss p).lamp p = (s.lamp p).held ∧ otherLampsKept p s (s.miss p)
      ∧ (¬(s.role p).readying → (s.miss p).role p = s.role p
          ∧ ((s.miss p).station p).desired = (s.station p).desired ∧ (s.miss p).mu = s.mu)
      ∧ ((s.role p).readying → (s.miss p).role p = .idle ∧ ((s.miss p).station p).desired.motor = .stop
          ∧ ((s.miss p).station p).desired.douser = .closed ∧ ((s.miss p).motion p).framesRemaining = 0
          ∧ ((s.miss p).motion p).watch = none ∧ noticed (noticeArmWithdrawn (screenOf p)) s (s.miss p)
          ∧ (∀ r, s.reelOf p .loaded = some r →
              (s.miss p).reel (screenOf p) r = (s.reel (screenOf p) r).withState .listed))
      ∧ (∀ q, q ≠ p → (s.miss p).station q = s.station q ∧ (s.miss p).role q = s.role q)
      ∧ (s.miss p).hu = s.hu ∧ (s.miss p).fu = s.fu := by
  have station : ∀ q, (s.nowLost p).station q = if p = q then (s.station q).lostNow else s.station q := fun q => by
    by_cases h : p = q
    · subst h; simp [State.nowLost]
    · simp [State.nowLost, h]
  have lamp : ∀ q, (s.nowLost p).lamp q = if p = q then (s.lamp q).held else s.lamp q := fun q => by
    by_cases h : p = q
    · subst h; simp [State.nowLost]
    · simp [State.nowLost, h]
  have notice : noticed noticeStationLost s (s.miss p) := by
    rw [State.miss_of_third present third]
    refine noticed_of_raise (t := s.onStation p Station.lostNow) ?_ (((State.act_onLamp _ p _).andThen fun u =>
      u.act_withdrawIf p true).andThen fun u => u.act_examine _)
    rfl
  have own : ((s.nowLost p).withdrawIf p true).lc.own = (s.nowLost p).lc.own := (State.line_withdrawIf _ p true).own
  have record := State.station_of_own own p
  rw [station, if_pos rfl] at record
  rw [State.miss_of_third present third] at notice ⊢
  by_cases readying : (s.role p).readying
  · have withdrawn : (s.nowLost p).withdrawIf p true = (s.nowLost p).withdraw p :=
      if_pos ((Bool.true_and _).trans ((Role.readying_iff _).mp readying))
    rw [withdrawn] at notice record ⊢
    obtain ⟨idle, motor, douser, frames, watch, reels⟩ := (s.nowLost p).withdraw_reads p
    obtain ⟨others, lu, hu, fu⟩ := (s.nowLost p).withdraw_keeps p
    have routes : (s.nowLost p).pu.routes = s.pu.routes := rfl
    refine ⟨?_, notice, ?_, ⟨fun q hq => ?_, ?_⟩, fun rest => absurd readying rest, fun _ => ⟨?_, ?_, ?_, ?_, ?_, ?_,
      fun r found => ?_⟩, fun q hq => ⟨?_, ?_⟩, ?_, ?_⟩
    · rw [State.examine_station]; exact record
    · rw [State.examine_lamp, State.lamp, lu]; exact (lamp p).trans (if_pos rfl)
    · rw [State.examine_lamp, State.lamp, lu]; exact (lamp q).trans (if_neg hq.symm)
    · rw [State.examine_lu, lu]; rfl
    · rw [State.examine_role, idle]
    · rw [State.examine_station, motor]
    · rw [State.examine_station, douser]
    · rw [State.examine_motion, frames]
    · rw [State.examine_motion, watch]
    · exact (((s.nowLost p).noticed_withdraw p).before routes).andAct (State.act_examine _ _)
    · rw [State.examine_reel]; exact reels r found
    · rw [State.examine_station, (others q hq).1, station, if_neg hq.symm]
    · rw [State.examine_role, (others q hq).2.1]; rfl
    · rw [State.examine_hu, hu]; rfl
    · rw [State.examine_fu, fu]; rfl
  · have stays : (s.nowLost p).withdrawIf p true = s.nowLost p :=
      if_neg fun h => readying ((Role.readying_iff _).mpr ((Bool.true_and _).symm.trans h))
    rw [stays] at notice record ⊢
    refine ⟨?_, notice, ?_, ⟨fun q hq => ?_, ?_⟩, fun _ => ⟨?_, ?_, ?_⟩, fun ready => absurd ready readying,
      fun q hq => ⟨?_, ?_⟩, ?_, ?_⟩
    · rw [State.examine_station]; exact record
    · rw [State.examine_lamp, lamp, if_pos rfl]
    · rw [State.examine_lamp, lamp, if_neg hq.symm]
    · rw [State.examine_lu]; rfl
    · rw [State.examine_role]; rfl
    · rw [State.examine_station, station, if_pos rfl]; rfl
    · rw [State.examine_mu]; rfl
    · rw [State.examine_station, station, if_neg hq.symm]
    · rw [State.examine_role]; rfl
    · rw [State.examine_hu]; rfl
    · rw [State.examine_fu]; rfl

end

/-! ### The obligation -/

/-- Settles O20: each reply, miss and discarded frame by the case of R22, R26 and R27 it is. -/
theorem presenceFollowsTheReplies : Obligations.PresenceFollowsTheReplies := by
  intro p begun signal toggle x s
  refine ⟨fun heard absent => ?_, fun heard absent first => ?_, fun heard absent second => ?_, fun outside => ?_,
    fun awaiting late ended => ?_, fun inside ended other => ?_, fun shut => ?_, fun closed => ?_,
    fun missed unwatched => ?_⟩
  · refine ⟨_, (exec_replyReceived_heard heard).trans (congrArg _ State.takeReply_bare), rfl, fun first => ?_,
      fun second => ?_, fun q hq => ?_⟩
    · rw [State.goodReply_first absent first]
      refine ⟨?_, by simp [onlyTouches, State.answeredOnce]⟩
      rw [State.setWindow_station, State.station_answeredOnce, if_pos rfl]
    · rw [State.goodReply_second absent second]
      refine ⟨?_, ?_, ?_, ?_, ⟨fun q hq => ?_, ?_⟩, ?_⟩
      · rw [State.setWindow_station, State.station_nowPresent, if_pos rfl]; rfl
      · exact State.noticed_nowPresent.andAct (State.act_setWindow _ _)
      · simp [State.nowPresent]
      · simp [State.nowPresent]
      · simp [State.nowPresent, hq.symm]
      · simp [State.nowPresent]
      · simp [State.nowPresent, onlyTouches]
    · by_cases first : (s.station p).goodRun = 0
      · rw [State.goodReply_first absent first, State.setWindow_station, State.station_answeredOnce, if_neg hq.symm]
      · rw [State.goodReply_second absent (Nat.pos_of_ne_zero first), State.setWindow_station,
          State.station_nowPresent, if_neg hq.symm]
  · have stays : ((s.pollSent.goodReply p).station p).presence ≠ .present := by
      rw [State.goodReply_first absent first, State.station_answeredOnce, if_pos rfl]; exact absent
    have taken := (exec_replyReceived_heard heard).trans (congrArg _ (State.takeReply_of_not_present stays))
    rw [State.goodReply_first absent first] at taken
    have kept := ((s.answeredOnce p).setWindow (.opened p (.good none))).reports_flameFlag p x.gateFlame
    have record := kept.station p
    rw [State.setWindow_station, State.station_answeredOnce, if_pos rfl] at record
    refine ⟨_, taken, kept.window, by rw [record], by rw [record], by rw [record], by rw [record], by rw [record], ?_,
      fun clear => ?_, fun flame => ?_⟩
    · rw [State.mark, kept.marks]; rfl
    · rw [clear, State.flameFlag_clear, State.setWindow_station, State.station_answeredOnce, if_pos rfl]
      exact ⟨rfl, by simp [onlyTouches, State.answeredOnce]⟩
    · rw [State.flameFlag, if_pos flame]
      exact State.mem_causes_takeCause _ _
  · have stays : ((s.pollSent.goodReply p).station p).presence = .present := by
      rw [State.goodReply_second absent second, State.station_nowPresent, if_pos rfl]; rfl
    have taken : exec (.replyReceived begun signal) s = .next ((s.pollSent.nowPresent p).heard p toggle x) := by
      rw [exec_replyReceived_heard heard, State.takeReply_of_present stays, State.goodReply_second absent second]
      rfl
    obtain ⟨record, -, window, marks⟩ := (s.pollSent.nowPresent p).heard_reads p toggle x
    have found : (s.pollSent.nowPresent p).station p = (s.station p).found := by
      rw [State.station_nowPresent, if_pos rfl]
    rw [found] at record marks
    refine ⟨_, taken, window, ?_, ?_, ?_, ?_, fun fresh => ?_, fun stale => ?_⟩
    · rw [record]; unfold Station.takeReport; split <;> rfl
    · rw [record]; unfold Station.takeReport; split <;> rfl
    · rw [record]; unfold Station.takeReport; split <;> rfl
    · exact State.noticed_nowPresent.heard
    · have now : toggle = (s.station p).found.expectedToggle := fresh
      rw [decide_eq_true now, Station.takeReport_fresh] at record
      exact ⟨by rw [record], by rw [record], by rw [record]; rfl, (marks p).trans (if_pos ⟨rfl, fresh⟩)⟩
    · have now : ¬toggle = (s.station p).found.expectedToggle := stale
      rw [decide_eq_false now, Station.takeReport_stale] at record
      refine ⟨by rw [record]; rfl, ?_, by rw [record]; rfl, fun old known => ?_⟩
      · exact (marks p).trans ((if_neg fun h => stale h.2).trans State.mark_nowPresent)
      · have last : (s.station p).found.lastReport = some old := known
        rw [record]; simp only [last]; rfl
  · exact congrArg Host.Outcome.next (State.receiveFrame_of_outside outside)
  · refine congrArg Host.Outcome.next ((State.receiveFrame_of_inside (by omega) ended).trans ?_)
    have passed : Config.pollTime + Config.replyStart < begun := late
    simp only [State.judgeFrame, State.pollSent_lc, awaiting, passed, if_true]
    rfl
  · obtain ⟨awaiting, started, early⟩ := inside
    refine congrArg Host.Outcome.next ((State.receiveFrame_of_inside started ended).trans ?_)
    have inTime : ¬Config.pollTime + Config.replyStart < begun := Nat.not_lt.mpr early
    simp only [State.judgeFrame, State.pollSent_lc, awaiting, inTime, if_false, goodReplyOf_eq_none other]
    rfl
  · exact congrArg Host.Outcome.next (State.receiveFrame_of_no_window shut)
  · have sent : s.pollSent = s := by
      unfold State.pollSent
      rw [LineControl.pollSent_of_not_poll]
      intro q d polling
      rw [LineControl.pollSent_of_poll _ polling] at closed
      exact nomatch closed
    refine congrArg Host.Outcome.next ?_
    rw [State.endWindow, State.judgeWindow, State.pollSent_lc, closed]
    exact sent
  · have ended := State.endWindow_of_missed missed unwatched
    have window : s.endWindow.lc.window = .closed := by
      rw [ended]; exact (State.keepsSlot_miss _ p).window
    have watches : s.endWindow.lc.watches = s.lc.watches := by
      rw [ended, State.watches_miss]; exact s.lc.pollSent_watches
    have station : ∀ q, (s.pollSent.setWindow .closed).station q = s.station q := fun q => s.pollSent_station q
    refine ⟨_, rfl, window, watches, fun absent => ?_, fun present early => ?_, fun present third => ?_, ?_⟩
    · rw [ended, State.miss_of_absent (by rw [station]; exact absent)]
      refine ⟨?_, by simp [onlyTouches]⟩
      rw [State.station_onStation, if_pos rfl, station]
    · rw [ended, State.miss_of_early (by rw [station]; exact present) (by rw [station]; exact early)]
      refine ⟨?_, by simp [onlyTouches]⟩
      rw [State.station_onStation, if_pos rfl, station]
    · obtain ⟨record, notice, lamp, lamps, stays, withdrawn, -, -, -⟩ :=
        State.miss_third_reads (s := s.pollSent.setWindow .closed) (by rw [station]; exact present)
          (by rw [station]; exact third)
      rw [ended]
      rw [station] at record stays
      refine ⟨by rw [record]; rfl, by rw [record]; rfl, by rw [record]; rfl, by rw [record]; rfl, by rw [record]; rfl,
        by rw [record]; rfl, notice, lamp, lamps, stays, withdrawn⟩
    · rw [ended]
      by_cases present : (s.station p).presence = .present
      · by_cases early : (s.station p).missRun < 2
        · rw [State.miss_of_early (by rw [station]; exact present) (by rw [station]; exact early)]
          exact ⟨fun q hq => ⟨(State.station_onStation ..).trans ((if_neg hq.symm).trans (station q)), rfl⟩, rfl, rfl⟩
        · obtain ⟨-, -, -, -, -, -, others, hu, fu⟩ := State.miss_third_reads (s := s.pollSent.setWindow .closed)
            (by rw [station]; exact present) (by rw [station]; exact Nat.not_lt.mp early)
          exact ⟨fun q hq => ⟨(others q hq).1.trans (station q), (others q hq).2⟩, hu, fu⟩
      · rw [State.miss_of_absent (by rw [station]; exact present)]
        exact ⟨fun q hq => ⟨(State.station_onStation ..).trans ((if_neg hq.symm).trans (station q)), rfl⟩, rfl, rfl⟩

end Sys2Proof.Machine
end

section
/-! PROOF. The firing of cues: what the cue dropped, the action done and the pointer moved on leave (spec/05 R97, R102,
R104). -/

namespace Sys2Proof.Machine

variable (s : State)

/-! ### The cues that follow (R102, R104) -/

theorem State.runCues_of_resting (n : Nat) {c : Screen} (resting : (s.screen c).state.performing = false) :
    s.runCues n c = s := by
  cases n with
  | zero => rfl
  | succ n => rw [State.runCues, if_pos (by simp [resting])]

/-- A next cue that is not met on becoming the next is left waiting. -/
theorem State.runCues_of_unmet {n : Nat} {c : Screen} {x : CueIx} {t : State}
    (performing : (s.screen c).state.performing = true) (next : (s.screen c).next = some x)
    (unmet : s.evaluate c x = (false, t)) : s.runCues (n + 1) c = t := by
  rw [State.runCues, if_neg (by simp [performing])]
  simp only [next, unmet]

/-- Where the next cue, if there is one, waits for GO, no cue follows. -/
theorem State.runCues_of_go (n : Nat) {c : Screen}
    (waits : ∀ y, (s.screen c).next = some y → (s.cue y).trigger = .go) : s.runCues n c = s := by
  cases n with
  | zero => rfl
  | succ n =>
    by_cases performing : (s.screen c).state.performing = true
    · cases next : (s.screen c).next with
      | none =>
        rw [State.runCues, if_neg (by simp [performing])]
        simp only [next]
      | some y =>
        have unmet : s.evaluate c y = (false, s) := by simp only [State.evaluate, waits y next]
        exact s.runCues_of_unmet performing next unmet
    · exact s.runCues_of_resting _ (by simpa using performing)

/-! ### A cue fired (R104) -/

/-- Cue `x` marked by whether its action was done, CUE_FIRED raised and the pointer moved on. -/
def State.fired (s : State) (c : Screen) (x : CueIx) (done : Bool) : State :=
  ((s.onCue x (fun r => { r with state := if done then .fired else .skipped })).raise (noticeCueFired c)).onScreen c
    (ScreenRecord.advance x)

theorem State.fireCue_eq {c : Screen} {x : CueIx} {done : Bool} {t : State}
    (act : (s.dropCueWatch c x).cueAction c x = (done, t)) : s.fireCue c x = t.fired c x done := by
  simp only [State.fireCue, act]
  rfl

section

variable (c d : Screen) (x y : CueIx) (done : Bool) (p : Projector)

@[simp] theorem State.fired_mu : (s.fired c x done).mu = s.mu := rfl
@[simp] theorem State.fired_lc : (s.fired c x done).lc = s.lc := rfl
@[simp] theorem State.fired_lu : (s.fired c x done).lu = s.lu := rfl
@[simp] theorem State.fired_hu : (s.fired c x done).hu = s.hu := rfl
@[simp] theorem State.fired_fu : (s.fired c x done).fu = s.fu := rfl
@[simp] theorem State.fired_pins : (s.fired c x done).pins = s.pins := rfl
@[simp] theorem State.fired_pending : (s.fired c x done).pending = s.pending := rfl
@[simp] theorem State.fired_roles : (s.fired c x done).su.roles = s.su.roles := rfl
@[simp] theorem State.fired_marks : (s.fired c x done).su.marks = s.su.marks := rfl
@[simp] theorem State.fired_tripInForce : (s.fired c x done).su.tripInForce = s.su.tripInForce := rfl
@[simp] theorem State.fired_margin : (s.fired c x done).su.margin = s.su.margin := rfl
@[simp] theorem State.fired_role : (s.fired c x done).role p = s.role p := rfl
@[simp] theorem State.fired_motion : (s.fired c x done).motion p = s.motion p := rfl
@[simp] theorem State.fired_station : (s.fired c x done).station p = s.station p := rfl
@[simp] theorem State.fired_lamp : (s.fired c x done).lamp p = s.lamp p := rfl
@[simp] theorem State.fired_channel : (s.fired c x done).channel d = s.channel d := rfl

@[simp] theorem State.fired_screen :
    (s.fired c x done).screen d = if c = d then (s.screen c).advance x else s.screen d := by
  simp [State.fired]

@[simp] theorem State.fired_cue : (s.fired c x done).cue y =
    if x = y then { s.cue x with state := if done then .fired else .skipped } else s.cue y := by
  simp [State.fired]

theorem State.act_fired : s.Act (s.fired c x done) :=
  ((s.act_onCue x _).andThen fun u => u.act_raise _).andThen fun u =>
    u.act_onScreen c _ rfl rfl (by simp [ScreenRecord.advance])

theorem noticed_fired {s t : State} (routes : t.pu.routes = s.pu.routes) :
    noticed (noticeCueFired c) s (t.fired c x done) := by
  refine noticed_of_raise ?_ (State.act_onScreen _ c _ rfl rfl (by simp [ScreenRecord.advance]))
  exact routes

/-! ### The watch of a cue dropped (R104) -/

theorem State.dropCueWatch_keeps : s.dropCueWatch c x = { s with mu := (s.dropCueWatch c x).mu } := by
  unfold State.dropCueWatch
  split <;> rfl

@[simp] theorem State.dropCueWatch_lc : (s.dropCueWatch c x).lc = s.lc := by rw [s.dropCueWatch_keeps]
@[simp] theorem State.dropCueWatch_lu : (s.dropCueWatch c x).lu = s.lu := by rw [s.dropCueWatch_keeps]
@[simp] theorem State.dropCueWatch_su : (s.dropCueWatch c x).su = s.su := by rw [s.dropCueWatch_keeps]
@[simp] theorem State.dropCueWatch_hu : (s.dropCueWatch c x).hu = s.hu := by rw [s.dropCueWatch_keeps]
@[simp] theorem State.dropCueWatch_fu : (s.dropCueWatch c x).fu = s.fu := by rw [s.dropCueWatch_keeps]
@[simp] theorem State.dropCueWatch_pu : (s.dropCueWatch c x).pu = s.pu := by rw [s.dropCueWatch_keeps]
@[simp] theorem State.dropCueWatch_pins : (s.dropCueWatch c x).pins = s.pins := by rw [s.dropCueWatch_keeps]
@[simp] theorem State.dropCueWatch_pending : (s.dropCueWatch c x).pending = s.pending := by rw [s.dropCueWatch_keeps]
@[simp] theorem State.dropCueWatch_screen : (s.dropCueWatch c x).screen d = s.screen d := by rw [s.dropCueWatch_keeps]; rfl
@[simp] theorem State.dropCueWatch_cue : (s.dropCueWatch c x).cue y = s.cue y := by rw [s.dropCueWatch_keeps]; rfl
@[simp] theorem State.dropCueWatch_role : (s.dropCueWatch c x).role p = s.role p := by rw [s.dropCueWatch_keeps]; rfl
@[simp] theorem State.dropCueWatch_station : (s.dropCueWatch c x).station p = s.station p := by
  rw [s.dropCueWatch_keeps]; rfl
@[simp] theorem State.dropCueWatch_lamp : (s.dropCueWatch c x).lamp p = s.lamp p := by rw [s.dropCueWatch_keeps]; rfl

/-- Only the watch of a film can change. -/
theorem State.dropCueWatch_motion :
    (s.dropCueWatch c x).motion p = { s.motion p with watch := ((s.dropCueWatch c x).motion p).watch } := by
  unfold State.dropCueWatch
  split
  case h_3 => rfl
  all_goals
    rw [State.setFrameWatch, State.motion_onMotion]
    split
    · rename_i same
      rw [same]
    · rfl

/-- A cue that waits for no film leaves the watches alone. -/
theorem State.dropCueWatch_of_clock {c : Screen} {x : CueIx} (clock : (s.cue x).trigger.ofFilm = false) :
    s.dropCueWatch c x = s := by
  unfold State.dropCueWatch
  split <;> simp_all [Trigger.ofFilm]

end

/-! ### The cue taken (R97, R104) -/

section

variable {s : State} {c : Screen} {x : CueIx}

theorem State.mustHold_of_kind (h : (s.cue x).kind ≠ .change) : s.mustHold c x = false := by
  simp [State.mustHold, h]

/-- A cue that need not be held fires; what follows it waits for GO. -/
theorem State.takeCue_of_go {done : Bool} {t : State} (free : s.mustHold c x = false)
    (act : (s.dropCueWatch c x).cueAction c x = (done, t)) (cues : t.su.cues = s.su.cues)
    (later : ∀ y, nextIn x (s.screen c).list = some y → (s.cue y).trigger = .go) :
    s.takeCue c x = t.fired c x done := by
  have fires := s.fireCue_eq act
  rw [State.takeCue, free, if_neg Bool.false_ne_true, fires]
  refine State.runCues_of_go _ _ fun y next => ?_
  have list : (t.screen c).list = (s.screen c).list := by
    have acted := (s.act_dropCueWatch c x).trans (State.act_cueAction _ c x)
    rw [act] at acted
    exact acted.lists c
  have follows : nextIn x (s.screen c).list = some y := by
    rw [State.fired_screen, if_pos rfl] at next
    rw [← list]
    exact next
  have kept : t.cue y = s.cue y := by rw [State.cue, cues]; rfl
  rw [State.fired_cue]
  split
  · subst x; rw [kept]; exact later y follows
  · rw [kept]; exact later y follows

theorem exec_go {n : Port} (clear : s.su.tripInForce = false) (performing : (s.screen c).state.performing = true)
    (next : (s.screen c).next = some x) : exec (.go n (numberOf c)) s =
      .next ((if (s.cue x).kind = .change ∧ (s.screen c).changeHeld = true then s else s.takeCue c x).answer n
        (.go n (numberOf c)) .ok [BitVec.ofNat 8 x.val]) := by
  unfold exec; dsimp only
  refine console_free rfl (oneTo_numberOf c) ?_
  rw [onNumber_numberOf, goRule, if_neg (by simp [clear]), if_neg (by simp [performing])]
  simp [next, byte1]

/-- GO fires the next cue, if it is no held CHANGE; what follows it waits for GO. -/
theorem exec_go_fires {n : Port} {done : Bool} {t : State} (clear : s.su.tripInForce = false)
    (performing : (s.screen c).state.performing = true) (next : (s.screen c).next = some x)
    (fresh : (s.cue x).kind ≠ .change ∨ (s.screen c).changeHeld = false) (free : s.mustHold c x = false)
    (act : (s.dropCueWatch c x).cueAction c x = (done, t)) (cues : t.su.cues = s.su.cues)
    (later : ∀ y, nextIn x (s.screen c).list = some y → (s.cue y).trigger = .go) :
    exec (.go n (numberOf c)) s =
      .next ((t.fired c x done).answer n (.go n (numberOf c)) .ok [BitVec.ofNat 8 x.val]) := by
  rw [exec_go clear performing next, if_neg, State.takeCue_of_go free act cues later]
  rintro ⟨change, held⟩
  rcases fresh with other | idle
  · exact other change
  · rw [idle] at held
    exact nomatch held

end

/-! ### The picture of a screen (spec/06) -/

section

variable {s : State} {c : Screen} {p : Projector}

theorem State.onScreenOf_of_shown (mine : screenOf p = c) (shown : s.role p = .onScreen)
    (alone : s.role (partner p) ≠ .onScreen) : s.onScreenOf c = some p := by
  subst mine
  unfold State.onScreenOf
  have sides : ∀ q : Projector, (projectorOf (screenOf q) .a = q ∧ projectorOf (screenOf q) .b = partner q)
      ∨ (projectorOf (screenOf q) .b = q ∧ projectorOf (screenOf q) .a = partner q) := by decide
  obtain ⟨here, there⟩ | ⟨here, there⟩ := sides p
  · rw [here, if_pos shown]
  · rw [here, there, if_neg alone, if_pos shown]

theorem State.onScreenOf_of_dark (dark : ∀ q, screenOf q = c → s.role q ≠ .onScreen) : s.onScreenOf c = none := by
  rw [State.onScreenOf, if_neg (dark _ (screenOf_projectorOf c .a)), if_neg (dark _ (screenOf_projectorOf c .b))]

end

end Sys2Proof.Machine
end

section
/-! PROOF. Frames sent: the trip burst, the line reset frame and the changeover burst (spec/02 R36 to R38, R40,
spec/06 R116, R117). -/

namespace Sys2Proof.Machine

variable {s : State} {c : Screen} {side : Side}

/-! ### The blades written (R37) -/

theorem exec_changeoverBurstSent (sent : s.lc.sending = .burst (.changeover c side)) :
    exec .changeoverBurstSent s = .next ((s.burstWritten c side).onBurstSent c side) := by
  show execChangeoverBurstSent s = _
  simp only [execChangeoverBurstSent, sent]
  rfl

section

variable (s c side) (d : Screen)

theorem State.touches_burstWritten : onlyTouches [.lc] s (s.burstWritten c side) := by
  simp [onlyTouches, State.burstWritten]

@[simp] theorem State.burstWritten_screen : (s.burstWritten c side).screen d = s.screen d := rfl
@[simp] theorem State.burstWritten_incomingOf : (s.burstWritten c side).incomingOf d = s.incomingOf d := rfl
@[simp] theorem State.burstWritten_burstQueue : (s.burstWritten c side).lc.burstQueue = s.lc.burstQueue := rfl
@[simp] theorem State.burstWritten_tripInForce : (s.burstWritten c side).lc.tripInForce = s.lc.tripInForce := rfl
@[simp] theorem State.burstWritten_sending : (s.burstWritten c side).lc.sending = .nothing := rfl

theorem State.watch_burstWritten : (s.burstWritten c side).watch d = if c = d then
    (match side with
      | .a => .opened ⟨.opened, .waiting 3⟩ ⟨.closed, .waiting 3⟩
      | .b => .opened ⟨.closed, .waiting 3⟩ ⟨.opened, .waiting 3⟩) else s.watch d := by
  cases side <;> exact State.watch_setWatch ..

/-- A burst written changes no station's presence and nothing it reports. -/
theorem State.station_burstWritten_desired (q : Projector) : (s.burstWritten c side).station q =
    { s.station q with desired := ((s.burstWritten c side).station q).desired } := by
  rw [s.station_burstWritten]
  split <;> rfl

theorem State.ready_burstWritten (q : Option Projector) : (s.burstWritten c side).ready q = s.ready q := by
  cases q with
  | none => rfl
  | some q =>
    simp only [State.ready]
    rw [s.station_burstWritten_desired c side q]
    rfl

end

theorem State.onBurstSent_of_ready {p : Projector} (queued : (s.screen c).changeover.state = .queued)
    (incoming : s.incomingOf c = some p) (ready : s.ready (some p) = true) :
    s.onBurstSent c side = s.changeoverDone c p := by
  simp only [State.onBurstSent, queued, incoming, ready, if_true]

theorem State.onBurstSent_of_unready (queued : (s.screen c).changeover.state = .queued)
    (unready : s.ready (s.incomingOf c) = false) : s.onBurstSent c side = s.undoBurst c side := by
  cases incoming : s.incomingOf c with
  | none => simp only [State.onBurstSent, queued, incoming]
  | some p =>
    rw [incoming] at unready
    simp only [State.onBurstSent, queued, incoming, unready]
    rfl

theorem State.onBurstSent_of_unasked (unasked : (s.screen c).changeover.state ≠ .queued) :
    s.onBurstSent c side = (s.closeBlade (projectorOf c .a)).closeBlade (projectorOf c .b) := by
  unfold State.onBurstSent
  split
  · exact absurd ‹_› unasked
  · exact absurd ‹_› unasked
  · rfl

/-! ### Bursts that pass no picture (R37, R38, R117) -/

theorem partner_ne : ∀ p : Projector, partner p ≠ p := by decide

theorem partner_partner : ∀ p : Projector, partner (partner p) = p := by decide

theorem screenOf_partner : ∀ p : Projector, screenOf (partner p) = screenOf p := by decide

theorem sideOf_partner_ne : ∀ p : Projector, sideOf (partner p) ≠ sideOf p := by decide

/-- The blades of a burst's two stations: the one on the side opens, its partner's closes. -/
theorem State.blades_burstWritten (s : State) (c : Screen) (side : Side) :
    (s.burstWritten c side).station (projectorOf c side) = { s.station (projectorOf c side) with
        desired := { (s.station (projectorOf c side)).desired with blade := .opened } }
      ∧ (s.burstWritten c side).station (partner (projectorOf c side)) = { s.station (partner (projectorOf c side)) with
        desired := { (s.station (partner (projectorOf c side))).desired with blade := .closed } } := by
  have other := sideOf_partner_ne (projectorOf c side)
  rw [sideOf_projectorOf] at other
  rw [s.station_burstWritten, s.station_burstWritten, screenOf_partner, screenOf_projectorOf, sideOf_projectorOf]
  simp [other]

/-- The outgoing's blade asked OPEN again, where no trip is in force and the partner's blade is closed. -/
theorem State.reopenBlade_some {q : Projector} (clear : s.lc.tripInForce = false)
    (closed : (s.station (partner q)).desired.blade = .closed) :
    s.reopenBlade (some q) = s.onDesired q (fun d => { d with blade := .opened }) := by
  have ruled : s.bladeRuling q .opened = .ok := by simp [State.bladeRuling, State.energizingRuling, clear, closed]
  simp only [State.reopenBlade, State.askBlade, ruled]

theorem State.reopenBlade_none (s : State) : s.reopenBlade none = s := rfl

/-- A burst undone: the opened blade closed, the outgoing's opened again, and the record waiting (R117). -/
theorem State.undoBurst_eq (clear : s.lc.tripInForce = false)
    (outgoing : (s.screen c).changeover.outgoing = none
      ∨ (s.screen c).changeover.outgoing = some (partner (projectorOf c side)))
    (closed : (s.station (partner (projectorOf c side))).desired.blade = .closed) :
    s.undoBurst c side = (((s.onChangeover c (fun x =>
      { x with state := .waitingReady, incoming := s.incomingOf c })).onDesired (projectorOf c side)
        (fun d => { d with blade := .closed })).onDesired (partner (projectorOf c side))
          (fun d => { d with blade := if (s.screen c).changeover.outgoing = none then .closed else .opened })).raise
            (noticeChangeoverWaiting c) := by
  have ne := partner_ne (projectorOf c side)
  rw [State.undoBurst, State.closeBlade_eq]
  rcases outgoing with absent | present
  · rw [absent, if_pos rfl, State.reopenBlade_none]
    refine congrArg (State.raise · _) (Eq.symm (State.onStation_self _ _ _ ?_))
    rw [State.station_onDesired, if_neg ne.symm, State.onChangeover_station, ← closed]
  · rw [present, if_neg (by simp), State.reopenBlade_some]
    · exact clear
    · simp [partner_partner]

/-- Settles O23: a burst unasked has both blades closed again, a burst whose incoming is not ready is undone. -/
theorem sentFramesEnd : Obligations.SentFramesEnd := by
  intro s
  refine ⟨fun sending => congrArg Host.Outcome.next (if_pos sending),
    fun sending => congrArg Host.Outcome.next (if_pos sending), fun sc side sending unasked => ?_,
    fun sc side sending queued unready clear outgoing => ?_⟩
  · refine ⟨_, (exec_changeoverBurstSent sending).trans (congrArg _ (State.onBurstSent_of_unasked unasked)), ?_, ?_, ?_,
      rfl, ?_⟩
    · simp [State.closeBlade_eq, s.station_burstWritten, sides_differ sc, screenOf_projectorOf]
    · simp [State.closeBlade_eq, s.station_burstWritten, (sides_differ sc).symm, screenOf_projectorOf]
    · simp only [State.closeBlade_eq, State.onDesired_watch, s.watch_burstWritten, if_true]
      split <;> exact nofun
    · exact (s.touches_burstWritten sc side).trans (by simp [onlyTouches, State.closeBlade_eq])
  · have unready' : (s.burstWritten sc side).ready ((s.burstWritten sc side).incomingOf sc) = false :=
      (s.ready_burstWritten sc side _).trans unready
    obtain ⟨opened, closed⟩ := s.blades_burstWritten sc side
    have ne := partner_ne (projectorOf sc side)
    have undone := State.undoBurst_eq (s := s.burstWritten sc side) (side := side) clear outgoing (by rw [closed])
    have sent := (exec_changeoverBurstSent sending).trans (congrArg _
      ((State.onBurstSent_of_unready (s := s.burstWritten sc side) queued unready').trans undone))
    refine ⟨_, sent, ⟨?_, ?_⟩, ?_, ?_, rfl, ?_, rfl, fun c other => ?_, ?_⟩
    · simp [ne, opened]
    · rw [State.raise_station, State.station_onDesired, if_pos rfl, State.station_onDesired, if_neg ne.symm,
        State.onChangeover_station, closed]
      rfl
    · simp
    · simp only [State.raise_watch, State.onDesired_watch, State.onChangeover_watch, s.watch_burstWritten, if_true]
      split <;> exact nofun
    · refine noticed_of_raise ?_ (.refl _)
      rfl
    · simp [other.symm]
    · exact ((s.touches_burstWritten sc side).mono (by simp)).trans (by simp [onlyTouches])

end Sys2Proof.Machine
end

section
/-! PROOF. The picture passed by a changeover burst that has been sent (spec/06 R116). -/

namespace Sys2Proof.Machine

variable {s : State} {c : Screen} {p : Projector}

/-! ### The outgoing taken off screen (R116, step 3) -/

/-- From `s` to `t` the projector `outgoing`, if there is one, has left the screen: its role TAIL, its watch dropped, its
douser closed and its lamp put out. -/
structure State.TakesOff (outgoing : Option Projector) (s t : State) : Prop where
  su : t.su = { s.su with roles := t.su.roles }
  role : ∀ q, t.role q = if outgoing = some q then .tail else s.role q
  motion : ∀ q, t.motion q = if outgoing = some q then { s.motion q with watch := none } else s.motion q
  station : ∀ q, outgoing ≠ some q → t.station q = s.station q
  blade : ∀ q, (t.station q).desired.blade = (s.station q).desired.blade
  douser : ∀ q, outgoing = some q → (t.station q).desired.douser = .closed
  lamp : ∀ q, outgoing ≠ some q → t.lamp q = s.lamp q
  cold : ∀ q, outgoing = some q → (t.lamp q).state = .cold
  line : t.lc = { s.lc with stations := t.lc.stations }
  hu : t.hu = s.hu
  fu : t.fu = s.fu
  routes : t.pu.routes = s.pu.routes

/-- A lamp put out on a screen with no incoming to be examined. -/
theorem State.extinguish_of_unexamined {q : Projector}
    (quiet : (s.screen (screenOf q)).changeover.state.examined = false) (lit : (s.lamp q).state ≠ .cold) :
    s.extinguish q = ((s.onDesired q (fun d => { d with arc := .off })).onLamp q Lamp.putOut).lampAttention q .off := by
  rw [State.extinguish_of_lit _ lit, State.examine_of_not_examined]
  exact quiet

theorem State.blade_onDesired (s : State) (q : Projector) (f : Desired → Desired) (keeps : ∀ d, (f d).blade = d.blade)
    (x : Projector) : ((s.onDesired q f).station x).desired.blade = (s.station x).desired.blade := by
  rw [State.station_onDesired]
  split
  · rename_i same
    rw [keeps, same]
  · rfl

theorem State.takesOff_takeOff (outgoing : Option Projector)
    (quiet : ∀ q, outgoing = some q → (s.screen (screenOf q)).changeover.state.examined = false) :
    s.TakesOff outgoing (s.takeOff outgoing) := by
  cases outgoing with
  | none => constructor <;> simp [State.takeOff]
  | some q =>
    let left : State := ((s.setRole q .tail).setFrameWatch q none).closeDouser q
    have off : s.takeOff (some q) = left.extinguish q := rfl
    have same : ∀ x : Projector, (some q = some x) ↔ q = x := fun x => ⟨Option.some.inj, congrArg some⟩
    rw [off]
    by_cases cold : (s.lamp q).state = .cold
    · rw [State.extinguish_of_cold left cold]
      constructor
      case blade => exact s.blade_onDesired q (fun d => { d with douser := .closed }) fun _ => rfl
      case line => rfl
      case su => rfl
      all_goals simp +contextual [left, same, State.closeDouser_eq, State.setFrameWatch, cold]
    · rw [State.extinguish_of_unexamined (s := left) (quiet q rfl) cold]
      constructor
      case blade =>
        exact fun x => (left.blade_onDesired q (fun d => { d with arc := .off }) (fun _ => rfl) x).trans
          (s.blade_onDesired q (fun d => { d with douser := .closed }) (fun _ => rfl) x)
      case line => rfl
      case su => rfl
      all_goals simp +contextual [left, same, State.closeDouser_eq, State.setFrameWatch, State.lampAttention, Lamp.putOut]

/-! ### The incoming put on screen (R116, steps 1, 2 and 4) -/

theorem State.reel_onChangeover (s : State) (c d : Screen) (f : Changeover → Changeover) (r : ReelIx) :
    (s.onChangeover c f).reel d r = s.reel d r := by
  rw [State.reel, State.screen_onChangeover]
  split
  · subst d; rfl
  · rfl

theorem State.movedReels_onChangeover (s : State) (c : Screen) (f : Changeover → Changeover) (p : Projector)
    (old new : ReelState) : (s.onChangeover c f).movedReels p old new = s.movedReels p old new := by
  have found : (s.onChangeover c f).reelOf p old = s.reelOf p old := by
    simp only [State.reelOf, State.reel_onChangeover]
  have reels : ((s.onChangeover c f).screen (screenOf p)).reels = (s.screen (screenOf p)).reels := by
    rw [State.screen_onChangeover]
    split
    · subst c; rfl
    · rfl
  rw [State.movedReels, State.movedReels, found, reels]

/-- The screen record as the sent burst leaves it: SENT, the incoming's reel RUNNING and the picture up. -/
def ScreenRecord.shown (r : ScreenRecord) (p : Projector) (reels : Vector ReelEntry 12) : ScreenRecord :=
  { r with
    reels := reels
    state := if r.state = .dark ∨ r.state = .waiting then .running else r.state
    changeover := { r.changeover with state := .sent, incoming := some p } }

/-- The changeover's passing without the evaluation of the next cue (R116, steps 1 to 4). -/
def State.passed (s : State) (c : Screen) (p : Projector) : State :=
  ((s.putOn c p).takeOff (s.screen c).changeover.outgoing).onScreen c ScreenRecord.picture

theorem State.changeoverDone_eq (s : State) (c : Screen) (p : Projector) :
    s.changeoverDone c p = (s.passed c p).reevaluate c := rfl

theorem State.screen_putOn (mine : screenOf p = c) (d : Screen) : (s.putOn c p).screen d =
    if c = d then { s.screen c with
      reels := s.movedReels p .loaded .running
      changeover := { (s.screen c).changeover with state := .sent, incoming := some p } } else s.screen d := by
  subst mine
  rw [State.putOn, State.moveReel_eq, s.movedReels_onChangeover]
  by_cases same : screenOf p = d
  · subst same; simp
  · simp [same]

section

variable (mine : screenOf p = c)
include mine

theorem State.takesOff_putOn (outgoing : (s.screen c).changeover.outgoing = none
    ∨ (s.screen c).changeover.outgoing = some (partner p)) :
    (s.putOn c p).TakesOff (s.screen c).changeover.outgoing ((s.putOn c p).takeOff (s.screen c).changeover.outgoing) := by
  refine State.takesOff_takeOff _ fun q some => ?_
  have other : screenOf q = c := by
    rcases outgoing with none | present
    · rw [none] at some; exact nomatch some
    · rw [present] at some
      rw [← Option.some.inj some, screenOf_partner, mine]
  rw [State.screen_putOn mine, if_pos other.symm]
  rfl

theorem State.screen_passed (outgoing : (s.screen c).changeover.outgoing = none
    ∨ (s.screen c).changeover.outgoing = some (partner p)) (d : Screen) :
    (s.passed c p).screen d =
      if c = d then (s.screen c).shown p (s.movedReels p .loaded .running) else s.screen d := by
  have kept : ∀ d, ((s.putOn c p).takeOff (s.screen c).changeover.outgoing).screen d = (s.putOn c p).screen d :=
    fun d => by rw [State.screen, (State.takesOff_putOn mine outgoing).su]; rfl
  rw [State.passed, State.screen_onScreen, kept, kept, State.screen_putOn mine, State.screen_putOn mine]
  split
  · rw [if_pos rfl]
    simp [ScreenRecord.picture, ScreenRecord.shown]
  · rfl

/-- From `s` to `t` the incoming `p` has come on screen and the outgoing has left it; the screens are told of in
`State.screen_passed`. -/
structure State.Passes (p : Projector) (outgoing : Option Projector) (s t : State) : Prop where
  cues : t.su.cues = s.su.cues
  role : ∀ q, t.role q = if outgoing = some q then .tail else if p = q then .onScreen else s.role q
  motion : ∀ q, t.motion q = if outgoing = some q then { s.motion q with watch := none } else s.motion q
  station : ∀ q, outgoing ≠ some q → t.station q = s.station q
  blade : ∀ q, (t.station q).desired.blade = (s.station q).desired.blade
  douser : ∀ q, outgoing = some q → (t.station q).desired.douser = .closed
  lamp : ∀ q, outgoing ≠ some q → t.lamp q = s.lamp q
  cold : ∀ q, outgoing = some q → (t.lamp q).state = .cold
  line : t.lc = { s.lc with stations := t.lc.stations }
  hu : t.hu = s.hu
  fu : t.fu = s.fu
  routes : t.pu.routes = s.pu.routes

theorem State.passes_passed (outgoing : (s.screen c).changeover.outgoing = none
    ∨ (s.screen c).changeover.outgoing = some (partner p)) :
    s.Passes p (s.screen c).changeover.outgoing (s.passed c p) := by
  obtain ⟨su, role, motion, station, blade, douser, lamp, cold, line, hu, fu, routes⟩ :=
    State.takesOff_putOn mine outgoing
  have on : s.putOn c p = { s with su := (s.putOn c p).su } := by rw [State.putOn, State.moveReel_eq]; rfl
  have cues : (s.putOn c p).su.cues = s.su.cues := by rw [State.putOn, State.moveReel_eq]; rfl
  have roles : ∀ q, (s.putOn c p).role q = if p = q then .onScreen else s.role q := fun q => by
    rw [State.putOn, State.moveReel_eq]
    exact State.role_setRole ..
  have motionOn : ∀ q, (s.putOn c p).motion q = s.motion q := fun q => by rw [on]; rfl
  have stationOn : ∀ q, (s.putOn c p).station q = s.station q := fun q => by rw [on]; rfl
  have lampOn : ∀ q, (s.putOn c p).lamp q = s.lamp q := fun q => by rw [on]; rfl
  have lcOn : (s.putOn c p).lc = s.lc := by rw [on]
  simp only [motionOn] at motion
  simp only [stationOn] at station blade
  simp only [lampOn] at lamp
  rw [lcOn] at line
  refine ⟨?_, fun q => ?_, motion, station, blade, douser, lamp, cold, line, hu.trans (by rw [on]), fu.trans (by rw [on]),
    routes.trans (by rw [on])⟩
  · rw [State.passed, State.onScreen_su_cues, su, ← cues]
  · rw [← roles]
    exact role q

end

/-! ### The obligation -/

theorem State.reevaluate_of_clock
    (clock : ∀ x, (s.screen c).next = some x → (s.cue x).trigger.ofFilm = false) : s.reevaluate c = s := by
  unfold State.reevaluate
  split
  · rfl
  · rename_i x next
    have other := clock x next
    split <;> simp_all [Trigger.ofFilm]

/-- A burst sent for a ready incoming passes the picture, and the next cue is evaluated again. -/
theorem exec_changeoverBurstSent_ready {side : Side} (sending : s.lc.sending = .burst (.changeover c side))
    (queued : (s.screen c).changeover.state = .queued) (incoming : s.incomingOf c = some p)
    (ready : s.ready (some p) = true) :
    exec .changeoverBurstSent s = .next (((s.burstWritten c side).passed c p).reevaluate c) :=
  (exec_changeoverBurstSent sending).trans (congrArg _ ((State.onBurstSent_of_ready (s := s.burstWritten c side) queued
    incoming ((s.ready_burstWritten c side _).trans ready)).trans (State.changeoverDone_eq ..)))

theorem State.station_burstWritten_away (s : State) (c : Screen) (side : Side) {q : Projector}
    (here : q ≠ projectorOf c side) (there : q ≠ partner (projectorOf c side)) :
    (s.burstWritten c side).station q = s.station q := by
  have sides : ∀ (c : Screen) (side : Side) (q : Projector), screenOf q = c →
      q = projectorOf c side ∨ q = partner (projectorOf c side) := by
    intro c side
    cases side <;> revert c <;> decide
  rw [s.station_burstWritten, if_neg]
  intro mine
  exact (sides c side q mine).elim here there

/-- Settles O21: the blades written, the incoming put on, the outgoing taken off and the picture up. -/
theorem changeoverBurstPassesThePicture : Obligations.ChangeoverBurstPassesThePicture := by
  intro sc side s sending queued incoming ready outgoing clock
  have mine := screenOf_projectorOf sc side
  have ne := partner_ne (projectorOf sc side)
  obtain ⟨opened, closed⟩ := s.blades_burstWritten sc side
  have screen := State.screen_passed (s := s.burstWritten sc side) mine outgoing
  obtain ⟨cues, role, motion, station, blade, douser, lamp, cold, line, hu, fu, -⟩ :=
    State.passes_passed (s := s.burstWritten sc side) mine outgoing
  have still : ((s.burstWritten sc side).passed sc (projectorOf sc side)).reevaluate sc =
      (s.burstWritten sc side).passed sc (projectorOf sc side) := by
    refine State.reevaluate_of_clock fun x next => ?_
    rw [screen, if_pos rfl] at next
    rw [State.cue, cues]
    exact clock x next
  have sent := exec_changeoverBurstSent_ready sending queued incoming ready
  rw [still] at sent
  have shown := screen sc
  rw [if_pos rfl] at shown
  have stays : ∀ q, q ≠ partner (projectorOf sc side) → (s.screen sc).changeover.outgoing ≠ some q := by
    intro q other some
    rcases outgoing with absent | present
    · rw [absent] at some; exact nomatch some
    · rw [present] at some; exact other (Option.some.inj some).symm
  refine ⟨_, sent, ⟨?_, ?_, ?_, ?_, ?_, ?_, ?_, fun r found => ?_, fun some => ⟨?_, ?_, douser _ some, cold _ some⟩, ?_, ?_,
    ?_, ?_, fun q here there => ⟨?_, ?_, ?_⟩⟩, ?_, fun d other => ⟨?_, ?_⟩, hu, fu, cues⟩
  · rw [line]; rfl
  · rw [blade, opened]
  · rw [blade, closed]
  · rw [State.watch, line]
    exact (s.watch_burstWritten sc side sc).trans (if_pos rfl)
  · rw [shown]; rfl
  · rw [shown]; rfl
  · rw [role]; exact (if_neg (stays _ ne.symm)).trans (if_pos rfl)
  · rw [State.reel, shown]
    exact (State.movedReels_get (s.burstWritten sc side) found).trans (by rw [mine]; rfl)
  · rw [role]; exact if_pos some
  · rw [motion]
    rw [if_pos]
    exact some
  · rw [shown]; rfl
  · rw [shown]; rfl
  · exact lamp _ (stays _ ne.symm)
  · rw [motion]; exact if_neg (stays _ ne.symm)
  · exact (station q (stays q there)).trans (s.station_burstWritten_away sc side here there)
  · rw [role]; exact (if_neg (stays q there)).trans (if_neg (Ne.symm here))
  · exact lamp q (stays q there)
  · rw [line]; rfl
  · exact (screen d).trans (if_neg other.symm)
  · rw [State.watch, line]
    exact (s.watch_burstWritten sc side d).trans (if_neg other.symm)

end Sys2Proof.Machine
end

section
/-! PROOF. A film cue evaluated again when the changeover burst has gone out: a HOUSE cue met there starts its fade
(spec/05 R102, R106, spec/06 R116, step 5). -/

namespace Sys2Proof.Machine

/-- A screen about to pass to projector 1, its next cue a HOUSE on a FRAMES trigger that the incoming's counter already
meets. -/
def State.houseAtChangeover : State :=
  ((((((((State.reset.onStation 0 (fun r => { r with
      presence := .present
      lastReport := some ⟨.running, .opened, .closed, .on, .clear, .clear, 0, 0, 0, 0⟩ })).onLamp 0 (fun l =>
    { l with state := .burning })).onShutter 0 (fun r => { r with state := .opened })).setRole 0 .standby).setReel 0 0
      (.reel .loaded 100 .a)).onScreen 0 (fun r =>
        { r with state := .running, next := some 0, changeover := { r.changeover with state := .queued } })).onCue 0
          (fun _ => ⟨0, .house 1 0, .frames 5, .pending⟩)).onChannel 0 (fun c => { c with override := .off })).setSending
            (.burst (.changeover 0 .a))

/-- The HOUSE cue is met at the counter of the incoming and sets its channel's level. -/
theorem State.houseAtChangeover_fades : ∃ t, exec .changeoverBurstSent State.houseAtChangeover = .next t
    ∧ (t.channel 0).target = 1 := ⟨_, rfl, by decide⟩

/-- Refutes O22: its last line keeps the house records whatever the cue is, and `State.houseAtChangeover` fires a HOUSE
cue, whose fade writes the channel's target. -/
theorem not_filmCuesMoveToTheIncoming : ¬ Obligations.FilmCuesMoveToTheIncoming := by
  intro h
  obtain ⟨t, sent, -, -, -, hu, -⟩ := h 0 .a 0 5 0 State.houseAtChangeover rfl rfl (by decide) (by decide)
    (.inl ⟨rfl, by decide⟩) rfl (.inl rfl)
  obtain ⟨u, out, level⟩ := State.houseAtChangeover_fades
  have same : t = u := Host.Outcome.next.inj (sent.symm.trans out)
  have kept : (t.channel 0).target = 255 := by
    rw [State.channel, hu]
    rfl
  rw [same, level] at kept
  exact absurd kept (by decide)

end Sys2Proof.Machine
end

section
/-! PROOF. LINE_RESET: what it leaves of the line, the gates, the projectors and the lamps (spec/02 R40, spec/03 R61). -/

namespace Sys2Proof.Machine

/-! ### A booth in which no projector is past arming -/

/-- No projector past arming, no changeover QUEUED, and every station record at its first values: what a line reset hands its changes on
in. -/
structure State.Resting (s : State) : Prop where
  roles : ∀ q, s.role q = .idle ∨ s.role q = .armed
  unqueued : ∀ c, (s.screen c).changeover.state ≠ .queued
  cleared : ∀ q, s.station q = Station.powerOn

/-- From `s` to `t` the line, the house, the fire unit and the answers are as they were, roles are only given up and no
changeover is queued. -/
structure State.Rests (s t : State) : Prop where
  lc : t.lc = s.lc
  hu : t.hu = s.hu
  fu : t.fu = s.fu
  routes : t.pu.routes = s.pu.routes
  passed : t.pu.passed = s.pu.passed
  answers : t.pu.answers = s.pu.answers
  role : ∀ q, t.role q = .idle ∨ t.role q = s.role q
  unqueued : ∀ c, (s.screen c).changeover.state ≠ .queued → (t.screen c).changeover.state ≠ .queued

namespace State.Rests

variable {s t u : State}

theorem refl (s : State) : s.Rests s := ⟨rfl, rfl, rfl, rfl, rfl, rfl, fun _ => .inr rfl, fun _ h => h⟩

theorem trans (a : s.Rests t) (b : t.Rests u) : s.Rests u where
  lc := b.lc.trans a.lc
  hu := b.hu.trans a.hu
  fu := b.fu.trans a.fu
  routes := b.routes.trans a.routes
  passed := b.passed.trans a.passed
  answers := b.answers.trans a.answers
  role q := (b.role q).elim .inl fun same => by rw [same]; exact a.role q
  unqueued c h := b.unqueued c (a.unqueued c h)

theorem resting (a : s.Rests t) (h : s.Resting) : t.Resting where
  roles q := (a.role q).elim .inl fun same => by rw [same]; exact h.roles q
  unqueued c := a.unqueued c (h.unqueued c)
  cleared q := by rw [State.station, a.lc]; exact h.cleared q

end State.Rests

theorem State.requestIfReady_of_unready {s : State} {c : Screen} {q : Option Projector} (unready : s.ready q = false) :
    s.requestIfReady c q = s := by
  cases q with
  | none => rfl
  | some q => exact if_neg (by simp [unready])

theorem State.onDesired_self (s : State) (p : Projector) (f : Desired → Desired)
    (same : f (s.station p).desired = (s.station p).desired) : s.onDesired p f = s :=
  s.onStation_self p _ (by rw [same])

section

variable {s : State} (h : s.Resting)
include h

theorem State.Resting.not_ready (q : Option Projector) : s.ready q = false := by
  cases q with
  | none => rfl
  | some q => rcases h.roles q with idle | armed <;> simp [State.ready, *]

/-- An incoming examined in a resting booth is not ready: nothing is requested or withdrawn. -/
theorem State.Resting.rests_examine (c : Screen) : s.Rests (s.examine c) := by
  have found : ∀ d f, (∀ x : Changeover, (f x).state = x.state) → s.Rests (s.onChangeover d f) := fun d f keeps =>
    ⟨rfl, rfl, rfl, rfl, rfl, rfl, fun _ => .inr rfl, fun e unqueued => by
      rw [State.screen_onChangeover]
      split
      · subst e
        rw [keeps]
        exact unqueued
      · exact unqueued⟩
  unfold State.examine
  dsimp only
  split
  · rw [State.requestIfReady_of_unready]
    · exact found c _ fun _ => rfl
    · exact h.not_ready _
  · exact absurd ‹_› (h.unqueued c)
  all_goals exact .refl s

/-! ### Gates, arcs and presence handed on (R27, R40, R61) -/

/-- A projector given up whose desired state is safe: only its reel, its role and its counter move. -/
theorem State.Resting.givenUp_eq (p : Projector) : s.givenUp p =
    ((s.onScreen (screenOf p) (fun r => { r with reels := s.movedReels p .loaded .listed })).setRole p .idle).onMotion p
      (fun m => { m with framesRemaining := 0, watch := none }) := by
  have safe : (s.station p).desired = .safe := by rw [h.cleared]; rfl
  have stopped : (s.station p).desired.motor = .stop := by rw [safe]; rfl
  have motor : ∀ u : State, (u.station p).desired = .safe → u.onDesired p (fun d => { d with motor := .stop }) = u :=
    fun u safe => u.onDesired_self p _ (by rw [safe]; rfl)
  have douser : ∀ u : State, (u.station p).desired = .safe → u.onDesired p (fun d => { d with douser := .closed }) = u :=
    fun u safe => u.onDesired_self p _ (by rw [safe]; rfl)
  simp only [State.givenUp, stopped, if_true]
  rw [motor, State.onMotion_self _ _ (fun m => m) rfl, douser]
  · exact safe
  · exact safe

theorem State.Resting.rests_withdraw (p : Projector) : s.Rests (s.withdraw p) := by
  have up : s.Rests ((s.givenUp p).raise (noticeArmWithdrawn (screenOf p))) := by
    rw [h.givenUp_eq]
    refine ⟨rfl, rfl, rfl, rfl, rfl, rfl, fun q => ?_, fun c unqueued => ?_⟩
    · by_cases same : p = q
      · exact .inl (by simp [same])
      · exact .inr (by simp [same])
    · rw [State.raise_screen, State.onMotion_screen, State.setRole_screen, State.screen_onScreen]
      split
      · subst c; exact unqueued
      · exact unqueued
  rw [State.withdraw_eq]
  exact up.trans ((up.resting h).rests_examine _)

/-- A loss of presence handed on in a resting booth: an ARMED projector is given up. -/
theorem State.Resting.handLost_eq {p : Projector} {old : Presence} (known : old ≠ .absent) : s.handLost p old =
    (if s.role p = .armed then (s.lampPresence p old .absent).withdraw p
      else s.lampPresence p old .absent).examine (screenOf p) := by
  have presence : (s.station p).presence = .absent := by rw [h.cleared]; rfl
  have role : (s.lampPresence p old .absent).role p = s.role p := by
    unfold State.lampPresence
    split
    · rfl
    · split <;> rfl
  have readying : (s.role p).isReadying = decide (s.role p = .armed) := by
    rcases h.roles p with idle | armed <;> simp [*, Role.isReadying]
  simp [State.handLost, known, State.handPresence, State.showPresence, presence, State.forgetMark, State.withdrawIf, role,
    readying]

omit h in
theorem State.rests_lampPresence (s : State) (p : Projector) (old new : Presence) : s.Rests (s.lampPresence p old new) := by
  unfold State.lampPresence
  split
  · exact ⟨rfl, rfl, rfl, rfl, rfl, rfl, fun _ => .inr rfl, fun _ => id⟩
  · split
    · exact ⟨rfl, rfl, rfl, rfl, rfl, rfl, fun _ => .inr rfl, fun _ => id⟩
    · exact .refl s

theorem State.Resting.rests_handLost (p : Projector) (old : Presence) : s.Rests (s.handLost p old) := by
  by_cases known : old = .absent
  · rw [State.handLost, if_pos known]
    exact .refl s
  · rw [h.handLost_eq known]
    have hold := s.rests_lampPresence p old .absent
    have given : s.Rests (if s.role p = .armed then (s.lampPresence p old .absent).withdraw p
        else s.lampPresence p old .absent) := by
      split
      · exact hold.trans ((hold.resting h).rests_withdraw p)
      · exact hold
    exact given.trans ((given.resting h).rests_examine _)

theorem State.Resting.rests_handArc (p : Projector) (old : Switch) : s.Rests (s.handArc p old) := by
  unfold State.handArc
  split
  · have out : s.Rests (s.onLamp p fun _ => (s.lamp p).putOut) :=
      ⟨rfl, rfl, rfl, rfl, rfl, rfl, fun _ => .inr rfl, fun _ => id⟩
    rw [State.lampLineReset, State.handLamp_of_not_burning _ _ (Lamp.putOut_not_burning _)]
    exact (out.trans ((out.resting h).rests_examine _)).trans
      ⟨rfl, rfl, rfl, rfl, rfl, rfl, fun _ => .inr rfl, fun _ => id⟩
  · exact .refl s

theorem State.Resting.rests_handReset (before : LineControl) (p : Projector) : s.Rests (s.handReset before p) := by
  have lost := h.rests_handLost p before.stations[p].presence
  exact lost.trans ((lost.resting h).rests_handArc p _)

/-- A desired motor found stopped closes the gate of its projector. -/
theorem State.Resting.gateFollows_stop (p : Projector) : s.gateFollows p .stop = s.onMotion p Motion.closeGate := by
  have roles := h.roles p
  rw [State.gateFollows_of_role]
  · rfl
  · rcases roles with idle | armed <;> simp [*]
  · rcases roles with idle | armed <;> simp [*]

/-! ### What is handed on for one station, read (R40) -/

theorem State.Resting.motion_withdraw (p q : Projector) : (s.withdraw p).motion q =
    if p = q then { s.motion q with framesRemaining := 0, watch := none } else s.motion q := by
  rw [State.withdraw_eq, State.examine_motion, State.raise_motion, h.givenUp_eq, State.motion_onMotion]
  split
  · subst q; rfl
  · rfl

/-- What a loss of presence leaves of the motion, the lamp and the role of the projectors. -/
theorem State.Resting.handLost_reads (p q : Projector) (old : Presence) :
    ((s.handLost p old).motion q).gate = (s.motion q).gate
      ∧ ((s.handLost p old).motion q).speed = (s.motion q).speed
      ∧ ((s.handLost p old).lamp q).state = (s.lamp q).state
      ∧ (q ≠ p → (s.handLost p old).lamp q = s.lamp q ∧ (s.handLost p old).role q = s.role q) := by
  have hold : (s.lampPresence p old .absent).mu = s.mu ∧ ((s.lampPresence p old .absent).lamp q).state = (s.lamp q).state
      ∧ (q ≠ p → (s.lampPresence p old .absent).lamp q = s.lamp q)
      ∧ (s.lampPresence p old .absent).su = s.su := by
    unfold State.lampPresence
    split
    · exact nomatch ‹Presence.absent = .present›
    · split
      · refine ⟨rfl, ?_, fun other => ?_, rfl⟩
        · rw [State.lamp_onLamp]
          split
          · subst q; rfl
          · rfl
        · rw [State.lamp_onLamp, if_neg other.symm]
      · exact ⟨rfl, rfl, fun _ => rfl, rfl⟩
  obtain ⟨mu, state, lamp, su⟩ := hold
  by_cases known : old = .absent
  · rw [State.handLost, if_pos known]
    exact ⟨rfl, rfl, rfl, fun _ => ⟨rfl, rfl⟩⟩
  · rw [h.handLost_eq known, State.examine_motion, State.examine_lamp, State.examine_role]
    split
    · have rest := (s.rests_lampPresence p old .absent).resting h
      obtain ⟨others, lu, -, -⟩ := (s.lampPresence p old .absent).withdraw_keeps p
      rw [rest.motion_withdraw, State.lamp, lu]
      refine ⟨?_, ?_, state, fun other => ⟨lamp other, ?_⟩⟩
      · rw [State.motion, mu]
        split <;> rfl
      · rw [State.motion, mu]
        split <;> rfl
      · rw [(others q other).2.1, State.role, su]
        rfl
    · rw [State.motion, mu, State.role, su]
      exact ⟨rfl, rfl, state, fun other => ⟨lamp other, rfl⟩⟩

omit h in
/-- What an arc taken off leaves. -/
theorem State.handArc_reads (s : State) (p q : Projector) (old : Switch) : (s.handArc p old).mu = s.mu
    ∧ (s.handArc p old).su.roles = s.su.roles
    ∧ (s.handArc p old).lamp q =
      if p = q ∧ old = .on then { (s.lamp p).putOut with cause := .lineReset } else s.lamp q := by
  unfold State.handArc
  split
  · rename_i lit
    rw [State.lampLineReset, State.handLamp_of_not_burning _ _ (Lamp.putOut_not_burning _)]
    by_cases same : p = q
    · simp [State.lampAttention, same, lit]
    · simp [State.lampAttention, same]
  · rename_i dark
    simp [dark]

theorem State.Resting.handReset_reads (before : LineControl) (p q : Projector) :
    ((s.handReset before p).motion q).gate = (s.motion q).gate
      ∧ ((s.handReset before p).motion q).speed = (s.motion q).speed
      ∧ (before.stations[p].desired.arc = .off → ((s.handReset before p).lamp q).state = (s.lamp q).state)
      ∧ (q ≠ p → (s.handReset before p).lamp q = s.lamp q ∧ (s.handReset before p).role q = s.role q) := by
  obtain ⟨gate, speed, state, others⟩ := h.handLost_reads p q before.stations[p].presence
  obtain ⟨mu, roles, lamp⟩ := (s.handLost p before.stations[p].presence).handArc_reads p q
    before.stations[p].desired.arc
  rw [State.handReset, State.motion, mu]
  refine ⟨gate, speed, fun dark => ?_, fun other => ⟨?_, ?_⟩⟩
  · rw [lamp, if_neg (fun both => absurd (both.2.symm.trans dark) nofun)]
    exact state
  · rw [lamp, if_neg (fun same => other same.1.symm)]
    exact (others other).1
  · rw [State.role, roles]
    exact (others other).2

end

/-! ### The line reset as a whole (R40) -/

/-- What every step of a fold keeps holds at its end. -/
theorem foldl_keeps {α σ : Type} {f : σ → α → σ} {P : σ → Prop} (keep : ∀ u x, P u → P (f u x)) (l : List α) (u : σ)
    (start : P u) : P (l.foldl f u) := by
  induction l generalizing u with
  | nil => exact start
  | cons x l ih => exact ih (f u x) (keep u x start)

/-- The gate of projector `p` closed where the line's act turned its motor from RUN to STOP. -/
def State.passStop (before : LineControl) (t : State) (p : Projector) : State :=
  if before.stations[p].desired.motor = .run && (t.station p).desired.motor = .stop then t.gateFollows p .stop else t

theorem State.passStops_eq (s : State) (before : LineControl) :
    s.passStops before = (List.finRange 8).foldl (State.passStop before) s := rfl

section

variable {s : State} (rest : s.lineCleared.Resting)

theorem State.Resting.passStop_eq {u : State} (h : u.Resting) (p : Projector) : u.passStop s.lc p =
    if (s.station p).desired.motor = .run then u.onMotion p Motion.closeGate else u := by
  have stopped : (u.station p).desired.motor = .stop := by rw [h.cleared]; rfl
  rw [State.passStop, h.gateFollows_stop]
  simp only [stopped, decide_true, Bool.and_true, decide_eq_true_eq]
  rfl

include rest

/-- What holds of the cleared line and is kept by each gate closed holds as the gates are passed on. -/
theorem State.Resting.passStops_keeps {P : State → Prop} (start : P s.lineCleared)
    (gate : ∀ u q, P u → (s.station q).desired.motor = .run → P (u.onMotion q Motion.closeGate)) :
    P (s.lineCleared.passStops s.lc) ∧ s.lineCleared.Rests (s.lineCleared.passStops s.lc) := by
  rw [State.passStops_eq]
  refine foldl_keeps (P := fun u => P u ∧ s.lineCleared.Rests u) (fun u q held => ?_) _ _ ⟨start, .refl _⟩
  obtain ⟨kept, rests⟩ := held
  rw [(rests.resting rest).passStop_eq]
  split
  · exact ⟨gate u q kept ‹_›, rests.trans ⟨rfl, rfl, rfl, rfl, rfl, rfl, fun _ => .inr rfl, fun _ => id⟩⟩
  · exact ⟨kept, rests⟩

/-- What holds once the gates are passed on and is kept by each station handed on holds at the end. -/
theorem State.Resting.handed_keeps {P : State → Prop} (start : P (s.lineCleared.passStops s.lc))
    (hand : ∀ u q, u.Resting → P u → P (u.handReset s.lc q)) : P s.lineReset ∧ s.lineCleared.Rests s.lineReset := by
  have passed := (rest.passStops_keeps (P := fun _ => True) trivial fun _ _ _ _ => trivial).2
  rw [State.lineReset_eq]
  refine foldl_keeps (P := fun u => P u ∧ s.lineCleared.Rests u) (fun u q held => ?_) _ _ ⟨start, passed⟩
  obtain ⟨kept, rests⟩ := held
  exact ⟨hand u q (rests.resting rest) kept, rests.trans ((rests.resting rest).rests_handReset s.lc q)⟩

/-- What the station of `p` handed on brings about, and the other stations keep, holds at the end. -/
theorem State.Resting.lineReset_brings {I P : State → Prop} (p : Projector) (start : I s.lineCleared)
    (gate : ∀ u q, I u → I (u.onMotion q Motion.closeGate))
    (inv : ∀ u q, u.Resting → I u → I (u.handReset s.lc q)) (make : ∀ u, u.Resting → I u → P (u.handReset s.lc p))
    (keep : ∀ u q, u.Resting → I u → q ≠ p → P u → P (u.handReset s.lc q)) : P s.lineReset := by
  rw [State.lineReset_eq]
  refine foldl_brings (I := fun u => I u ∧ s.lineCleared.Rests u) (fun u q held => ?_) (fun u q held made => ?_)
    (List.mem_finRange p) (fun u held => make u (held.2.resting rest) held.1) _
    (rest.passStops_keeps start fun u q held _ => gate u q held)
  · obtain ⟨kept, rests⟩ := held
    exact ⟨inv u q (rests.resting rest) kept, rests.trans ((rests.resting rest).rests_handReset s.lc q)⟩
  · obtain ⟨kept, rests⟩ := held
    by_cases same : q = p
    · subst same
      exact make u (rests.resting rest) kept
    · exact keep u q (rests.resting rest) kept same made

theorem State.Resting.rests_lineReset : s.lineCleared.Rests s.lineReset :=
  (rest.handed_keeps (P := fun _ => True) trivial fun _ _ _ _ => trivial).2

theorem State.Resting.gate_lineReset (p : Projector) :
    ((s.station p).desired.motor = .run →
      (s.lineReset.motion p).gate = .closed ∧ (s.lineReset.motion p).speed = .stopped)
    ∧ ((s.station p).desired.motor = .stop → (s.lineReset.motion p).gate = (s.motion p).gate) := by
  constructor
  · intro running
    have passed : ((s.lineCleared.passStops s.lc).motion p).gate = .closed
        ∧ ((s.lineCleared.passStops s.lc).motion p).speed = .stopped := by
      rw [State.passStops_eq]
      have closes : ∀ (u : State) q, s.lineCleared.Rests u → s.lineCleared.Rests (u.passStop s.lc q) :=
        fun u q rests => by
          rw [(rests.resting rest).passStop_eq]
          split
          · exact rests.trans ⟨rfl, rfl, rfl, rfl, rfl, rfl, fun _ => .inr rfl, fun _ => id⟩
          · exact rests
      refine foldl_brings (I := fun u => s.lineCleared.Rests u)
        (P := fun u => (u.motion p).gate = .closed ∧ (u.motion p).speed = .stopped) closes (fun u q rests shut => ?_)
        (List.mem_finRange p) (fun u rests => ?_) _ (.refl _)
      · rw [(rests.resting rest).passStop_eq]
        split
        · rw [State.motion_onMotion]
          split
          · exact ⟨rfl, rfl⟩
          · exact shut
        · exact shut
      · rw [(rests.resting rest).passStop_eq, if_pos running, State.motion_onMotion, if_pos rfl]
        exact ⟨rfl, rfl⟩
    refine (rest.handed_keeps (P := fun u => (u.motion p).gate = .closed ∧ (u.motion p).speed = .stopped) passed
      fun u q resting shut => ?_).1
    obtain ⟨gate, speed, -, -⟩ := resting.handReset_reads s.lc q p
    exact ⟨gate.trans shut.1, speed.trans shut.2⟩
  · intro stopped
    refine (rest.handed_keeps (P := fun u => (u.motion p).gate = (s.motion p).gate)
      (rest.passStops_keeps (P := fun u => (u.motion p).gate = (s.motion p).gate) rfl fun u q same running => ?_).1
        fun u q resting same => ((resting.handReset_reads s.lc q p).1).trans same).1
    rw [State.motion_onMotion, if_neg]
    · exact same
    · rintro rfl
      rw [stopped] at running
      exact nomatch running

theorem State.Resting.lamp_lineReset (p : Projector) :
    ((s.station p).desired.arc = .on → (s.lineReset.lamp p).state = .cold ∧ (s.lineReset.lamp p).feedRate = 0
      ∧ (s.lineReset.lamp p).holdTimer = none ∧ (s.lineReset.lamp p).cause = .lineReset)
    ∧ ((s.station p).desired.arc = .off → (s.lineReset.lamp p).state = (s.lamp p).state) := by
  constructor
  · intro lit
    refine rest.lineReset_brings (I := fun _ => True) (P := fun u => (u.lamp p).state = .cold ∧ (u.lamp p).feedRate = 0
      ∧ (u.lamp p).holdTimer = none ∧ (u.lamp p).cause = .lineReset) p trivial (fun _ _ _ => trivial)
      (fun _ _ _ _ => trivial) (fun u resting _ => ?_) fun u q resting _ other out => ?_
    · obtain ⟨-, -, lamp⟩ := (u.handLost p s.lc.stations[p].presence).handArc_reads p p s.lc.stations[p].desired.arc
      rw [State.handReset, lamp, if_pos ⟨rfl, lit⟩]
      exact ⟨rfl, rfl, rfl, rfl⟩
    · rw [((resting.handReset_reads s.lc q p).2.2.2 other.symm).1]
      exact out
  · intro dark
    have passed := (rest.passStops_keeps (P := fun u => u.lamp p = s.lamp p) rfl fun u q same _ => same).1
    refine (rest.handed_keeps (P := fun u => (u.lamp p).state = (s.lamp p).state) (by rw [passed])
      fun u q resting same => ?_).1
    obtain ⟨-, -, state, others⟩ := resting.handReset_reads s.lc q p
    by_cases mine : q = p
    · subst mine
      exact (state dark).trans same
    · rw [(others (Ne.symm mine)).1]
      exact same

/-- The notices of a line reset: of each lamp whose arc went off, and of each projector given up. -/
theorem State.Resting.noticed_lineReset (p : Projector) :
    ((s.station p).desired.arc = .on → noticed (noticeLampAttention p) s s.lineReset)
    ∧ (s.role p = .armed → (s.station p).presence ≠ .absent →
      noticed (noticeArmWithdrawn (screenOf p)) s s.lineReset) := by
  constructor
  · intro lit
    refine rest.lineReset_brings (I := fun u => u.pu.routes = s.pu.routes) (P := noticed (noticeLampAttention p) s) p rfl
      (fun _ _ same => same) (fun u q _ same => (u.act_handReset s.lc q).routes.trans same) (fun u _ same => ?_)
      fun u q _ _ _ held => held.andAct (u.act_handReset s.lc q)
    have lost := (u.act_handLost p s.lc.stations[p].presence).routes.trans same
    rw [State.handReset, State.handArc, if_pos (by exact lit), State.lampLineReset,
      State.handLamp_of_not_burning _ _ (Lamp.putOut_not_burning _)]
    refine State.noticed_lampAttention ?_ (.refl _)
    rw [State.examine_routes]
    exact lost
  · intro armed known
    have gives : ∀ u : State, u.Resting → u.pu.routes = s.pu.routes → u.role p = .armed →
        noticed (noticeArmWithdrawn (screenOf p)) s (u.handReset s.lc p) := fun u resting routes armed => by
      have given := ((u.lampPresence p s.lc.stations[p].presence .absent).noticed_withdraw p).before
        ((u.rests_lampPresence p s.lc.stations[p].presence .absent).routes.trans routes)
      rw [State.handReset, resting.handLost_eq (by exact known), if_pos armed]
      exact (given.andAct (State.act_examine _ _)).andAct (State.act_handArc _ _ _)
    refine rest.lineReset_brings (I := fun u => u.pu.routes = s.pu.routes
        ∧ (u.role p = .armed ∨ noticed (noticeArmWithdrawn (screenOf p)) s u))
      (P := noticed (noticeArmWithdrawn (screenOf p)) s) p ⟨rfl, .inl armed⟩ (fun _ _ held => held)
      (fun u q resting held => ⟨(u.act_handReset s.lc q).routes.trans held.1, ?_⟩)
      (fun u resting held => ?_) fun u q _ _ _ held => held.andAct (u.act_handReset s.lc q)
    · rcases held.2 with waits | done
      · by_cases mine : q = p
        · subst mine
          exact .inr (gives u resting held.1 waits)
        · exact .inl (((resting.handReset_reads s.lc q p).2.2.2 (Ne.symm mine)).2.trans waits)
      · exact .inr (done.andAct (u.act_handReset s.lc q))
    · rcases held.2 with waits | done
      · exact gives u resting held.1 waits
      · exact done.andAct (u.act_handReset s.lc p)

end

/-- Settles O24: the line cleared, the gates passed on, and each station's loss handed on in a resting booth. -/
theorem lineResetClearsTheStations : Obligations.LineResetClearsTheStations := by
  intro n s setup
  have ruled : exec (.lineReset n) s = console n (.lineReset n) s lineResetRule := rfl
  refine ⟨fun past => ?_, fun roles unqueued => ?_⟩
  · obtain ⟨p, past⟩ := past
    have some : s.anyPastArming = true :=
      List.any_eq_true.mpr ⟨p, List.mem_finRange p, by rcases past with h | h | h | h <;> simp [h, Role.isPastArming]⟩
    exact ruled.trans (console_ruled setup rfl (if_pos some))
  · have none : s.anyPastArming = false := by
      refine List.any_eq_false.mpr fun p _ => ?_
      rcases roles p with h | h <;> simp [h, Role.isPastArming]
    have rest : s.lineCleared.Resting := ⟨roles, unqueued, s.station_lineCleared⟩
    have end_ := rest.rests_lineReset
    have taken : lineResetRule s = ⟨.ok, [], s.lineReset⟩ := if_neg (by simp [none])
    refine ⟨_, ruled.trans (console_ruled setup rfl taken), fun p => (end_.resting rest).cleared p, ?_,
      fun p => (rest.gate_lineReset p).1, fun p => (rest.gate_lineReset p).2, fun p armed known => ⟨?_, ?_⟩, fun p idle => ?_,
      fun p lit => ?_, fun p => (rest.lamp_lineReset p).2, ?_, end_.hu, end_.fu⟩
    · rw [State.answer_lc, end_.lc]
      rfl
    · have given := s.not_readying_lineReset p known
      have known := (end_.resting rest).roles p
      rcases known with idle | armed
      · exact idle
      · exact absurd armed (fun h => given (.inl h))
    · exact ((rest.noticed_lineReset p).2 armed known).answer _ _ _ _
    · exact (end_.role p).elim id fun same => same.trans idle
    · obtain ⟨cold, feed, hold, cause⟩ := (rest.lamp_lineReset p).1 lit
      exact ⟨cold, feed, hold, cause, ((rest.noticed_lineReset p).1 lit).answer _ _ _ _⟩
    · exact answers_answer end_.passed end_.answers ..

end Sys2Proof.Machine
end

section
/-! PROOF. The booth made safe: what a trip entered from CLEAR leaves in every block (spec/08 R143, spec/02 R34, spec/03
R62, spec/05 R107, spec/07 R136). -/

namespace Sys2Proof.Machine

/-! ### The line under a trip (R34) -/

/-- The trip is in force at the line and its burst is all the queue. -/
structure State.TripQueued (s : State) : Prop where
  trip : s.lc.tripInForce = true
  queue : s.lc.burstQueue = [.trip]

/-- An incoming examined under a trip has no burst requested or withdrawn (R36, R115). -/
theorem State.TripQueued.lc_examine {s : State} (h : s.TripQueued) (c : Screen) : (s.examine c).lc = s.lc := by
  have refused : ∀ u : State, u.lc = s.lc → ∀ q, (u.requestIfReady c q).lc = s.lc := fun u same q => by
    have trip : u.burstRuling c = .trip := by rw [State.burstRuling, same, h.trip]; rfl
    have asked : (u.requestIfReady c q) = u := by
      unfold State.requestIfReady
      split
      · split
        · simp only [State.requestBurst, State.askBurst, trip]
        · rfl
      · rfl
    rw [asked, same]
  have kept : ∀ u : State, u.lc = s.lc → (u.withdrawBurst c).lc = s.lc := fun u same => by
    have none : u.lc.burstQueue.any (Burst.isOf c) = false := by rw [same, h.queue]; rfl
    simp only [State.withdrawBurst, State.askWithdraw, none]
    exact same
  unfold State.examine
  dsimp only
  split
  · exact refused (State.onChangeover _ _ _) rfl _
  · split
    · rfl
    · exact kept (State.onChangeover _ _ _) rfl
  all_goals rfl

theorem State.TripQueued.of_lc {s t : State} (h : s.TripQueued) (same : t.lc = s.lc) : t.TripQueued :=
  ⟨by rw [same, h.trip], by rw [same, h.queue]⟩

theorem State.tripQueued_lineStopped (s : State) : s.lineStopped.TripQueued := ⟨rfl, rfl⟩

/-- A gate that closes leaves the line alone under a trip. -/
theorem State.TripQueued.gateFollows_stop {s : State} (h : s.TripQueued) (p : Projector) :
    (s.gateFollows p .stop).lc = s.lc := by
  unfold State.gateFollows State.moveMotion
  dsimp only
  split
  · rfl
  · unfold State.onSpeed
    split
    · rename_i speed
      exact nomatch speed
    · rename_i speed
      exact nomatch speed
    · exact State.TripQueued.lc_examine (s := ((s.onMotion p _).setRole p .starting)) (h.of_lc rfl) _
    · rfl

theorem State.motion_gateFollows_stop (s : State) (p q : Projector) :
    (s.gateFollows p .stop).motion q = if p = q then (s.motion p).closeGate else s.motion q := by
  unfold State.gateFollows State.moveMotion
  dsimp only
  split
  · rw [State.motion_onMotion]
  · rw [State.onSpeed_motion, State.motion_onMotion]

section

variable (s : State)

theorem State.lc_passStops_lineStopped : (s.lineStopped.passStops s.lc).lc = s.lineStopped.lc := by
  rw [State.passStops_eq]
  refine foldl_keeps (P := fun u : State => u.lc = s.lineStopped.lc) (fun u q same => ?_) _ _ rfl
  unfold State.passStop
  split
  · exact ((s.tripQueued_lineStopped.of_lc same).gateFollows_stop q).trans same
  · exact same

theorem State.lc_lineTrip : s.lineTrip.lc = s.lineStopped.lc := by
  rw [State.lineTrip_eq]
  exact foldl_keeps (f := State.onBurstDropped) (P := fun u => u.lc = s.lineStopped.lc) (fun _ _ same => same) _ _
    s.lc_passStops_lineStopped

/-- The gate of a motor that was RUN is closed by the trip. -/
theorem State.gate_lineTrip (p : Projector) (running : (s.station p).desired.motor = .run) :
    (s.lineTrip.motion p).gate = .closed := by
  rw [State.lineTrip_eq]
  refine foldl_keeps (f := State.onBurstDropped) (P := fun u => (u.motion p).gate = .closed) (fun _ _ shut => shut) _ _ ?_
  rw [State.passStops_eq]
  have kept : ∀ (u : State) q, u.lc = s.lineStopped.lc → (u.passStop s.lc q).lc = s.lineStopped.lc := fun u q same => by
    unfold State.passStop
    split
    · exact ((s.tripQueued_lineStopped.of_lc same).gateFollows_stop q).trans same
    · exact same
  refine foldl_brings (I := fun u => u.lc = s.lineStopped.lc) (P := fun u : State => (u.motion p).gate = .closed) kept
    (fun u q _ shut => ?_) (List.mem_finRange p) (fun u same => ?_) _ rfl
  · unfold State.passStop
    split
    · rw [State.motion_gateFollows_stop]
      split
      · rfl
      · exact shut
    · exact shut
  · have stopped : (u.station p).desired.motor = .stop := by
      rw [State.station, same]
      exact congrArg (fun r : Station => r.desired.motor) (s.station_lineStopped p)
    rw [State.passStop, if_pos, State.motion_gateFollows_stop, if_pos rfl]
    · rfl
    · rw [Bool.and_eq_true, decide_eq_true_eq, decide_eq_true_eq]
      exact ⟨running, stopped⟩

/-! ### The lamps under a trip (R62) -/

theorem State.TripQueued.lc_lampTrip {s : State} (h : s.TripQueued) (p : Projector) : (s.lampTrip p).lc = s.lc := by
  unfold State.lampTrip
  split
  · rfl
  · rw [State.handLamp_of_not_burning _ _ (Lamp.putOut_not_burning _)]
    exact State.TripQueued.lc_examine (s := s.onLamp p _) (h.of_lc rfl) _

theorem State.lampTrip_reads (p q : Projector) : ((s.lampTrip p).lamp p).state = .cold
    ∧ ((s.lamp q).state = .cold → ((s.lampTrip p).lamp q).state = .cold) ∧ (s.lampTrip p).mu = s.mu := by
  unfold State.lampTrip
  split
  · exact ⟨‹_›, id, rfl⟩
  · rw [State.handLamp_of_not_burning _ _ (Lamp.putOut_not_burning _)]
    refine ⟨by simp [Lamp.putOut], fun cold => ?_, by simp⟩
    by_cases same : p = q <;> simp [same, cold, Lamp.putOut]

theorem State.lc_lampUnitTrip (h : s.TripQueued) : s.lampUnitTrip.lc = s.lc := by
  rw [State.lampUnitTrip_eq]
  exact foldl_keeps (P := fun u : State => u.lc = s.lc)
    (fun u p same => ((h.of_lc same).lc_lampTrip p).trans same) _ _ rfl

theorem State.mu_lampUnitTrip : s.lampUnitTrip.mu = s.mu := by
  rw [State.lampUnitTrip_eq]
  exact foldl_keeps (P := fun u : State => u.mu = s.mu) (fun u p same => (u.lampTrip_reads p p).2.2.trans same) _ _ rfl

theorem State.cold_lampUnitTrip (p : Projector) : (s.lampUnitTrip.lamp p).state = .cold := by
  rw [State.lampUnitTrip_eq]
  exact foldl_brings (I := fun _ => True) (P := fun u : State => (u.lamp p).state = .cold) (fun _ _ _ => trivial)
    (fun u q _ cold => (u.lampTrip_reads q p).2.1 cold) (List.mem_finRange p) (fun u _ => (u.lampTrip_reads p p).1) _
    trivial

/-! ### The screens under a trip (R107) -/

theorem ScreenRecord.trip_rests (r : ScreenRecord) :
    r.trip.state.performing = false ∧ r.trip.changeover.state.examined = false := by
  constructor
  · cases h : r.state <;> simp [ScreenRecord.trip, ScreenState.performing, h]
  · cases h : r.changeover.state <;>
      simp [ScreenRecord.trip, Changeover.abort, ChangeoverState.inFlight, ChangeoverState.examined, h]

theorem State.screenTrip_reads (c d : Screen) (p : Projector) : (s.screenTrip c).lc = s.lc ∧ (s.screenTrip c).lu = s.lu
    ∧ (s.screenTrip c).motion p =
      (if screenOf p = c then { s.motion p with framesRemaining := 0, watch := none } else s.motion p)
    ∧ (s.screenTrip c).screen d = if c = d then (s.screen c).trip else s.screen d := by
  have ended : ∀ (u : State) b, (u.endedIf c b).lc = u.lc ∧ (u.endedIf c b).lu = u.lu ∧ (u.endedIf c b).mu = u.mu
      ∧ (u.endedIf c b).su = u.su := fun u b => by
    unfold State.endedIf
    split <;> exact ⟨rfl, rfl, rfl, rfl⟩
  have sides : ∀ (c : Screen) (p : Projector),
      screenOf p = c ↔ projectorOf c .b = p ∨ projectorOf c .a = p := by decide
  unfold State.screenTrip
  dsimp only
  obtain ⟨lc, lu, mu, su⟩ := ended (((((s.setRole (projectorOf c .a) .idle).setRole (projectorOf c .b) .idle).clearCounter
    (projectorOf c .a)).clearCounter (projectorOf c .b)).onScreen c ScreenRecord.trip) (s.screen c).state.performing
  refine ⟨lc, lu, ?_, ?_⟩
  · rw [State.motion, mu]
    show (State.clearCounter _ _).motion p = _
    simp only [State.clearCounter, State.motion_onMotion, sides]
    by_cases b : projectorOf c .b = p
    · subst b; simp [(sides_differ c).symm]
    · by_cases a : projectorOf c .a = p
      · subst a; simp [b]
      · simp [a, b]
  · rw [State.screen, su]
    exact State.screen_onScreen ..

/-- What the trip of the show unit leaves of the other blocks, of the counters and of the screens. -/
theorem State.showTrip_reads (p : Projector) (c : Screen) : s.showTrip.lc = s.lc ∧ s.showTrip.lu = s.lu
    ∧ (s.showTrip.motion p).gate = (s.motion p).gate ∧ (s.showTrip.motion p).framesRemaining = 0
    ∧ (s.showTrip.screen c).state.performing = false ∧ (s.showTrip.screen c).changeover.state.examined = false := by
  rw [State.showTrip_eq]
  refine ⟨?_, ?_, ?_, ?_, ?_⟩
  · exact foldl_keeps (P := fun u : State => u.lc = s.lc) (fun u d same => (u.screenTrip_reads d c p).1.trans same) _ _ rfl
  · exact foldl_keeps (P := fun u : State => u.lu = s.lu) (fun u d same => (u.screenTrip_reads d c p).2.1.trans same) _ _
      rfl
  · refine foldl_keeps (P := fun u : State => (u.motion p).gate = (s.motion p).gate) (fun u d same => ?_) _ _ rfl
    obtain ⟨-, -, motion, -⟩ := u.screenTrip_reads d c p
    rw [motion, ← same]
    split <;> rfl
  · refine foldl_brings (I := fun _ => True) (P := fun u : State => (u.motion p).framesRemaining = 0) (fun _ _ _ => trivial)
      (fun u d _ zero => ?_) (List.mem_finRange (screenOf p)) (fun u _ => ?_) _ trivial
    · obtain ⟨-, -, motion, -⟩ := u.screenTrip_reads d c p
      rw [motion]
      split
      · rfl
      · exact zero
    · obtain ⟨-, -, motion, -⟩ := u.screenTrip_reads (screenOf p) c p
      rw [motion, if_pos rfl]
  · refine foldl_brings (I := fun _ => True) (P := fun u : State => (u.screen c).state.performing = false
      ∧ (u.screen c).changeover.state.examined = false) (fun _ _ _ => trivial)
      (fun u d _ rests => ?_) (List.mem_finRange c) (fun u _ => ?_) _ trivial
    · obtain ⟨-, -, -, screen⟩ := u.screenTrip_reads d c p
      rw [screen]
      split
      · exact ScreenRecord.trip_rests _
      · exact rests
    · obtain ⟨-, -, -, screen⟩ := u.screenTrip_reads c c p
      rw [screen, if_pos rfl]
      exact ScreenRecord.trip_rests _

/-! ### The trip signalled to every block (R143) -/

theorem State.lc_signalTrip : s.signalTrip.lc = s.lineStopped.lc := by
  rw [State.signalTrip, State.houseTrip, (State.showTrip_reads _ 0 0).1, State.lc_lampUnitTrip, s.lc_lineTrip]
  exact s.tripQueued_lineStopped.of_lc s.lc_lineTrip

theorem State.houseTrip_reads (p : Projector) (c : Screen) : s.houseTrip.motion p = s.motion p
    ∧ s.houseTrip.lamp p = s.lamp p ∧ s.houseTrip.screen c = s.screen c := ⟨rfl, rfl, rfl⟩

theorem State.signalTrip_reads (p : Projector) (c : Screen) :
    ((s.station p).desired.motor = .run → (s.signalTrip.motion p).gate = .closed)
    ∧ (s.signalTrip.lamp p).state = .cold ∧ (s.signalTrip.motion p).framesRemaining = 0
    ∧ (s.signalTrip.screen c).state.performing = false ∧ (s.signalTrip.screen c).changeover.state.examined = false := by
  obtain ⟨-, lu, gate, frames, resting, unexamined⟩ := s.lineTrip.lampUnitTrip.showTrip_reads p c
  obtain ⟨motion, lamp, screen⟩ := s.lineTrip.lampUnitTrip.showTrip.houseTrip_reads p c
  rw [State.signalTrip, motion, lamp, screen]
  refine ⟨fun running => ?_, ?_, frames, resting, unexamined⟩
  · rw [gate, State.motion, State.mu_lampUnitTrip]
    exact s.gate_lineTrip p running
  · rw [State.lamp, lu]
    exact s.lineTrip.cold_lampUnitTrip p

/-- With every projector IDLE and no changeover examined, a shutter's change moves nothing in the show unit. -/
theorem State.handShutter_of_idle (idle : ∀ p, s.role p = .idle)
    (unexamined : ∀ c, (s.screen c).changeover.state.examined = false) (k : Shutter) : s.handShutter k = s := by
  unfold State.handShutter
  split
  · rename_i p _
    rw [State.showShutter, State.withdrawIf, if_neg (by simp [idle p, Role.isReadying]),
      State.examine_of_not_examined]
    exact unexamined _
  · rfl

theorem State.handTripShutters_of_idle (before : FireUnit) (idle : ∀ p, s.role p = .idle)
    (unexamined : ∀ c, (s.screen c).changeover.state.examined = false) : s.handTripShutters before = s := by
  refine foldl_keeps (P := fun u => u = s) (fun u k same => ?_) _ _ rfl
  rw [same]
  split
  · rfl
  · exact s.handShutter_of_idle idle unexamined k

/-- The state of a trip just entered, but for the SHUT test. -/
theorem State.enterTrip_signalled (c : Cause) : s.enterTrip c = (s.fireTripped c).signalTrip.shutTest := by
  rw [State.enterTrip_eq, State.handTripShutters_of_idle]
  · exact fun p => State.role_signalTrip _ p
  · exact fun d => ((s.fireTripped c).signalTrip_reads 0 d).2.2.2.2

end

end Sys2Proof.Machine
end

section
/-! PROOF. The SHUT test, and the booth made safe by a trip entered from CLEAR (spec/08 R143, R146). -/

namespace Sys2Proof.Machine

variable (s : State)

/-! ### The SHUT test (R146) -/

theorem all_toList_iff {α : Type} {n : Nat} (v : Vector α n) (f : α → Bool) :
    v.toList.all f = true ↔ ∀ k : Fin n, f v[k] = true := by
  rw [List.all_eq_true]
  constructor
  · exact fun all k => all _ (by simp)
  · intro all x mem
    obtain ⟨i, small, rfl⟩ := List.mem_iff_getElem.mp mem
    simpa using all ⟨i, by simpa using small⟩

theorem State.allDown_iff : s.fu.allDown = true ↔ ∀ k, (s.shutter k).state = .closed ∨ (s.shutter k).state = .jammed := by
  rw [FireUnit.allDown, all_toList_iff]
  simp only [Bool.or_eq_true, decide_eq_true_eq]
  rfl

/-- From `s` to `t` at most the fire unit's own state and the ports' notices differ. -/
structure State.ShutTested (s t : State) : Prop where
  mu : t.mu = s.mu
  lc : t.lc = s.lc
  lu : t.lu = s.lu
  su : t.su = s.su
  hu : t.hu = s.hu
  pins : t.pins = s.pins
  pending : t.pending = s.pending
  fu : t.fu = { s.fu with state := t.fu.state }
  routes : t.pu.routes = s.pu.routes
  passed : t.pu.passed = s.pu.passed
  answers : t.pu.answers = s.pu.answers

theorem State.shutTested_shutTest : s.ShutTested s.shutTest := by
  unfold State.shutTest
  split
  · constructor <;> rfl
  · split <;> constructor <;> rfl
  · split <;> constructor <;> rfl

/-- In a trip the SHUT test follows the shutters. -/
theorem State.state_shutTest (trip : s.fu.state ≠ .clear) : s.shutTest.fu.state =
    if ∀ k, (s.shutter k).state = .closed ∨ (s.shutter k).state = .jammed then .shut else .tripped := by
  have down := s.allDown_iff
  unfold State.shutTest
  split
  · exact absurd ‹_› trip
  · split
    · rw [if_pos (down.mp ‹_›)]
      rfl
    · rw [if_neg (fun h => ‹¬_› (down.mpr h))]
      assumption
  · split
    · rw [if_pos (down.mp ‹_›)]
      assumption
    · rw [if_neg (fun h => ‹¬_› (down.mpr h))]
      rfl

theorem State.noticed_shutTest (tripped : s.fu.state = .tripped)
    (down : ∀ k, (s.shutter k).state = .closed ∨ (s.shutter k).state = .jammed) : noticed noticeFireShut s s.shutTest := by
  have all := s.allDown_iff.mpr down
  have shut : s.shutTest = (s.setFire .shut).raise noticeFireShut := by
    simp only [State.shutTest, tripped, all, if_true]
  rw [shut]
  refine noticed_of_raise ?_ (.refl _)
  rfl

/-! ### A trip entered from CLEAR (R143) -/

theorem ShutterRecord.trip_reads (r : ShutterRecord) : r.trip.limit = r.limit
    ∧ (r.limit = .active → r.trip.state = .closed ∧ r.trip.dropTimer = none)
    ∧ (r.limit = .inactive → (r.state = .opened ∨ r.state = .raising ∨ r.state = .dropping) →
        r.trip.state = .dropping ∧ r.trip.dropTimer = some ⟨1500, 0⟩)
    ∧ (r.limit = .inactive → r.state = .jammed → r.trip.state = .jammed) := by
  unfold ShutterRecord.trip
  dsimp only
  split
  · simp_all
  · refine ⟨?_, fun down => absurd down ‹_›, fun _ up => ?_, fun _ jammed => ?_⟩
    · split <;> rfl
    · rcases up with h | h | h <;> rw [h] <;> exact ⟨rfl, rfl⟩
    · rw [jammed]

/-- The booth is safe once a cause has been taken in CLEAR, from `s` on, where the notices' routes, the shutters but for
their limits and the motors that run are as in `s`. -/
theorem State.madeSafe_enterTrip {s u : State} (c : Cause) (routes : u.pu.routes = s.pu.routes)
    (motors : ∀ p, (s.station p).desired.motor = .run → (u.station p).desired.motor = .run)
    (shutters : ∀ k, (u.shutter k).limit = .inactive → (u.shutter k).state = (s.shutter k).state) :
    madeSafe c s (u.enterTrip c) ∧ (∀ k, ((u.enterTrip c).shutter k).limit = (u.shutter k).limit)
      ∧ (u.enterTrip c).fu.alarm = u.fu.alarm := by
  have tested := (u.fireTripped c).signalTrip.shutTested_shutTest
  obtain ⟨lineTrip, lampTrip, showTrip, override, fire⟩ := (u.fireTripped c).trip_signalTrip
  have notice : noticed noticeFireTrip s (u.enterTrip c) := by
    refine noticed.andGrow (t := u.fireTripped c) (fun n routed => ?_) (State.grows_tripped u c)
    exact noticed_raise { u with fu := u.fu.trip c } noticeFireTrip n (by rw [State.route, routes]; exact routed)
  rw [u.enterTrip_signalled] at notice ⊢
  have shutter : ∀ k, ((u.fireTripped c).signalTrip.shutTest).shutter k = (u.shutter k).trip := fun k => by
    rw [State.shutter, tested.fu, fire]
    exact u.shutter_fireTripped c k
  have state := State.state_shutTest (u.fireTripped c).signalTrip (by rw [fire]; exact nofun)
  have lc : ((u.fireTripped c).signalTrip.shutTest).lc = (u.fireTripped c).lineStopped.lc :=
    tested.lc.trans (State.lc_signalTrip _)
  have reads := (u.fireTripped c).signalTrip_reads
  refine ⟨⟨?_, ?_, fun k => ?_, fun k => ?_, fun k inactive up => ?_, fun k inactive jammed => ?_, ?_, ?_, ?_, fun p => ?_,
    fun d => ?_, fun p running => ?_, ?_, fun p => ?_, ?_, fun p => ?_, fun p => ?_, fun d => ?_, fun ch => ?_, notice⟩,
    fun k => ?_, ?_⟩
  · rw [tested.fu, fire]; rfl
  · rw [tested.fu, fire]; rfl
  · rw [shutter]; exact ShutterRecord.hold_trip _
  · rw [shutter, (ShutterRecord.trip_reads _).1]
    exact (ShutterRecord.trip_reads _).2.1
  · rw [shutter, (ShutterRecord.trip_reads _).1] at inactive
    rw [shutter]
    rw [← shutters k inactive] at up
    exact (ShutterRecord.trip_reads _).2.2.1 inactive up
  · rw [shutter, (ShutterRecord.trip_reads _).1] at inactive
    rw [shutter]
    rw [← shutters k inactive] at jammed
    exact (ShutterRecord.trip_reads _).2.2.2 inactive jammed
  · rw [state]
    have same : ∀ k, (u.fireTripped c).signalTrip.shutter k = ((u.fireTripped c).signalTrip.shutTest).shutter k :=
      fun k => by rw [State.shutter, State.shutter, tested.fu]
    simp only [same]
  · rw [lc]; rfl
  · rw [lc]; rfl
  · rw [State.station, lc]
    exact congrArg Station.desired ((u.fireTripped c).station_lineStopped p)
  · rw [State.watch, lc]
    exact (u.fireTripped c).watch_lineStopped d
  · rw [State.motion, tested.mu]
    exact (reads p 0).1 (motors p running)
  · rw [tested.lu, lampTrip]
  · rw [State.lamp, tested.lu]
    exact (reads p 0).2.1
  · rw [tested.su, showTrip]
  · rw [State.role, tested.su]
    exact State.role_signalTrip _ p
  · rw [State.motion, tested.mu]
    exact (reads p 0).2.2.1
  · have resting := (reads 0 d).2.2.2.1
    rw [State.screen, tested.su]
    refine ⟨fun h => ?_, fun h => ?_, fun h => ?_⟩
    all_goals
      rw [State.screen, h] at resting
      exact nomatch resting
  · rw [State.channel, tested.hu]
    have full : (u.fireTripped c).signalTrip.channel ch = _ := State.channel_houseTrip _ ch
    rw [State.channel] at full
    rw [full]
    exact ⟨rfl, rfl, rfl, rfl⟩
  · rw [shutter, (ShutterRecord.trip_reads _).1]
  · rw [tested.fu, fire]; rfl

end Sys2Proof.Machine
end

section
/-! PROOF. Any cause taken in CLEAR makes the booth safe (spec/08 R141 to R143). A gate flame flag comes with a report,
whose other parts stop no motor: cues and samples only ask RUN. -/

namespace Sys2Proof.Machine

/-! ### Motors that run on -/

/-- From `s` to `t` every motor desired RUN stays so. -/
structure State.RunsOn (s t : State) : Prop where
  run : ∀ p, (s.station p).desired.motor = .run → (t.station p).desired.motor = .run

namespace State.RunsOn

variable {s t u : State}

theorem refl (s : State) : s.RunsOn s := ⟨fun _ => id⟩

theorem trans (a : s.RunsOn t) (b : t.RunsOn u) : s.RunsOn u := ⟨fun p h => b.run p (a.run p h)⟩

theorem andThen (a : s.RunsOn t) {f : State → State} (h : ∀ u : State, u.RunsOn (f u)) : s.RunsOn (f t) := a.trans (h t)

theorem ite {c : Prop} [Decidable c] (h : c → s.RunsOn t) (k : ¬c → s.RunsOn u) : s.RunsOn (if c then t else u) := by
  split
  · exact h ‹_›
  · exact k ‹_›

end State.RunsOn

section

variable (s : State)

theorem State.runs_onDesired (p : Projector) (f : Desired → Desired) (keeps : ∀ d, d.motor = .run → (f d).motor = .run) :
    s.RunsOn (s.onDesired p f) := ⟨fun q h => by
  rw [State.station_onDesired]
  split
  · subst q; exact keeps _ h
  · exact h⟩

theorem State.runs_examine (c : Screen) : s.RunsOn (s.examine c) := ⟨fun p h => by rw [State.examine_station]; exact h⟩

theorem State.runs_askDouser (p : Projector) (v : Opening) : s.RunsOn (s.askDouser p v).2 := by
  rw [State.askDouser_eq, apply_ite Prod.snd]
  exact .ite (fun _ => .refl s) fun _ => s.runs_onDesired p (fun d => { d with douser := v }) fun _ => id

theorem State.runs_openDouserIf (p : Projector) (b : Bool) : s.RunsOn (s.openDouserIf p b) :=
  .ite (fun _ => s.runs_askDouser p .opened) fun _ => .refl s

theorem State.runs_becomeStandby (p : Projector) : s.RunsOn (s.becomeStandby p) :=
  ((show s.RunsOn (s.setRole p .standby) from ⟨fun _ => id⟩).andThen fun u => u.runs_openDouserIf p _).andThen
    fun u => u.runs_examine _

theorem State.runs_onSpeed (p : Projector) (v : Speed) : s.RunsOn (s.onSpeed p v) := by
  have back := (show s.RunsOn (s.setRole p .starting) from ⟨fun _ => id⟩).andThen fun u => u.runs_examine (screenOf p)
  unfold State.onSpeed
  split
  · exact s.runs_becomeStandby p
  · exact back
  · exact back
  · exact .refl s

theorem State.runs_moveMotion (p : Projector) (m : Motion) : s.RunsOn (s.moveMotion p m) :=
  .ite (fun _ => ⟨fun _ => id⟩) fun _ =>
    (show s.RunsOn (s.onMotion p fun _ => m) from ⟨fun _ => id⟩).andThen fun u => u.runs_onSpeed p _

theorem State.runs_askMotor_run (p : Projector) : s.RunsOn (s.askMotor p .run).2 := by
  rw [State.askMotor_eq, apply_ite Prod.snd]
  refine .ite (fun _ => .refl s) fun _ => .ite (fun _ => .refl s) fun _ => ?_
  exact (s.runs_onDesired p (fun d => { d with motor := .run }) fun _ _ => rfl).andThen fun u => u.runs_moveMotion p _

/-! ### Lamps -/

theorem State.runs_handLamp (p : Projector) (l : Lamp) : s.RunsOn (s.handLamp p l) :=
  ((show s.RunsOn (s.onLamp p fun _ => l) from ⟨fun _ => id⟩).andThen fun u => u.runs_openDouserIf p _).andThen
    fun u => u.runs_examine _

theorem State.runs_lampMoved (p : Projector) (arc : Switch) (l : Lamp) (c : LampCause) :
    s.RunsOn (s.lampMoved p arc l c) :=
  ((s.runs_onDesired p (fun d => { d with arc := arc }) fun _ => id).andThen fun u => u.runs_handLamp p l).trans
    ⟨fun _ => id⟩

theorem State.runs_strike (p : Projector) : s.RunsOn (s.strike p).2 := by
  unfold State.strike
  cases s.strikeRuling p
  case ok =>
    rw [State.askArc_eq]
    by_cases trip : Switch.on = .on ∧ s.lc.tripInForce = true
    · rw [if_pos trip]; exact .refl s
    · rw [if_neg trip]; exact s.runs_lampMoved p .on _ .strikeStarted
  all_goals exact .refl s

theorem State.runs_sample (p : Projector) (volts amps : Nat) : s.RunsOn (s.sample p volts amps) := by
  unfold State.sample
  split
  · exact .ite (fun _ => ⟨fun _ => id⟩) fun _ => .ite (fun _ => ⟨fun _ => id⟩) fun _ =>
      (s.runs_handLamp p _).trans ⟨fun _ => id⟩
  · exact .ite (fun _ => ⟨fun _ => id⟩) fun _ => .ite (fun _ => ⟨fun _ => id⟩) fun _ => s.runs_lampMoved p .off _ .arcOut
  all_goals exact .refl s

/-! ### Cues -/

theorem State.runs_strikeCue (c : Screen) : s.RunsOn (s.strikeCue c).2 := by
  unfold State.strikeCue
  split
  · exact .refl s
  split
  · exact .refl s
  rename_i side _
  have struck := s.runs_strike (projectorOf c side)
  split <;> simp_all

theorem State.runs_motorCue (c : Screen) : s.RunsOn (s.motorCue c).2 := by
  unfold State.motorCue
  split
  · rename_i p _
    have motor := s.runs_askMotor_run p
    unfold State.motorAction
    split
    · rename_i s1 asked
      rw [asked] at motor
      exact ((motor.trans (show s1.RunsOn (s1.setRole p .starting) from ⟨fun _ => id⟩)).andThen
        fun u => u.runs_examine _).andThen fun u => .ite (fun _ => u.runs_becomeStandby p) fun _ => .refl u
    · exact .refl s
  · exact ⟨fun _ => id⟩

theorem State.runs_douserCue (c : Screen) (x : DouserTarget) : s.RunsOn (s.douserCue c x).2 := by
  unfold State.douserCue
  split
  · exact .refl s
  rename_i p v _
  have asked := s.runs_askDouser p v
  split <;> simp_all

theorem State.runs_houseCue (c : Screen) (level time : Nat) : s.RunsOn (s.houseCue c level time).2 := by
  have faded : s.RunsOn (s.askFade c level time).2 := by
    unfold State.askFade State.fade
    split
    · exact .refl s
    · exact .ite (fun _ => ⟨fun _ => id⟩) fun _ => ⟨fun _ => id⟩
  unfold State.houseCue
  split <;> simp_all

theorem State.runs_openChangeover (c : Screen) (x : CueIx) : s.RunsOn (s.openChangeover c x) := by
  let opened : State := s.onChangeover c fun _ => ⟨.waitingReady, s.onScreenOf c, s.incomingOf c, some x, false, false⟩
  have requested : opened.RunsOn (opened.requestIfReady c (s.incomingOf c)) := ⟨fun p h => by
    rw [State.station, (opened.examines_requestIfReady c (s.incomingOf c)).lc]
    exact h⟩
  have waits : ∀ u : State, u.RunsOn (u.waitUnlessQueued c) := fun u => .ite (fun _ => .refl u) fun _ => ⟨fun _ => id⟩
  exact ((show s.RunsOn opened from ⟨fun _ => id⟩).trans requested).trans (waits _)

theorem State.runs_cueAction (c : Screen) (x : CueIx) : s.RunsOn (s.cueAction c x).2 := by
  unfold State.cueAction
  split
  · exact s.runs_strikeCue c
  · exact s.runs_motorCue c
  · exact s.runs_openChangeover c x
  · exact s.runs_douserCue c _
  · exact s.runs_houseCue c ..
  · exact ⟨fun _ => id⟩

theorem State.runs_dropCueWatch (c : Screen) (x : CueIx) : s.RunsOn (s.dropCueWatch c x) :=
  ⟨fun p h => by rw [State.dropCueWatch_station]; exact h⟩

theorem State.runs_fireCue (c : Screen) (x : CueIx) : s.RunsOn (s.fireCue c x) :=
  ((s.runs_dropCueWatch c x).andThen fun u => u.runs_cueAction c x).trans ⟨fun _ => id⟩

theorem State.runs_holdChange (c : Screen) (x : CueIx) : s.RunsOn (s.holdChange c x) :=
  (s.runs_dropCueWatch c x).trans ⟨fun _ => id⟩

theorem State.runs_evaluate (c : Screen) (x : CueIx) : s.RunsOn (s.evaluate c x).2 := by
  unfold State.evaluate
  split
  · exact .refl s
  · exact .refl s
  all_goals
    split
    · exact .refl s
    · split <;> exact ⟨fun _ => id⟩

theorem State.runs_runCues (fuel : Nat) (c : Screen) (s : State) : s.RunsOn (s.runCues fuel c) := by
  induction fuel generalizing s with
  | zero => exact .refl s
  | succ k ih =>
    simp only [State.runCues]
    split
    · exact .refl s
    split
    · exact .refl s
    rename_i x _
    have evaluated := s.runs_evaluate c x
    split
    · rename_i s1 waits
      rw [waits] at evaluated
      exact evaluated
    · rename_i s1 met
      rw [met] at evaluated
      exact .ite (fun _ => evaluated.trans (s1.runs_holdChange c x)) fun _ =>
        (evaluated.trans (s1.runs_fireCue c x)).trans (ih _)

theorem State.runs_takeCue (c : Screen) (x : CueIx) : s.RunsOn (s.takeCue c x) :=
  .ite (fun _ => s.runs_holdChange c x) fun _ => (s.runs_fireCue c x).trans (State.runs_runCues _ c _)

theorem State.runs_onMark (p : Projector) : s.RunsOn (s.onMark p) := by
  have taken : ∀ x, s.RunsOn ((s.raise (noticeMarkIrregular (screenOf p))).takeCue (screenOf p) x) := fun x =>
    (show s.RunsOn (s.raise _) from ⟨fun _ => id⟩).andThen fun u => u.runs_takeCue ..
  unfold State.onMark
  dsimp only
  split
  · exact .refl s
  split
  · exact .refl s
  split
  · split
    · exact ⟨fun _ => id⟩
    · split
      · exact s.runs_takeCue ..
      · exact taken _
  all_goals exact .refl s

theorem State.runs_onMarkCount (p : Projector) (k : Nat) : s.RunsOn (s.onMarkCount p k) := by
  unfold State.onMarkCount
  split
  · exact ⟨fun _ => id⟩
  · split
    · exact .refl s
    · exact (show s.RunsOn (s.setMark p (some k)) from ⟨fun _ => id⟩).andThen fun u => u.runs_onMark p

/-! ### Reports (R27 to R31) -/

theorem State.runs_measured (p : Projector) (fresh : Bool) (x : Report) : s.RunsOn (s.measured p fresh x) := by
  cases fresh with
  | false => exact s.runs_examine _
  | true =>
    exact ((s.runs_sample p x.volts x.amps).andThen fun u => u.runs_onMarkCount p x.marks).andThen
      fun u => u.runs_examine (screenOf p)

end

/-! ### The answers stay through a trip (R143) -/

/-- From `s` to `t` the pins, the notices' routes, the passed frames and the answers are as they were. -/
structure State.KeepsAnswers (s t : State) : Prop where
  pins : t.pins = s.pins
  routes : t.pu.routes = s.pu.routes
  passed : t.pu.passed = s.pu.passed
  answers : t.pu.answers = s.pu.answers

theorem State.KeepsAnswers.trans {s t u : State} (a : s.KeepsAnswers t) (b : t.KeepsAnswers u) : s.KeepsAnswers u :=
  ⟨b.pins.trans a.pins, b.routes.trans a.routes, b.passed.trans a.passed, b.answers.trans a.answers⟩

theorem State.Act.keepsAnswers {s t : State} (a : s.Act t) : s.KeepsAnswers t :=
  ⟨a.pins, a.routes, a.passed, a.answers⟩

section

variable (s : State)

theorem State.keepsAnswers_signalTrip : s.KeepsAnswers s.signalTrip := by
  have line : s.KeepsAnswers s.lineTrip :=
    (show s.KeepsAnswers s.lineStopped from ⟨rfl, rfl, rfl, rfl⟩).trans s.act_lineStopped_lineTrip.keepsAnswers
  have lamps : ∀ u : State, u.KeepsAnswers u.lampUnitTrip := fun u =>
    (show u.KeepsAnswers u.lampsTripped from ⟨rfl, rfl, rfl, rfl⟩).trans u.act_lampsTripped_lampUnitTrip.keepsAnswers
  have show_ : ∀ u : State, u.KeepsAnswers u.showTrip := fun u =>
    (show u.KeepsAnswers u.showTripped from ⟨rfl, rfl, rfl, rfl⟩).trans u.act_showTripped_showTrip.keepsAnswers
  have house : ∀ u : State, u.KeepsAnswers u.houseTrip := fun u => ⟨rfl, rfl, rfl, rfl⟩
  exact ((line.trans (lamps _)).trans (show_ _)).trans (house _)

theorem State.keepsAnswers_enterTrip (c : Cause) : s.KeepsAnswers (s.enterTrip c) := by
  have tested := (s.fireTripped c).signalTrip.shutTested_shutTest
  rw [s.enterTrip_signalled]
  exact ((show s.KeepsAnswers (s.fireTripped c) from ⟨rfl, rfl, rfl, rfl⟩).trans (State.keepsAnswers_signalTrip _)).trans
    ⟨tested.pins, tested.routes, tested.passed, tested.answers⟩

variable {s}

theorem State.takeCause_of_clear (clear : s.fu.state = .clear) (c : Cause) : s.takeCause c = s.enterTrip c := by
  simp only [State.takeCause, clear]

/-! ### The causes (R141) -/

theorem State.runs_onStation (s : State) (p : Projector) (f : Station → Station)
    (keeps : (f (s.station p)).desired = (s.station p).desired) : s.RunsOn (s.onStation p f) := ⟨fun q h => by
  rw [State.station_onStation]
  split
  · subst q
    rw [keeps]
    exact h
  · exact h⟩

/-- A good reply stops no motor, and leaves the fire unit and the routes. -/
theorem State.goodReply_runs (s : State) (p : Projector) : s.RunsOn (s.pollSent.goodReply p)
    ∧ (s.pollSent.goodReply p).fu = s.fu ∧ (s.pollSent.goodReply p).pu.routes = s.pu.routes := by
  have sent : s.RunsOn s.pollSent := ⟨fun q h => by rw [s.pollSent_station]; exact h⟩
  by_cases present : (s.station p).presence = .present
  · rw [State.goodReply_of_present (by rw [s.pollSent_station]; exact present)]
    exact ⟨sent.trans (State.runs_onStation _ p _ rfl), rfl, rfl⟩
  · by_cases first : (s.station p).goodRun = 0
    · rw [State.goodReply_first present first]
      exact ⟨sent.trans (State.runs_onStation _ p _ rfl), rfl, rfl⟩
    · rw [State.goodReply_second present (Nat.pos_of_ne_zero first), State.nowPresent]
      refine ⟨(sent.trans ?_).andThen fun u => u.runs_examine _, by simp, by simp⟩
      exact (State.runs_onStation s.pollSent p Station.found rfl).trans ⟨fun _ => id⟩

/-- A flame flag comes last of a report taken: no motor has been stopped, the fire unit is as it was. -/
theorem exec_replyReceived_flame {p : Projector} {begun : Nat} {signal : List Nat} {toggle : Bool} {x : Report}
    (heard : heardReply p begun signal toggle (some x) s) : ∃ u, exec (.replyReceived begun signal) s =
      .next (u.flameFlag p x.gateFlame) ∧ s.RunsOn u ∧ u.fu = s.fu ∧ u.pu.routes = s.pu.routes := by
  have taken := exec_replyReceived_heard heard
  obtain ⟨runs, fu, routes⟩ := s.goodReply_runs p
  by_cases present : ((s.pollSent.goodReply p).station p).presence = .present
  · rw [State.takeReply_of_present present] at taken
    let g := s.pollSent.goodReply p
    have act : (g.reported p toggle x).Act ((g.reported p toggle x).measured p
        (toggle = (g.station p).expectedToggle) x) :=
      (State.act_handMeasured ..).andThen fun u => u.act_examine _
    have reported : g.RunsOn (g.reported p toggle x) := ⟨fun q h => by
      rw [State.station_reported]
      split
      · unfold Station.takeReport
        split <;> exact h
      · exact h⟩
    exact ⟨_, taken, (runs.trans reported).trans (State.runs_measured ..), act.fu.trans fu, act.routes.trans routes⟩
  · rw [State.takeReply_of_not_present present] at taken
    exact ⟨_, taken, runs.trans ⟨fun _ => id⟩, fu, routes⟩

/-! ### Limits (R140, R145, R149) -/

/-- The accepted level of limit `k` and its pin written. -/
def State.limitAt (s : State) (k : Shutter) (level : Activity) : State :=
  State.onShutter { s with pins := { s.pins with limits := upd s.pins.limits k (fun _ => level) } } k
    (fun r => { r with limit := level, sampleRun := 0 })

theorem State.shutter_limitAt (s : State) (k j : Shutter) (level : Activity) : (s.limitAt k level).shutter j =
    if k = j then { s.shutter j with limit := level, sampleRun := 0 } else s.shutter j := by
  refine (State.shutter_onShutter ..).trans ?_
  split
  · subst j; rfl
  · rfl

/-- A limit's change acted on by the fire state and the level (R145, R149). -/
theorem State.limitChange_of_other {k : Shutter} {level : Activity} (other : (s.shutter k).limit ≠ level) :
    s.limitChange k level =
      if s.fu.state = .clear then
        if level = .active then (s.limitAt k level).limitDownClear k else (s.limitAt k level).limitUpClear k
      else if level = .active then (s.limitAt k level).limitDownTrip k else (s.limitAt k level).limitUpTrip k := by
  unfold State.limitChange
  dsimp only
  rw [if_neg other]
  cases s.fu.state <;> cases level <;> rfl

theorem madeSafe.answer {c : Cause} {s t : State} (h : madeSafe c s t) (n : Port) (i : Instr) (st : Status)
    (data : List Byte) : madeSafe c s (t.answer n i st data) := h

/-- Settles O33: each kind of cause reaches the fire unit in CLEAR, and a trip entered makes the booth safe. -/
theorem aCauseInClearMakesTheBoothSafe : Obligations.ACauseInClearMakesTheBoothSafe := by
  intro n k p begun signal toggle x s clear
  refine ⟨?_, fun inactive => ?_, fun opened inactive untested => ?_, fun heard flame => ?_⟩
  · have ruled : exec (.fireTrip n) s = console n (.fireTrip n) s (fun s => fireTripRule s n) := rfl
    have taken : fireTripRule s n = ⟨.ok, [], s.enterTrip (.manual n)⟩ := by
      rw [fireTripRule, State.takeCause_of_clear clear]
    obtain ⟨safe, limits, -⟩ := State.madeSafe_enterTrip (s := s) (u := s) (.manual n) rfl (fun _ => id) fun _ _ => rfl
    have kept := s.keepsAnswers_enterTrip (.manual n)
    refine ⟨_, ruled.trans (console_free rfl rfl taken), safe.answer .., fun j => ?_, answers_answer kept.passed
      kept.answers ..⟩
    rw [State.answer_shutter]
    exact limits j
  · have changed : s.alarmChange .active = (s.alarmAt .active).enterTrip .alarmLine := by
      rw [s.alarmChange_eq, if_pos (by simp [inactive])]
      exact State.takeCause_of_clear (s := s.alarmAt .active) clear _
    obtain ⟨safe, limits, alarm⟩ := State.madeSafe_enterTrip (s := s) (u := s.alarmAt .active) .alarmLine rfl
      (fun _ => id) fun _ _ => rfl
    have pins := ((s.alarmAt .active).keepsAnswers_enterTrip .alarmLine).pins
    exact ⟨_, congrArg Host.Outcome.next changed, safe, limits, alarm, by rw [pins]; rfl⟩
  · have shutter := s.shutter_limitAt k
    have changed : s.limitChange k .active = (s.limitAt k .active).enterTrip (.shutterFall k) := by
      have state : ((s.limitAt k .active).shutter k).state = .opened := by rw [shutter, if_pos rfl]; exact opened
      have test : (s.limitAt k .active).fu.underTest ≠ some k := untested
      rw [State.limitChange_of_other (by rw [inactive]; exact nofun), if_pos clear, if_pos rfl]
      simp only [State.limitDownClear, state, test, if_false]
      exact State.takeCause_of_clear (s := s.limitAt k .active) clear _
    obtain ⟨safe, limits, -⟩ := State.madeSafe_enterTrip (s := s) (u := s.limitAt k .active) (.shutterFall k) rfl
      (fun _ => id) fun j up => by
        rw [shutter] at up ⊢
        split at up
        · exact nomatch up
        · rw [if_neg ‹_›]
    refine ⟨_, congrArg Host.Outcome.next changed, safe, ?_, fun j other => ?_⟩
    · rw [limits, shutter, if_pos rfl]
    · rw [limits, shutter, if_neg (Ne.symm other)]
  · obtain ⟨u, taken, runs, fu, routes⟩ := exec_replyReceived_flame heard
    rw [flame, State.flameFlag, if_pos rfl, State.takeCause_of_clear (by rw [fu]; exact clear)] at taken
    have shutter : ∀ j, u.shutter j = s.shutter j := fun j => by rw [State.shutter, fu]; rfl
    obtain ⟨safe, limits, -⟩ := State.madeSafe_enterTrip (.gateFlame p) routes runs.run fun j _ => by rw [shutter]
    exact ⟨_, taken, safe, fun j => by rw [limits, shutter]⟩

end

end Sys2Proof.Machine
end

section
/-! PROOF. Causes and shutter events while a trip is in force (spec/08 R142, R145, R146). -/

namespace Sys2Proof.Machine

variable {s : State}

/-! ### Causes in a trip (R142) -/

theorem State.takeCause_of_trip (trip : s.fu.state ≠ .clear) (c : Cause) : s.takeCause c =
    if c ∈ s.fu.causes then s else (s.setCauses (s.fu.causes ++ [c])).raise noticeTripCauseAdded := by
  unfold State.takeCause
  split
  · exact absurd ‹_› trip
  · rfl
  · rfl

/-- What a cause taken in a trip leaves: the record, grown by a new source, and its notice. -/
theorem State.takeCause_trip_reads (trip : s.fu.state ≠ .clear) (c : Cause) :
    (s.takeCause c).fu = { s.fu with causes := if c ∈ s.fu.causes then s.fu.causes else s.fu.causes ++ [c] }
      ∧ (c ∉ s.fu.causes → noticed noticeTripCauseAdded s (s.takeCause c))
      ∧ (c ∈ s.fu.causes → s.takeCause c = s) ∧ onlyTouches [.fu, .pu] s (s.takeCause c)
      ∧ (s.takeCause c).pu.passed = s.pu.passed ∧ (s.takeCause c).pu.answers = s.pu.answers := by
  rw [State.takeCause_of_trip trip]
  by_cases known : c ∈ s.fu.causes
  · rw [if_pos known, if_pos known]
    exact ⟨rfl, fun new => absurd known new, fun _ => rfl, onlyTouches_refl _ s, rfl, rfl⟩
  · rw [if_neg known, if_neg known]
    refine ⟨rfl, fun _ => ?_, fun old => absurd old known, by simp [onlyTouches, State.setCauses], rfl, rfl⟩
    refine noticed_of_raise ?_ (.refl _)
    rfl

/-! ### Shutter events in a trip (R145, R146) -/

theorem State.moveShutter_reads (s : State) (k : Shutter) (r : ShutterRecord) :
    (s.moveShutter k r).fu = (s.onShutter k fun _ => r).fu ∧ (s.moveShutter k r).pu.routes = s.pu.routes := by
  unfold State.moveShutter
  dsimp only
  split
  · exact ⟨rfl, rfl⟩
  · have act := (s.onShutter k fun _ => r).act_handShutter k
    exact ⟨act.fu, act.routes⟩

/-- The SHUT test after shutter `k` has moved in a trip. -/
theorem State.moved_shutTest {v : State} {k : Shutter} {r : ShutterRecord} (trip : s.fu.state ≠ .clear)
    (fu : v.fu = { s.fu with shutters := v.fu.shutters })
    (shutter : ∀ j, v.shutter j = if k = j then r else s.shutter j) (hold : r.hold = (s.shutter k).hold)
    (test : r.lastTest = (s.shutter k).lastTest) (routes : v.pu.routes = s.pu.routes) :
    ((∀ j, j ≠ k → v.shutTest.shutter j = s.shutter j) ∧ (v.shutTest.shutter k).hold = (s.shutter k).hold
      ∧ (v.shutTest.shutter k).lastTest = (s.shutter k).lastTest ∧ v.shutTest.fu.causes = s.fu.causes
      ∧ v.shutTest.fu.underTest = s.fu.underTest
      ∧ ((∀ j, (v.shutTest.shutter j).state = .closed ∨ (v.shutTest.shutter j).state = .jammed) →
          v.shutTest.fu.state = .shut)
      ∧ (¬(∀ j, (v.shutTest.shutter j).state = .closed ∨ (v.shutTest.shutter j).state = .jammed) →
          v.shutTest.fu.state = .tripped)
      ∧ ((∀ j, (v.shutTest.shutter j).state = .closed ∨ (v.shutTest.shutter j).state = .jammed) →
          s.fu.state = .tripped → noticed noticeFireShut s v.shutTest))
    ∧ v.shutTest.shutter k = r := by
  have tested := v.shutTested_shutTest
  have kept : ∀ j, v.shutTest.shutter j = v.shutter j := fun j => by rw [State.shutter, tested.fu]; rfl
  have state := v.state_shutTest (by rw [fu]; exact trip)
  simp only [kept]
  refine ⟨⟨fun j other => ?_, ?_, ?_, ?_, ?_, fun down => ?_, fun up => ?_, fun down tripped => ?_⟩, ?_⟩
  · rw [shutter, if_neg (Ne.symm other)]
  · rw [shutter, if_pos rfl, hold]
  · rw [shutter, if_pos rfl, test]
  · rw [tested.fu, fu]
  · rw [tested.fu, fu]
  · rw [state, if_pos down]
  · rw [state, if_neg up]
  · exact (v.noticed_shutTest (by rw [fu]; exact tripped) down).before routes
  · rw [shutter, if_pos rfl]

theorem State.limitAt_moved (s : State) (k : Shutter) (level : Activity) (r : ShutterRecord) :
    ((s.limitAt k level).moveShutter k r).fu =
        { s.fu with shutters := ((s.limitAt k level).moveShutter k r).fu.shutters }
      ∧ (∀ j, ((s.limitAt k level).moveShutter k r).shutter j = if k = j then r else s.shutter j)
      ∧ ((s.limitAt k level).moveShutter k r).pu.routes = s.pu.routes := by
  obtain ⟨fu, routes⟩ := (s.limitAt k level).moveShutter_reads k r
  refine ⟨by rw [fu]; rfl, fun j => ?_, routes⟩
  rw [State.shutter, fu]
  refine (State.shutter_onShutter ..).trans ?_
  split
  · rfl
  · rw [s.shutter_limitAt, if_neg ‹_›]

/-- A DROPPING or JAMMED shutter whose limit comes in a trip is CLOSED, a drop timer under way stopped. -/
theorem State.limitDownTrip_of_up {k : Shutter} (up : (s.shutter k).state = .dropping ∨ (s.shutter k).state = .jammed) :
    s.limitDownTrip k = (s.moveShutter k { s.shutter k with
      state := .closed
      dropTimer := if (s.shutter k).state = .dropping then none else (s.shutter k).dropTimer }).shutTest := by
  rcases up with state | state <;> simp [State.limitDownTrip, state]

theorem State.dropTimeout_of_trip {k : Shutter} {x : Timer} (trip : s.fu.state ≠ .clear)
    (timed : (s.shutter k).dropTimer = some x) (dropping : (s.shutter k).state = .dropping) : s.dropTimeout k =
      ((s.moveShutter k { s.shutter k with state := .jammed, dropTimer := none }).raise noticeShutterJam).shutTest := by
  cases state : s.fu.state with
  | clear => exact absurd state trip
  | tripped => simp only [State.dropTimeout, timed, dropping, state]
  | shut => simp only [State.dropTimeout, timed, dropping, state]

/-! ### A gate flame flag with nothing else to act on (R28 to R31, R141) -/

theorem State.measured_of_dark {p : Projector} {fresh : Bool} {x : Report} (unseen : s.role p ≠ .onScreen)
    (unstruck : (s.lamp p).state ≠ .striking) (unlit : (s.lamp p).state ≠ .burning)
    (unexamined : (s.screen (screenOf p)).changeover.state.examined = false) :
    s.measured p fresh x = if fresh then s.setMark p (some x.marks) else s := by
  have dark : s.sample p x.volts x.amps = s := by
    unfold State.sample
    split
    · exact absurd ‹_› unstruck
    · exact absurd ‹_› unlit
    all_goals rfl
  cases fresh with
  | false => exact State.examine_of_not_examined _ _ unexamined
  | true =>
    have handed : s.handMeasured p true x = s.setMark p (some x.marks) := by
      rw [State.handMeasured, if_pos rfl, dark]
      exact State.onMarkCount_of_quiet (.inl unseen)
    rw [State.measured, handed, State.examine_of_not_examined]
    · rfl
    · exact unexamined

/-- The flag then meets a state in which only the line's records and the mark counts have changed. -/
theorem exec_replyReceived_quiet {p : Projector} {begun : Nat} {signal : List Nat} {toggle : Bool} {x : Report}
    (heard : heardReply p begun signal toggle (some x) s)
    (stays : (s.station p).presence = .present ∨ (s.station p).goodRun = 0) (unseen : s.role p ≠ .onScreen)
    (unstruck : (s.lamp p).state ≠ .striking) (unlit : (s.lamp p).state ≠ .burning)
    (unexamined : (s.screen (screenOf p)).changeover.state.examined = false) :
    ∃ u, exec (.replyReceived begun signal) s = .next (u.flameFlag p x.gateFlame) ∧ onlyTouches [.lc, .su] s u
      ∧ u.su = { s.su with marks := u.su.marks } := by
  by_cases present : (s.station p).presence = .present
  · refine ⟨_, exec_replyReceived_present heard present, ?_⟩
    rw [State.measured_of_dark (s := (s.answered p).reported p toggle x) unseen unstruck unlit unexamined]
    split
    · simp [onlyTouches, State.reported, State.answered, State.setMark]
    · simp [onlyTouches, State.reported, State.answered]
  · have first := stays.resolve_left present
    have absent : ((s.answeredOnce p).station p).presence ≠ .present := by
      rw [State.station_answeredOnce, if_pos rfl]; exact present
    have taken := exec_replyReceived_heard heard
    rw [State.takeReply_of_not_present (by rw [State.goodReply_first present first]; exact absent),
      State.goodReply_first present first] at taken
    exact ⟨_, taken, by simp [onlyTouches, State.answeredOnce], rfl⟩

/-- Settles O34: causes by the record they find, shutter events by the SHUT test after the shutter's move. -/
theorem eventsDuringATrip : Obligations.EventsDuringATrip := by
  refine ⟨fun n p begun signal toggle x s trip => ⟨fun known => ?_, fun new => ?_, fun inactive => ?_, ?_,
    fun heard flame => ?_⟩, fun k s trip => ⟨fun inactive up => ?_, fun active closed => ?_, fun x timed dropping => ?_⟩⟩
  · have ruled : exec (.fireTrip n) s = console n (.fireTrip n) s (fun s => fireTripRule s n) := rfl
    refine ruled.trans (console_free rfl rfl ?_)
    rw [fireTripRule, State.takeCause_of_trip trip, if_pos known]
  · have ruled : exec (.fireTrip n) s = console n (.fireTrip n) s (fun s => fireTripRule s n) := rfl
    obtain ⟨fu, notice, -, touched, passed, answers⟩ := State.takeCause_trip_reads trip (.manual n)
    rw [if_neg new] at fu
    exact ⟨_, ruled.trans (console_free rfl rfl rfl), fu, (notice new).answer _ _ _ _, answers_answer passed answers ..,
      touched.answer (by simp) (by simp) ..⟩
  · have changed : s.alarmChange .active = (s.alarmAt .active).takeCause .alarmLine := by
      rw [s.alarmChange_eq, if_pos (by simp [inactive])]
    obtain ⟨fu, notice, same, touched, -, -⟩ := State.takeCause_trip_reads (s := s.alarmAt .active) trip .alarmLine
    have own : onlyTouches [.fu, .pu, .pins] s (s.alarmAt .active) := by simp [onlyTouches, State.alarmAt]
    exact ⟨_, congrArg Host.Outcome.next changed, fu, fun new => (notice new).before rfl, fun known => by rw [same known]; rfl,
      own.trans (touched.mono (by simp))⟩
  · have changed : s.alarmChange .inactive = s.alarmAt .inactive := by
      rw [s.alarmChange_eq, if_neg (by simp)]
    exact ⟨_, congrArg Host.Outcome.next changed, rfl, by simp [onlyTouches, State.alarmAt]⟩
  · obtain ⟨u, taken, -, same, routes⟩ := exec_replyReceived_flame heard
    rw [flame, State.flameFlag, if_pos rfl] at taken
    have stays : u.fu.state ≠ .clear := by rw [same]; exact trip
    obtain ⟨fu, notice, -, -, -, -⟩ := State.takeCause_trip_reads stays (.gateFlame p)
    rw [same] at fu notice
    refine ⟨_, taken, fu, fun new => (notice new).before routes, fun stays unseen unstruck unlit waiting queued => ?_⟩
    have unexamined : (s.screen (screenOf p)).changeover.state.examined = false := by
      cases h : (s.screen (screenOf p)).changeover.state <;> simp_all [ChangeoverState.examined]
    obtain ⟨v, out, quiet, marks⟩ := exec_replyReceived_quiet heard stays unseen unstruck unlit unexamined
    rw [flame, State.flameFlag, if_pos rfl] at out
    rw [Host.Outcome.next.inj (taken.symm.trans out)]
    have fire : v.fu = s.fu := quiet.2.2.2.2.2.1 (by simp)
    obtain ⟨-, -, known, touched, -, -⟩ := State.takeCause_trip_reads (s := v) (by rw [fire]; exact trip) (.gateFlame p)
    rw [fire] at known
    have su : (v.takeCause (.gateFlame p)).su = v.su := touched.2.2.2.1 (by simp)
    refine ⟨(quiet.mono (by simp)).trans (touched.mono (by simp)), by rw [su, marks], fun recorded => ?_⟩
    rw [known recorded]
    exact quiet.2.2.2.2.2.2.1 (by simp)
  · have other : (s.shutter k).limit ≠ .active := by rw [inactive]; exact nofun
    have record := s.shutter_limitAt k k .active
    rw [if_pos rfl] at record
    have changed : s.limitChange k .active = (s.limitAt k .active).limitDownTrip k := by
      rw [State.limitChange_of_other other, if_neg trip, if_pos rfl]
    have shut := State.limitDownTrip_of_up (s := s.limitAt k .active) (k := k) (by rw [record]; exact up)
    rw [record] at shut
    obtain ⟨fu, shutter, routes⟩ := s.limitAt_moved k .active { s.shutter k with
      state := .closed, limit := .active, sampleRun := 0
      dropTimer := if (s.shutter k).state = .dropping then none else (s.shutter k).dropTimer }
    obtain ⟨kept, moved⟩ := State.moved_shutTest trip fu shutter rfl rfl routes
    refine ⟨_, congrArg Host.Outcome.next (changed.trans shut), kept, ?_, ?_, fun dropping => ?_⟩
    · rw [moved]
    · rw [moved]
    · rw [moved]
      exact if_pos dropping
  · have other : (s.shutter k).limit ≠ .inactive := by rw [active]; exact nofun
    have record := s.shutter_limitAt k k .inactive
    rw [if_pos rfl] at record
    have lifted : (s.limitAt k .inactive).limitUpTrip k = ((s.limitAt k .inactive).moveShutter k
        { (s.limitAt k .inactive).shutter k with state := .dropping, dropTimer := some ⟨1500, 0⟩ }).shutTest := by
      have state : ((s.limitAt k .inactive).shutter k).state = .closed := by rw [record]; exact closed
      simp only [State.limitUpTrip, state]
      rfl
    have changed : s.limitChange k .inactive = (s.limitAt k .inactive).limitUpTrip k := by
      rw [State.limitChange_of_other other, if_neg trip, if_neg nofun]
    obtain ⟨fu, shutter, routes⟩ := s.limitAt_moved k .inactive
      { (s.limitAt k .inactive).shutter k with state := .dropping, dropTimer := some ⟨1500, 0⟩ }
    obtain ⟨kept, moved⟩ := State.moved_shutTest trip fu shutter (by rw [record]) (by rw [record]) routes
    refine ⟨_, congrArg Host.Outcome.next (changed.trans lifted), kept, ?_, ?_, ?_⟩
    · rw [moved]
    · rw [moved, record]
    · rw [moved]
  · have out := State.dropTimeout_of_trip trip timed dropping
    obtain ⟨fu, routes⟩ := s.moveShutter_reads k { s.shutter k with state := .jammed, dropTimer := none }
    have shutter : ∀ j, ((s.moveShutter k { s.shutter k with state := .jammed, dropTimer := none }).raise
        noticeShutterJam).shutter j =
          if k = j then { s.shutter k with state := .jammed, dropTimer := none } else s.shutter j := fun j => by
      rw [State.raise_shutter, State.shutter, fu]
      exact State.shutter_onShutter ..
    obtain ⟨kept, moved⟩ := State.moved_shutTest trip (by rw [State.raise_fu, fu]; rfl) shutter rfl rfl
      (by rw [State.raise_routes, routes])
    refine ⟨_, congrArg Host.Outcome.next out, kept, ?_, ?_, ?_⟩
    · rw [moved]
    · rw [moved]
    · exact (noticed_of_raise routes (.refl _)).andGrow (State.grows_shutTest _)

end Sys2Proof.Machine
end

section
/-! PROOF. The rearm and the drop tests of the shutters (spec/08 R147 to R151). -/

namespace Sys2Proof.Machine

variable {s : State}

/-! ### The rearm (R147, R148) -/

theorem State.mayRearm_iff : s.mayRearm = true ↔ s.fu.state = .shut ∧ (∀ k, (s.shutter k).state = .closed)
    ∧ ∀ c ∈ s.fu.causes, s.causeClear c = true := by
  rw [State.mayRearm, Bool.and_eq_true, Bool.and_eq_true, all_toList_iff, List.all_eq_true, and_assoc]
  simp only [decide_eq_true_eq]
  rfl

/-- With every projector IDLE and no changeover examined, the rearm is its own records and its notice. -/
theorem State.rearm_of_idle (idle : ∀ p, s.role p = .idle)
    (unexamined : ∀ c, (s.screen c).changeover.state.examined = false) : s.rearm = s.rearmed := by
  rw [State.rearm_eq]
  refine foldl_keeps (P := fun u => u = s.rearmed) (fun u k same => ?_) _ _ rfl
  rw [same]
  exact State.handShutter_of_idle s.rearmed idle unexamined k

theorem State.unexamined_of_settled {c : Screen} (waiting : (s.screen c).changeover.state ≠ .waitingReady)
    (queued : (s.screen c).changeover.state ≠ .queued) : (s.screen c).changeover.state.examined = false := by
  cases h : (s.screen c).changeover.state <;> simp_all [ChangeoverState.examined]

theorem noticed_rearmed : noticed noticeFireRearmed s s.rearmed := by
  have raised : noticed noticeFireRearmed s (State.raise { s with fu := s.fu.rearm } noticeFireRearmed) :=
    noticed_raise { s with fu := s.fu.rearm } noticeFireRearmed
  exact raised

/-! ### Shutters moved in CLEAR (R149 to R151) -/

theorem State.mayTest_iff {k : Shutter} : s.mayTest k = true ↔ s.fu.state = .clear ∧ s.fu.underTest = none
    ∧ (s.shutter k).state = .opened ∧ ∀ p, shutterProjector k = some p → s.role p = .idle := by
  unfold State.mayTest
  cases shutterProjector k <;> simp [and_assoc]

/-- A shutter moved: its record, and what is handed on to the show unit for an IDLE projector's. -/
theorem State.moveShutter_shutter (s : State) (k j : Shutter) (r : ShutterRecord) :
    (s.moveShutter k r).shutter j = if k = j then r else s.shutter j := by
  rw [State.shutter, (s.moveShutter_reads k r).1]
  exact State.shutter_onShutter ..

theorem State.moveShutter_fire (s : State) (k : Shutter) (r : ShutterRecord) :
    (s.moveShutter k r).fu = { s.fu with shutters := (s.moveShutter k r).fu.shutters } := by
  rw [(s.moveShutter_reads k r).1]
  rfl

theorem State.act_moveShutter (s : State) (k : Shutter) (r : ShutterRecord) :
    ((s.onShutter k fun _ => r)).Act (s.moveShutter k r) := by
  unfold State.moveShutter
  dsimp only
  split
  · exact .refl _
  · exact State.act_handShutter _ k

theorem State.moveShutter_of_idle {k : Shutter} {r : ShutterRecord}
    (idle : ∀ p, shutterProjector k = some p → s.role p = .idle) :
    (s.moveShutter k r).su.roles = s.su.roles ∧ onlyTouches [.lc, .su, .fu, .pu] s (s.moveShutter k r) := by
  have own : onlyTouches [.lc, .su, .fu, .pu] s (s.onShutter k fun _ => r) := by simp [onlyTouches]
  unfold State.moveShutter
  dsimp only
  split
  · exact ⟨rfl, own⟩
  · unfold State.handShutter
    split
    · rename_i p mine
      rw [State.showShutter, State.withdrawIf, if_neg (by simp [idle p mine, Role.isReadying])]
      exact ⟨State.examine_roles .., own.trans ((State.touches_examine ..).mono (by simp))⟩
    · exact ⟨rfl, own⟩

/-- A drop test ended: the shutter's record and the result's notice. -/
theorem State.endTest_reads (s : State) (k : Shutter) (v : ShutterState) (x : TestResult) :
    (s.endTest k v x).shutter k = (s.shutter k).endTest v x ∧ otherShuttersKept k s (s.endTest k v x)
      ∧ (s.endTest k v x).fu.underTest = none ∧ (s.endTest k v x).fu.state = s.fu.state
      ∧ noticed noticeShutterTestDone s (s.endTest k v x) := by
  have moved := (s.setUnderTest none).moveShutter_reads k ((s.shutter k).endTest v x)
  refine ⟨?_, fun j other => ?_, ?_, ?_, ?_⟩
  · exact ((s.setUnderTest none).moveShutter_shutter k k _).trans (if_pos rfl)
  · exact ((s.setUnderTest none).moveShutter_shutter k j _).trans (if_neg (Ne.symm other))
  · rw [State.endTest, State.raise_fu, moved.1]; rfl
  · rw [State.endTest, State.raise_fu, moved.1]; rfl
  · exact noticed_of_raise moved.2 (.refl _)

theorem exec_fireRearm {n : Port} {st : Status} {data : List Byte} {t : State} (safety : (s.port n).safety = true)
    (ruling : fireRearmRule s = ⟨st, data, t⟩) :
    exec (.fireRearm n) s = .next (t.answer n (.fireRearm n) st data) :=
  (show exec (.fireRearm n) s = console n (.fireRearm n) s fireRearmRule from rfl).trans
    (console_ruled safety rfl ruling)

theorem exec_shutterTest {n : Port} {k : Shutter} {st : Status} {data : List Byte} {t : State}
    (safety : (s.port n).safety = true) (ruling : shutterTestRule s k = ⟨st, data, t⟩) :
    exec (.shutterTest n (numberOf k)) s = .next (t.answer n (.shutterTest n (numberOf k)) st data) := by
  unfold exec; dsimp only
  exact console_ruled safety (oneTo_numberOf k) (by rw [onNumber_numberOf, ruling])

/-- Settles O35: the rearm taken or refused, and the shutters' moves in CLEAR. -/
theorem rearmAndDropTests : Obligations.RearmAndDropTests := by
  refine ⟨fun n s => ⟨fun none => ?_, fun safety unfit => ?_, fun safety shut closed clear idle settled => ?_⟩,
    fun n k s => ⟨fun none => ?_, fun safety unfit => ?_, fun safety clear free opened idle => ?_,
      fun clear test dropping => ⟨fun inactive => ?_, fun x timed => ?_⟩, fun clear raising active => ?_,
      fun clear jammed inactive => ?_⟩⟩
  · have ruled : exec (.fireRearm n) s = console n (.fireRearm n) s fireRearmRule := rfl
    exact ruled.trans (console_denied n _ s _ none)
  · refine exec_fireRearm safety (if_neg ?_)
    rw [State.mayRearm_iff]
    rintro ⟨shut, closed, clear⟩
    rcases unfit with other | ⟨k, up⟩ | ⟨c, recorded, there⟩
    · exact other shut
    · exact up (closed k)
    · rw [clear c recorded] at there
      exact nomatch there
  · have unexamined := fun c => State.unexamined_of_settled (settled c).1 (settled c).2
    have taken : fireRearmRule s = ⟨.ok, [], s.rearmed⟩ := by
      rw [fireRearmRule, if_pos (State.mayRearm_iff.mpr ⟨shut, closed, clear⟩), State.rearm_of_idle idle unexamined]
    refine ⟨_, exec_fireRearm safety taken, rfl, rfl, s.shutter_rearmed, rfl, rfl, rfl, rfl, s.channel_rearmed, rfl,
      noticed_rearmed.answer _ _ _ _, rfl, ?_⟩
    simp [onlyTouches, State.rearmed, State.lineRearm, State.lampUnitRearm, State.showRearm, State.houseRearm]
  · have ruled : exec (.shutterTest n (numberOf k)) s = console n (.shutterTest n (numberOf k)) s
        (fun s => onNumber (numberOf k) s (shutterTestRule s)) := rfl
    exact ruled.trans (console_denied n _ s _ none)
  · refine exec_shutterTest safety (if_neg ?_)
    rw [State.mayTest_iff]
    rintro ⟨clear, free, opened, idle⟩
    rcases unfit with trip | busy | shut | ⟨p, mine, role⟩
    · exact trip clear
    · exact busy free
    · exact shut opened
    · exact role (idle p mine)
  · have taken : shutterTestRule s k = ⟨.ok, [], s.startTest k⟩ :=
      if_pos (State.mayTest_iff.mpr ⟨clear, free, opened, idle⟩)
    let record : ShutterRecord :=
      { s.shutter k with state := .dropping, hold := .released, dropTimer := some ⟨1500, 0⟩ }
    have started : s.startTest k = (s.setUnderTest (some k)).moveShutter k record := rfl
    have act := (s.setUnderTest (some k)).act_moveShutter k record
    obtain ⟨roles, touched⟩ := State.moveShutter_of_idle (s := s.setUnderTest (some k)) (r := record) idle
    rw [started] at taken
    have own : onlyTouches [.lc, .su, .fu, .pu] s (s.setUnderTest (some k)) := by simp [onlyTouches, State.setUnderTest]
    refine ⟨_, exec_shutterTest safety taken, ?_, ?_, ?_, ?_, fun j other => ?_, roles, answers_answer act.passed
      act.answers .., (own.trans touched).answer (by simp) (by simp) ..⟩
    · rw [State.answer_fu, State.moveShutter_fire]; rfl
    · rw [State.answer_fu, State.moveShutter_fire]; exact clear
    · rw [State.answer_fu, State.moveShutter_fire]; rfl
    · rw [State.answer_shutter, State.moveShutter_shutter, if_pos rfl]
    · rw [State.answer_shutter, State.moveShutter_shutter, if_neg (Ne.symm other)]; rfl
  · have record := s.shutter_limitAt k k .active
    rw [if_pos rfl] at record
    have changed : s.limitChange k .active = (s.limitAt k .active).endTest k .raising .pass := by
      have state : ((s.limitAt k .active).shutter k).state = .dropping := by rw [record]; exact dropping
      have mine : (s.limitAt k .active).fu.underTest = some k := test
      rw [State.limitChange_of_other (by rw [inactive]; exact nofun), if_pos clear, if_pos rfl]
      simp only [State.limitDownClear, state, mine, if_true]
    obtain ⟨shutter, others, free, state, notice⟩ := (s.limitAt k .active).endTest_reads k .raising .pass
    refine ⟨_, congrArg Host.Outcome.next changed, ?_, free, state.trans clear, notice.before rfl, fun j other => ?_⟩
    · rw [shutter, record]; rfl
    · rw [others j other, s.shutter_limitAt, if_neg (Ne.symm other)]
  · have out : s.dropTimeout k = s.endTest k .jammed .fail := by
      simp only [State.dropTimeout, timed, clear, dropping, test, if_true]
    obtain ⟨shutter, others, free, state, notice⟩ := s.endTest_reads k .jammed .fail
    exact ⟨_, congrArg Host.Outcome.next out, shutter, free, state.trans clear, notice, others⟩
  · have record := s.shutter_limitAt k k .inactive
    rw [if_pos rfl] at record
    have changed : s.limitChange k .inactive = (s.limitAt k .inactive).moveShutter k
        { (s.limitAt k .inactive).shutter k with state := .opened } := by
      have state : ((s.limitAt k .inactive).shutter k).state = .raising := by rw [record]; exact raising
      rw [State.limitChange_of_other (by rw [active]; exact nofun), if_pos clear, if_neg nofun]
      simp only [State.limitUpClear, state]
    refine ⟨_, congrArg Host.Outcome.next changed, ?_, fun j other => ?_, ?_, ?_⟩
    · rw [State.moveShutter_shutter, if_pos rfl, record]
    · rw [State.moveShutter_shutter, if_neg (Ne.symm other), s.shutter_limitAt, if_neg (Ne.symm other)]
    · rw [State.moveShutter_fire]; exact clear
    · rw [State.moveShutter_fire]; rfl
  · have record := s.shutter_limitAt k k .active
    rw [if_pos rfl] at record
    have changed : s.limitChange k .active = (s.limitAt k .active).moveShutter k
        { (s.limitAt k .active).shutter k with state := .raising } := by
      have state : ((s.limitAt k .active).shutter k).state = .jammed := by rw [record]; exact jammed
      rw [State.limitChange_of_other (by rw [inactive]; exact nofun), if_pos clear, if_pos rfl]
      simp only [State.limitDownClear, state]
    refine ⟨_, congrArg Host.Outcome.next changed, ?_, fun j other => ?_, ?_, ?_⟩
    · rw [State.moveShutter_shutter, if_pos rfl, record]
    · rw [State.moveShutter_shutter, if_neg (Ne.symm other), s.shutter_limitAt, if_neg (Ne.symm other)]
    · rw [State.moveShutter_fire]; exact clear
    · rw [State.moveShutter_fire]; rfl

end Sys2Proof.Machine
end

section
/-! PROOF. The mains, the firings and the steps of the fades (spec/07 R126 to R130, R134). -/

namespace Sys2Proof.Machine

/-! ### A valid crossing (R130) -/

/-- From `s` to `t` the channels in `l` have crossed, each with its notice where its fade arrives. -/
structure State.Crosses (l : List Channel) (s t : State) : Prop where
  mains : t.hu.mains = s.hu.mains
  channel : ∀ ch, t.channel ch = if ch ∈ l then (s.channel ch).cross s.hu.mains.h else s.channel ch
  notice : ∀ ch ∈ l, (s.channel ch).reaches = true → noticed (noticeHouseFadeDone ch) s t
  act : ∀ n, (s.port n).grownTo (t.port n)
  routes : t.pu.routes = s.pu.routes
  touched : onlyTouches [.hu, .pu] s t

theorem State.crossChannel_reads (s : State) (c : Channel) : (s.crossChannel c).hu.mains = s.hu.mains
    ∧ (∀ ch, (s.crossChannel c).channel ch = if c = ch then (s.channel c).cross s.hu.mains.h else s.channel ch)
    ∧ ((s.channel c).reaches = true → noticed (noticeHouseFadeDone c) s (s.crossChannel c))
    ∧ s.Grows (s.crossChannel c) ∧ (s.crossChannel c).pu.routes = s.pu.routes
    ∧ onlyTouches [.hu, .pu] s (s.crossChannel c) := by
  have grown : s.Grows ((s.onChannel c (HouseChannel.cross s.hu.mains.h)).raise (noticeHouseFadeDone c)) :=
    (show s.Grows (s.onChannel c (HouseChannel.cross s.hu.mains.h)) from .of_pu rfl).trans (State.grows_raise _ _)
  unfold State.crossChannel
  dsimp only
  split
  · refine ⟨rfl, fun ch => State.channel_onChannel .., fun _ => ?_, grown, rfl, by simp [onlyTouches]⟩
    refine noticed_of_raise ?_ (.refl _)
    rfl
  · exact ⟨rfl, fun ch => State.channel_onChannel .., fun reaches => absurd reaches ‹_›, .of_pu rfl, rfl,
      by simp [onlyTouches]⟩

theorem State.crosses_foldl (l : List Channel) (nodup : l.Nodup) (s : State) :
    s.Crosses l (l.foldl State.crossChannel s) := by
  induction l generalizing s with
  | nil =>
    exact ⟨rfl, fun ch => (if_neg List.not_mem_nil).symm, fun ch mem => absurd mem List.not_mem_nil, fun _ => .inl rfl, rfl,
      onlyTouches_refl _ s⟩
  | cons c l ih =>
    obtain ⟨fresh, nodup⟩ := List.nodup_cons.mp nodup
    obtain ⟨mains, channel, notice, grown, routes, touched⟩ := s.crossChannel_reads c
    obtain ⟨mains', channel', notice', grown', routes', touched'⟩ := ih nodup (s.crossChannel c)
    rw [List.foldl_cons]
    refine ⟨mains'.trans mains, fun ch => ?_, fun ch mem reaches => ?_, fun n => PortRecord.grownTo_trans (grown n) (grown' n),
      routes'.trans routes, touched.trans touched'⟩
    · rw [channel', channel, mains]
      by_cases same : c = ch
      · subst same
        simp [fresh]
      · simp [same, Ne.symm same]
    · rcases List.mem_cons.mp mem with rfl | later
      · exact (notice reaches).andGrow grown'
      · have other : c ≠ ch := fun same => fresh (same ▸ later)
        exact (notice' ch later (by rw [channel, if_neg other]; exact reaches)).before routes

theorem State.crosses_validCrossing (s : State) : s.Crosses (List.finRange 4) s.validCrossing :=
  State.crosses_foldl _ (List.nodup_finRange 4) s

theorem State.channel_validCrossing (s : State) (ch : Channel) :
    s.validCrossing.channel ch = (s.channel ch).cross s.hu.mains.h := by
  rw [s.crosses_validCrossing.channel, if_pos (List.mem_finRange ch)]

/-! ### A channel at a valid crossing (R129, R130, R134) -/

/-- A firing pending from the half-cycle that ends plays no part in the next. -/
theorem HouseChannel.cross_cancelled (c : HouseChannel) (h : Nat) :
    HouseChannel.cross h { c with firing := none } = c.cross h := by
  have reaches : HouseChannel.reaches { c with firing := none } = c.reaches := rfl
  simp only [HouseChannel.cross, HouseChannel.stepFade, reaches]
  split
  · rfl
  · split <;> rfl

theorem firingDelay_eq (h v : Nat) : firingDelay h v =
    if v = 0 ∨ h - 300 < max 100 (h * (1024 - conduction v) / 1024) then none
    else some (max 100 (h * (1024 - conduction v) / 1024)) := by
  unfold firingDelay
  by_cases dark : v = 0
  · rw [if_pos dark, if_pos (.inl dark)]
  · rw [if_neg dark]
    simp only [dark, false_or]
    rfl

theorem HouseChannel.stepFade_of_reached {c : HouseChannel} (h : c.reaches = true) : c.stepFade = c.arrive c.target :=
  if_pos h

theorem HouseChannel.stepFade_of_short {c : HouseChannel} (h : c.reaches = false) : c.stepFade =
    match c.direction with
    | .up => { c with fine := c.fine + c.step }
    | .down => { c with fine := c.fine - c.step }
    | .none => c := if_neg (by simp [h])

/-- A fade's step keeps what it does not move. -/
theorem HouseChannel.stepFade_keeps (c : HouseChannel) :
    c.stepFade.target = c.target ∧ c.stepFade.override = c.override ∧ c.stepFade.pulse = c.pulse := by
  unfold HouseChannel.stepFade
  split
  · exact ⟨rfl, rfl, rfl⟩
  · split <;> exact ⟨rfl, rfl, rfl⟩

/-! ### Crossings (R126, R127) -/

section

variable {s : State}

/-- The zero-cross pin and filter written, the half-cycle ended timed, and the firings cancelled. -/
def State.halfCycleEnded (s : State) : State :=
  ((State.onMains
    { s with pins := { s.pins with zeroCross := if s.hu.mains.accepted = .low then .high else .low } } fun m =>
      { m with
        accepted := if s.hu.mains.accepted = .low then .high else .low
        sampleRun := 0
        lastHalf := s.hu.mains.runningCount
        runningCount := 0 })).cancelFirings

theorem State.crossing_of_timing (timing : s.hu.mains.phase = .timing) : s.crossing =
    if 7000 ≤ s.hu.mains.runningCount ∧ s.hu.mains.runningCount ≤ 12000 then
      s.halfCycleEnded.goodHalfCycle s.hu.mains.runningCount else s.halfCycleEnded.badHalfCycle := by
  have valid : validLength s.hu.mains.runningCount = true ↔
      7000 ≤ s.hu.mains.runningCount ∧ s.hu.mains.runningCount ≤ 12000 := by
    rw [validLength, Bool.and_eq_true, decide_eq_true_eq, decide_eq_true_eq]
    rfl
  simp only [State.crossing, timing, valid]
  rfl

theorem State.channel_halfCycleEnded (ch : Channel) :
    s.halfCycleEnded.channel ch = { s.channel ch with firing := none } := State.channel_cancelFirings _ ch

theorem State.touches_halfCycleEnded : onlyTouches [.hu, .pins] s s.halfCycleEnded := by
  simp [onlyTouches, State.halfCycleEnded, State.cancelFirings]

theorem State.mains_halfCycleEnded : s.halfCycleEnded.hu.mains = { s.hu.mains with
    accepted := if s.hu.mains.accepted = .low then .high else .low
    sampleRun := 0
    lastHalf := s.hu.mains.runningCount
    runningCount := 0 } := rfl

/-- A valid half-cycle of VALID mains, or the fourth in a row of INVALID mains: every channel crosses. -/
theorem State.crossed_reads {v : State} (touched : onlyTouches [.hu, .pu, .pins] s v)
    (channel : ∀ ch, v.channel ch = { s.channel ch with firing := none }) (routes : v.pu.routes = s.pu.routes) :
    v.validCrossing.hu.mains = v.hu.mains
      ∧ (∀ ch, v.validCrossing.channel ch = (s.channel ch).cross v.hu.mains.h)
      ∧ (∀ ch, (s.channel ch).reaches = true → noticed (noticeHouseFadeDone ch) s v.validCrossing)
      ∧ onlyTouches [.hu, .pu, .pins] s v.validCrossing := by
  obtain ⟨mains, -, notice, -, -, own⟩ := v.crosses_validCrossing
  refine ⟨mains, fun ch => ?_, fun ch reaches => ?_, touched.trans (own.mono (by simp))⟩
  · rw [State.channel_validCrossing, channel, HouseChannel.cross_cancelled]
  · exact (notice ch (List.mem_finRange ch) (by rw [channel]; exact reaches)).before routes

theorem State.crossing_of_valid (valid : s.hu.mains.state = .valid) (timing : s.hu.mains.phase = .timing)
    (good : 7000 ≤ s.hu.mains.runningCount ∧ s.hu.mains.runningCount ≤ 12000) : s.crossing =
      (s.halfCycleEnded.onMains fun m => { m with h := s.hu.mains.runningCount }).validCrossing := by
  rw [State.crossing_of_timing timing, if_pos good]
  simp only [State.goodHalfCycle, State.mains_halfCycleEnded, valid]

theorem State.crossing_of_invalid (invalid : s.hu.mains.state = .invalid) (timing : s.hu.mains.phase = .timing)
    (good : 7000 ≤ s.hu.mains.runningCount ∧ s.hu.mains.runningCount ≤ 12000) : s.crossing =
      if s.hu.mains.validRun < 3 then s.halfCycleEnded.onMains fun m => { m with validRun := m.validRun + 1 }
      else ((s.halfCycleEnded.onMains fun m => { m with
        state := .valid, validRun := 0, h := s.hu.mains.runningCount }).raise noticeMainsRestored).validCrossing := by
  have runs : s.hu.mains.validRun + 1 < Config.validRuns ↔ s.hu.mains.validRun < 3 := Nat.succ_lt_succ_iff
  rw [State.crossing_of_timing timing, if_pos good]
  simp only [State.goodHalfCycle, State.mains_halfCycleEnded, invalid, runs]

theorem State.crossing_of_bad (timing : s.hu.mains.phase = .timing)
    (bad : s.hu.mains.runningCount < 7000 ∨ 12000 < s.hu.mains.runningCount) :
    s.crossing = s.halfCycleEnded.badHalfCycle := by
  rw [State.crossing_of_timing timing, if_neg]
  rintro ⟨low, high⟩
  rcases bad with short | long
  · exact absurd low (Nat.not_le.mpr short)
  · exact absurd high (Nat.not_le.mpr long)

/-- A half-cycle judged bad: VALID mains are lost, and every firing is off. -/
theorem State.badHalfCycle_reads (s : State) : s.badHalfCycle.hu.mains = { s.hu.mains with state := .invalid, validRun := 0 }
    ∧ (s.hu.mains.state = .valid → noticed noticeMainsLost s s.badHalfCycle
        ∧ ∀ ch, s.badHalfCycle.channel ch = { s.channel ch with firing := none })
    ∧ (s.hu.mains.state = .invalid → s.badHalfCycle.hu.channels = s.hu.channels)
    ∧ onlyTouches [.hu, .pu] s s.badHalfCycle := by
  unfold State.badHalfCycle
  split
  · rename_i valid
    refine ⟨rfl, fun _ => ⟨?_, fun ch => State.channel_cancelFirings _ ch⟩, fun invalid => ?_,
      by simp [onlyTouches, State.cancelFirings]⟩
    · exact noticed_raise (s.onMains _) noticeMainsLost
    · rw [valid] at invalid
      exact nomatch invalid
  · rename_i invalid
    refine ⟨?_, fun valid => ?_, fun _ => rfl, by simp [onlyTouches]⟩
    · rw [State.mains_onMains, ← invalid]
    · rw [invalid] at valid
      exact nomatch valid

theorem HouseChannel.cross_reads (c : HouseChannel) (h : Nat) :
    (c.cross h).lastDelay = firingDelay h ((c.cross h).fine / 256)
      ∧ (c.cross h).firing = firingDelay h ((c.cross h).fine / 256) ∧ (c.cross h).target = c.target
      ∧ (c.cross h).override = c.override ∧ (c.cross h).pulse = c.pulse :=
  ⟨rfl, rfl, c.stepFade_keeps⟩

/-- How one step moves a fade (R134). -/
theorem HouseChannel.cross_fade (c : HouseChannel) (h : Nat) :
    (c.direction = .none → (c.cross h).fine = c.fine ∧ (c.cross h).direction = .none ∧ (c.cross h).step = c.step)
      ∧ (c.reaches = true →
          (c.cross h).fine = c.target * 256 ∧ (c.cross h).direction = .none ∧ (c.cross h).step = 0)
      ∧ (c.direction = .up → c.reaches = false →
          (c.cross h).fine = c.fine + c.step ∧ (c.cross h).direction = .up ∧ (c.cross h).step = c.step)
      ∧ (c.direction = .down → c.reaches = false →
          (c.cross h).fine = c.fine - c.step ∧ (c.cross h).direction = .down ∧ (c.cross h).step = c.step) := by
  refine ⟨fun none => ?_, fun reached => ?_, fun up short => ?_, fun down short => ?_⟩
  · have short : c.reaches = false := by simp [HouseChannel.reaches, none]
    simp [HouseChannel.cross, HouseChannel.setFiring, HouseChannel.stepFade_of_short short, none]
  · simp [HouseChannel.cross, HouseChannel.setFiring, HouseChannel.stepFade_of_reached reached, HouseChannel.arrive]
  · simp [HouseChannel.cross, HouseChannel.setFiring, HouseChannel.stepFade_of_short short, up]
  · simp [HouseChannel.cross, HouseChannel.setFiring, HouseChannel.stepFade_of_short short, down]

theorem HouseChannel.reaches_iff (c : HouseChannel) :
    (c.direction = .up → (c.reaches = true ↔ c.target * 256 ≤ c.fine + c.step))
      ∧ (c.direction = .down → (c.reaches = true ↔ c.fine ≤ c.target * 256 + c.step)) := by
  constructor <;> intro h <;> simp [HouseChannel.reaches, h]

end

theorem State.onChannel_self {s : State} (ch : Channel) (f : HouseChannel → HouseChannel)
    (same : f (s.channel ch) = s.channel ch) : s.onChannel ch f = s := by
  rw [State.onChannel, upd_self _ _ _ same]

theorem State.touches_timed (f : Mains → Mains) (s : State) :
    onlyTouches [.hu, .pu, .pins] s (s.halfCycleEnded.onMains f) :=
  (State.touches_halfCycleEnded.mono (by simp)).trans (by simp [onlyTouches])

/-- Settles O31: a crossing by the phase, the judgment and the state of the mains; the channels by `HouseChannel.cross`. -/
theorem mainsCrossingsAreJudged : Obligations.MainsCrossingsAreJudged := by
  refine ⟨fun s valid timing low high => ?_, fun s => ⟨fun awaiting => ?_, fun timing invalid low high => ?_,
    fun timing bad => ?_, fun timing => ?_, fun ch d pending => ?_, fun awaiting => ?_, fun ch quiet => ?_⟩⟩
  · obtain ⟨mains, channel, notice, touched⟩ := State.crossed_reads
      (State.touches_timed (fun m => { m with h := s.hu.mains.runningCount }) s)
      (fun ch => State.channel_halfCycleEnded ch) rfl
    rw [← State.crossing_of_valid valid timing ⟨low, high⟩] at mains channel notice touched
    refine ⟨s.crossing, rfl, mains, fun ch => ?_, touched⟩
    obtain ⟨delay, firing, target, override, pulse⟩ := (s.channel ch).cross_reads s.hu.mains.runningCount
    obtain ⟨still, reached, up, down⟩ := (s.channel ch).cross_fade s.hu.mains.runningCount
    obtain ⟨reachesUp, reachesDown⟩ := (s.channel ch).reaches_iff
    have crossed : s.crossing.channel ch = (s.channel ch).cross s.hu.mains.runningCount := channel ch
    dsimp only
    rw [crossed, ← firingDelay_eq]
    refine ⟨delay, firing, target, override, pulse, still, fun rising arrives => ?_, fun rising short => ?_,
      fun falling arrives => ?_, fun falling short => ?_⟩
    · have arrived := (reachesUp rising).mpr arrives
      exact ⟨(reached arrived).1, (reached arrived).2.1, (reached arrived).2.2, notice ch arrived⟩
    · refine up rising (Bool.eq_false_iff.mpr fun h => ?_)
      exact absurd ((reachesUp rising).mp h) (Nat.not_le.mpr short)
    · have arrived := (reachesDown falling).mpr arrives
      exact ⟨(reached arrived).1, (reached arrived).2.1, (reached arrived).2.2, notice ch arrived⟩
    · obtain ⟨fine, direction, step⟩ := down falling (Bool.eq_false_iff.mpr fun h =>
        absurd ((reachesDown falling).mp h) (Nat.not_le.mpr short))
      refine ⟨?_, direction, step⟩
      rw [fine]
      omega
  · have first : s.crossing = State.onMains
        { s with pins := { s.pins with zeroCross := if s.hu.mains.accepted = .low then .high else .low } } (fun m =>
          { m with
            accepted := if s.hu.mains.accepted = .low then .high else .low
            sampleRun := 0
            phase := .timing
            runningCount := 0 }) := by
      simp only [State.crossing, awaiting]
    exact ⟨_, congrArg Host.Outcome.next first, rfl, rfl, by simp [onlyTouches]⟩
  · have crossing := State.crossing_of_invalid invalid timing ⟨low, high⟩
    by_cases early : s.hu.mains.validRun < 3
    · rw [if_pos early] at crossing
      refine ⟨_, congrArg Host.Outcome.next crossing, fun _ => ⟨invalid, rfl, rfl, fun ch => ?_⟩,
        fun late => absurd early (Nat.not_lt.mpr late), rfl, rfl, State.touches_timed ..⟩
      rw [State.onMains_channel, State.channel_halfCycleEnded]
      exact ⟨rfl, rfl⟩
    · rw [if_neg early] at crossing
      have touched : onlyTouches [.hu, .pu, .pins] s ((s.halfCycleEnded.onMains fun m => { m with
          state := .valid, validRun := 0, h := s.hu.mains.runningCount }).raise noticeMainsRestored) :=
        (State.touches_timed (fun m => { m with
          state := .valid, validRun := 0, h := s.hu.mains.runningCount }) s).trans (by simp [onlyTouches])
      have restored : noticed noticeMainsRestored s ((s.halfCycleEnded.onMains fun m => { m with
          state := .valid, validRun := 0, h := s.hu.mains.runningCount }).raise noticeMainsRestored) :=
        (noticed_raise (s.halfCycleEnded.onMains _) noticeMainsRestored)
      have grown := (State.crosses_validCrossing ((s.halfCycleEnded.onMains fun m => { m with
          state := .valid, validRun := 0, h := s.hu.mains.runningCount }).raise noticeMainsRestored)).act
      obtain ⟨mains, channel, -, touched⟩ :=
        State.crossed_reads touched (fun ch => State.channel_halfCycleEnded ch) rfl
      have restored := restored.andGrow grown
      rw [← crossing] at mains channel touched restored
      exact ⟨s.crossing, rfl, fun early' => absurd early' early, fun _ => ⟨congrArg Mains.state mains,
        congrArg Mains.validRun mains, congrArg Mains.h mains, restored, channel⟩, congrArg Mains.lastHalf mains,
        congrArg Mains.runningCount mains, touched⟩
  · have crossing := State.crossing_of_bad timing bad
    obtain ⟨mains, lost, still, touched⟩ := s.halfCycleEnded.badHalfCycle_reads
    rw [← crossing] at mains lost still touched
    refine ⟨s.crossing, rfl, congrArg Mains.state mains, congrArg Mains.validRun mains, by rw [mains]; rfl,
      congrArg Mains.lastHalf mains, (congrArg Mains.phase mains).trans timing, fun valid => (lost valid).1, fun ch => ?_,
      (State.touches_halfCycleEnded.mono (by simp)).trans (touched.mono (by simp))⟩
    cases judged : s.hu.mains.state with
    | valid => rw [(lost judged).2, State.channel_halfCycleEnded]
    | invalid => exact (congrFun (congrArg Vector.get (still judged)) ch).trans (State.channel_halfCycleEnded ch)
  · obtain ⟨mains, lost, still, touched⟩ := State.badHalfCycle_reads
      (s.onMains fun m => { m with lastHalf := Config.overrunCount, phase := .awaiting, runningCount := 0 })
    have ended : s.overrun = (s.onMains fun m =>
        { m with lastHalf := Config.overrunCount, phase := .awaiting, runningCount := 0 }).badHalfCycle := by
      rw [State.overrun, timing]
    refine ⟨_, congrArg Host.Outcome.next ended, congrArg Mains.state mains, congrArg Mains.validRun mains, by rw [mains]; rfl,
      congrArg Mains.lastHalf mains, congrArg Mains.phase mains, congrArg Mains.runningCount mains, fun valid =>
        ⟨(lost valid).1, fun ch => congrArg HouseChannel.firing ((lost valid).2 ch)⟩, fun ch => ?_, .trans (by simp [onlyTouches]) touched⟩
    cases judged : s.hu.mains.state with
    | valid =>
      rw [(lost judged).2]
      exact ⟨rfl, rfl⟩
    | invalid =>
      have same := congrFun (congrArg Vector.get (still judged)) ch
      exact ⟨congrArg HouseChannel.fine same, congrArg HouseChannel.direction same⟩
  · refine ⟨s.onChannel ch HouseChannel.fire, rfl, ?_, fun c other => ?_, rfl, by simp [onlyTouches]⟩
    · rw [State.channel_onChannel, if_pos rfl, HouseChannel.fire, pending]
      rfl
    · rw [State.channel_onChannel, if_neg (Ne.symm other)]
  · refine congrArg Host.Outcome.next ?_
    rw [State.overrun, awaiting]
  · have same : HouseChannel.fire (s.channel ch) = s.channel ch := by
      rw [HouseChannel.fire, quiet]
    exact congrArg Host.Outcome.next (State.onChannel_self ch HouseChannel.fire same)

end Sys2Proof.Machine
end

section
/-! PROOF. House fades asked for, and their way to their target (spec/07 R132 to R134). -/

namespace Sys2Proof.Machine

/-! ### Rounding up (R133) -/

/-- A quotient rounded up, by what brackets it. -/
theorem roundUp_brackets {d n : Nat} (some : 0 < n) (away : 0 < d) :
    0 < (d + n - 1) / n ∧ d ≤ (d + n - 1) / n * n ∧ ((d + n - 1) / n - 1) * n < d := by
  have low := Nat.div_mul_le_self (d + n - 1) n
  have high := Nat.lt_div_mul_add (a := d + n - 1) some
  have pos : 0 < (d + n - 1) / n := Nat.div_pos (by omega) some
  refine ⟨pos, by omega, ?_⟩
  rw [Nat.sub_mul, one_mul]
  omega

/-- A step rounded up takes no more steps than it was rounded for. -/
theorem roundUp_le {d n s : Nat} (step : 0 < s) (covers : d ≤ s * n) : (d + s - 1) / s ≤ n := by
  rw [Nat.div_le_iff_le_mul step, mul_comm]
  omega

/-! ### A fade on its way (R134) -/

/-- A running fade that has `d` left to its target. -/
structure HouseChannel.Heads (f : HouseChannel) (d : Nat) : Prop where
  away : 0 < d
  ahead : (f.direction = .up ∧ f.fine + d = f.target * 256) ∨ (f.direction = .down ∧ f.target * 256 + d = f.fine)

namespace HouseChannel.Heads

variable {f : HouseChannel} {d : Nat}

/-- A fade started runs toward its target, by a step that covers its distance in time. -/
theorem start {c : HouseChannel} {target time h : Nat} (runs : c.atOnce target time h = false) :
    (c.startFade target time h).Heads (c.distance target) := by
  have far : c.distance target ≠ 0 := by simp_all [HouseChannel.atOnce]
  have distance : c.distance target = (c.fine - target * 256) + (target * 256 - c.fine) := rfl
  refine ⟨Nat.pos_of_ne_zero far, ?_⟩
  by_cases below : c.fine < target * 256
  · exact .inl ⟨if_pos below, show c.fine + _ = target * 256 by omega⟩
  · exact .inr ⟨if_neg below, show target * 256 + _ = c.fine by omega⟩

theorem reaches_iff (on : f.Heads d) : f.reaches = true ↔ d ≤ f.step := by
  obtain ⟨up, down⟩ := f.reaches_iff
  obtain ⟨-, ⟨rising, left⟩ | ⟨falling, left⟩⟩ := on
  · rw [up rising]; omega
  · rw [down falling]; omega

theorem arrives (on : f.Heads d) (near : d ≤ f.step) : f.stepFade = f.arrive f.target :=
  HouseChannel.stepFade_of_reached (on.reaches_iff.mpr near)

theorem stays (on : f.Heads d) (far : f.step < d) : f.stepFade.Heads (d - f.step) ∧ f.stepFade.step = f.step
    ∧ f.stepFade.target = f.target ∧ f.stepFade.direction = f.direction := by
  have short : f.reaches = false := Bool.eq_false_iff.mpr fun h => absurd (on.reaches_iff.mp h) (Nat.not_le.mpr far)
  obtain ⟨-, ⟨rising, left⟩ | ⟨falling, left⟩⟩ := on
  · have up : f.stepFade = { f with fine := f.fine + f.step } := by
      rw [HouseChannel.stepFade_of_short short, rising]
    rw [up]
    exact ⟨⟨by omega, .inl ⟨rising, show f.fine + f.step + (d - f.step) = f.target * 256 by omega⟩⟩, rfl, rfl, rfl⟩
  · have down : f.stepFade = { f with fine := f.fine - f.step } := by
      rw [HouseChannel.stepFade_of_short short, falling]
    rw [down]
    exact ⟨⟨by omega, .inr ⟨falling, show f.target * 256 + (d - f.step) = f.fine - f.step by omega⟩⟩, rfl, rfl, rfl⟩

/-- After as many steps as leave some of its distance, a fade is still on its way. -/
theorem iterate (on : f.Heads d) (k : Nat) (far : k * f.step < d) :
    (HouseChannel.stepFade^[k] f).Heads (d - k * f.step) ∧ (HouseChannel.stepFade^[k] f).step = f.step
      ∧ (HouseChannel.stepFade^[k] f).target = f.target ∧ (HouseChannel.stepFade^[k] f).direction = f.direction := by
  induction k with
  | zero => simpa using on
  | succ k ih =>
    rw [Nat.succ_mul] at far
    obtain ⟨still, step, target, direction⟩ := ih (by omega)
    obtain ⟨next, step', target', direction'⟩ := still.stays (by omega)
    rw [Function.iterate_succ_apply', Nat.succ_mul]
    refine ⟨?_, step'.trans step, target'.trans target, direction'.trans direction⟩
    rwa [step, Nat.sub_sub] at next

theorem fine_ne (on : f.Heads d) : f.fine ≠ f.target * 256 := by
  obtain ⟨away, ⟨-, left⟩ | ⟨-, left⟩⟩ := on <;> omega

/-- A fade arrives at the step whose count covers its distance. -/
theorem arrives_at (on : f.Heads d) {k : Nat} (far : k * f.step < d) (near : d ≤ (k + 1) * f.step) :
    HouseChannel.stepFade^[k + 1] f = (HouseChannel.stepFade^[k] f).arrive f.target := by
  obtain ⟨still, step, target, -⟩ := on.iterate k far
  rw [Nat.succ_mul] at near
  rw [Function.iterate_succ_apply', still.arrives (by omega), target]

end HouseChannel.Heads

/-! ### HOUSE_FADE (R132, R133) -/

theorem State.fade_of_atOnce {s : State} {ch : Channel} {target time : Nat}
    (now : (s.channel ch).atOnce target time s.hu.mains.h = true) :
    s.fade ch target time = (s.onChannel ch (fun c => c.arrive target)).raise (noticeHouseFadeDone ch) := if_pos now

theorem State.fade_of_running {s : State} {ch : Channel} {target time : Nat}
    (runs : (s.channel ch).atOnce target time s.hu.mains.h = false) :
    s.fade ch target time = s.onChannel ch (fun c => c.startFade target time s.hu.mains.h) :=
  if_neg (by simp [runs])

theorem HouseChannel.atOnce_iff (c : HouseChannel) (target time h : Nat) :
    c.atOnce target time h = true ↔ halfCycles time h = 0 ∨ c.distance target = 0 := by simp [HouseChannel.atOnce]

theorem HouseChannel.atOnce_eq_false {c : HouseChannel} {target time h : Nat} (runs : c.atOnce target time h = false) :
    halfCycles time h ≠ 0 ∧ c.distance target ≠ 0 := by simpa [HouseChannel.atOnce] using runs

theorem exec_houseFade (n : Port) (ch : Channel) (level time : Nat) (s : State) (small : level < 256) {st : Status} {t : State}
    (asked : s.askFade ch level time = (st, t)) : exec (.houseFade n (numberOf ch) level time) s =
      .next (t.answer n (.houseFade n (numberOf ch) level time) st []) := by
  unfold exec
  dsimp only
  refine console_free rfl (oneTo_numberOf ch) ?_
  rw [onNumber_numberOf, houseFadeRule, byteArg, Nat.mod_eq_of_lt small, asked]

/-- What a fade leaves as it was. -/
theorem State.fade_keeps (s : State) (ch : Channel) (target time : Nat) :
    (s.fade ch target time).hu.mains = s.hu.mains
      ∧ (∀ k, k ≠ ch → (s.fade ch target time).channel k = s.channel k)
      ∧ (s.fade ch target time).pu.answers = s.pu.answers ∧ (s.fade ch target time).pu.passed = s.pu.passed
      ∧ onlyTouches [.hu, .pu] s (s.fade ch target time) := by
  unfold State.fade
  split
  · refine ⟨rfl, fun k other => ?_, rfl, rfl, by simp [onlyTouches]⟩
    rw [State.raise_channel, State.channel_onChannel, if_neg (Ne.symm other)]
  · refine ⟨rfl, fun k other => ?_, rfl, rfl, by simp [onlyTouches]⟩
    rw [State.channel_onChannel, if_neg (Ne.symm other)]

/-- Settles O32: the override refuses, `State.fade` sets or starts, and `HouseChannel.Heads` follows a started fade step by
step to its target. -/
theorem houseFadesStartAndArrive : Obligations.HouseFadesStartAndArrive := by
  refine ⟨fun n ch level time s small => ⟨fun on => ?_, fun off => ?_⟩, fun c target time h runs => ?_⟩
  · exact exec_houseFade n ch level time s small (if_pos on)
  · have asked : s.askFade ch level time = (.ok, s.fade ch level (min time 6000)) := if_neg (by simp [off])
    have clamp : min time 6000 = if 6000 < time then 6000 else time := by rw [min_comm, min_def_lt]
    have distance : (s.channel ch).distance level = if (s.channel ch).fine ≤ level * 256 then
        level * 256 - (s.channel ch).fine else (s.channel ch).fine - level * 256 := by
      rw [HouseChannel.distance]
      split <;> omega
    obtain ⟨mains, others, answers, passed, touched⟩ := s.fade_keeps ch level (min time 6000)
    refine ⟨_, exec_houseFade n ch level time s small asked, ?_, others, mains, answers_answer passed answers .., touched.trans (by simp [onlyTouches])⟩
    dsimp only
    rw [← distance, ← clamp]
    have count : (min time 6000) * 100000 / s.hu.mains.h = halfCycles (min time 6000) s.hu.mains.h := rfl
    rw [count, State.answer_channel]
    cases now : (s.channel ch).atOnce level (min time 6000) s.hu.mains.h with
    | true =>
      have zero := ((s.channel ch).atOnce_iff ..).mp now
      have done : noticed (noticeHouseFadeDone ch) s (s.fade ch level (min time 6000)) := by
        rw [State.fade_of_atOnce now]
        exact noticed_raise (s.onChannel ch _) _
      rw [State.fade_of_atOnce now, State.raise_channel, State.channel_onChannel, if_pos rfl, ← State.fade_of_atOnce now]
      refine ⟨rfl, off, rfl, rfl, rfl, fun _ => ⟨rfl, rfl, rfl, done⟩, fun timed far => ?_⟩
      exact absurd zero (not_or.mpr ⟨timed, far⟩)
    | false =>
      obtain ⟨timed, far⟩ := HouseChannel.atOnce_eq_false now
      obtain ⟨-, covers, least⟩ := roundUp_brackets (Nat.pos_of_ne_zero timed) (Nat.pos_of_ne_zero far)
      rw [State.fade_of_running now, State.channel_onChannel, if_pos rfl]
      refine ⟨rfl, off, rfl, rfl, rfl, fun zero => absurd zero (not_or.mpr ⟨timed, far⟩), fun _ _ =>
        ⟨rfl, covers, least, rfl, rfl⟩⟩
  · have on := HouseChannel.Heads.start runs
    obtain ⟨timed, far⟩ := HouseChannel.atOnce_eq_false runs
    obtain ⟨step, covers, -⟩ := roundUp_brackets (Nat.pos_of_ne_zero timed) (Nat.pos_of_ne_zero far)
    obtain ⟨some, near, before⟩ := roundUp_brackets (n := (c.startFade target time h).step) step on.away
    have target_startFade : (c.startFade target time h).target = target := rfl
    dsimp only
    obtain ⟨k, last⟩ := Nat.exists_eq_add_of_lt some
    rw [Nat.zero_add] at last
    rw [last, Nat.add_sub_cancel] at before
    rw [last] at near
    refine ⟨some, roundUp_le step covers, fun j early => ?_, ?_⟩
    · have short : j * (c.startFade target time h).step < c.distance target :=
        (Nat.mul_le_mul_right _ (by omega)).trans_lt before
      obtain ⟨still, -, sameTarget, direction⟩ := on.iterate j short
      refine ⟨direction, fun there => still.fine_ne ?_⟩
      rw [there, sameTarget, target_startFade]
    · rw [last, on.arrives_at before near]
      exact ⟨rfl, rfl, Nat.mul_div_cancel target (by decide)⟩

end Sys2Proof.Machine
end

section
/-! PROOF. The records after POWER_ON (spec/01 R1, spec/08 R144, R154, spec/09 R157). -/

namespace Sys2Proof.Machine

variable (x : PowerOnPins)

theorem allDown_powerOnRecords : (powerOnRecords x).fu.allDown = true ↔ ∀ k : Shutter, x.limits[k] = .active := by
  rw [State.allDown_iff]
  refine forall_congr' fun k => ?_
  rw [shutter_powerOnRecords]
  cases x.limits[k] <;> simp [ShutterRecord.powerOn]

theorem route_powerOnRecords (k : Notice) (n : Port) : ((powerOnRecords x).route k).getLsbD n.val = true := by
  have all : (powerOnRecords x).route k = 7 := Vector.getElem_replicate _
  rw [all]
  revert n
  decide

/-- The notices pending at power-on: FIRE_TRIP, TRIP_CAUSE_ADDED for the alarm and FIRE_SHUT. -/
def powerOnNotices : NoticeSet :=
  1 ||| (if x.alarm = .active then 512 else 0) ||| (if (∀ k : Shutter, x.limits[k] = .active) then 2 else 0)

/-- The alarm's cause taken at its first sample. -/
def alarmedRecords : State := if x.alarm = .active then (powerOnRecords x).takeCause .alarmLine else powerOnRecords x

theorem PortRecord.powerOn_eq (r : Straps) : PortRecord.powerOn r = (PortRecord.powerOn r).setPending (1 ||| 0) := by
  have asserted : ((1 ||| 0 : NoticeSet) &&& ~~~0 != 0) = true := by decide
  simp only [PortRecord.setPending, PortRecord.refresh, PortRecord.powerOn, asserted]
  rfl

theorem alarmedRecords_reads :
    (alarmedRecords x).fu = { (powerOnRecords x).fu with
      causes := if x.alarm = .active then [.powerOn, .alarmLine] else [.powerOn] }
    ∧ (∀ n, (alarmedRecords x).port n = (PortRecord.powerOn x.straps[n]).setPending
        (1 ||| if x.alarm = .active then 512 else 0))
    ∧ onlyTouches [.fu, .pu] (powerOnRecords x) (alarmedRecords x)
    ∧ (alarmedRecords x).pu = { (powerOnRecords x).pu with ports := (alarmedRecords x).pu.ports } := by
  unfold alarmedRecords
  split
  · rw [State.takeCause_of_trip (by simp [powerOnRecords, State.reset]), if_neg (by simp [powerOnRecords, State.reset])]
    refine ⟨rfl, fun n => ?_, by simp [onlyTouches, State.setCauses], rfl⟩
    have routed : (((powerOnRecords x).setCauses ((powerOnRecords x).fu.causes ++ [.alarmLine])).route
        noticeTripCauseAdded).getLsbD n.val = true := route_powerOnRecords x _ n
    rw [State.port_raise, if_pos routed]
    show ((powerOnRecords x).port n).setPending (((powerOnRecords x).port n).pendingSet ||| _) = _
    rw [port_powerOnRecords]
    rfl
  · refine ⟨rfl, fun n => ?_, onlyTouches_refl _ _, rfl⟩
    rw [port_powerOnRecords]
    exact PortRecord.powerOn_eq x.straps[n]

theorem powerOnState_reads :
    (powerOnState x).fu = { (powerOnRecords x).fu with
      state := if (∀ k : Shutter, x.limits[k] = .active) then .shut else .tripped
      causes := if x.alarm = .active then [.powerOn, .alarmLine] else [.powerOn] }
    ∧ (∀ n, (powerOnState x).port n = (PortRecord.powerOn x.straps[n]).setPending (powerOnNotices x))
    ∧ onlyTouches [.fu, .pu] (powerOnRecords x) (powerOnState x)
    ∧ (powerOnState x).pu = { (powerOnRecords x).pu with ports := (powerOnState x).pu.ports } := by
  obtain ⟨fu, port, touched, pu⟩ := alarmedRecords_reads x
  have down : (alarmedRecords x).fu.allDown = true ↔ ∀ k : Shutter, x.limits[k] = .active := by
    rw [fu]
    exact allDown_powerOnRecords x
  have tested : powerOnState x = if (alarmedRecords x).fu.allDown then
      ((alarmedRecords x).setFire .shut).raise noticeFireShut else alarmedRecords x := by
    have tripped : (alarmedRecords x).fu.state = .tripped := by rw [fu]; rfl
    rw [powerOnState_eq]
    change (alarmedRecords x).shutTest = _
    rw [State.shutTest, tripped]
  rw [tested, powerOnNotices]
  by_cases all : ∀ k : Shutter, x.limits[k] = .active
  · rw [if_pos (down.mpr all), if_pos all, if_pos all]
    refine ⟨?_, fun n => ?_, touched.trans (by simp [onlyTouches, State.setFire]), ?_⟩
    · rw [State.raise_fu, State.setFire, fu]
    · have routed : (((alarmedRecords x).setFire .shut).route noticeFireShut).getLsbD n.val = true := by
        rw [State.route, State.setFire, pu]
        exact route_powerOnRecords x _ n
      rw [State.port_raise, if_pos routed]
      show ((alarmedRecords x).port n).setPending (((alarmedRecords x).port n).pendingSet ||| _) = _
      rw [port]
      rfl
    · rw [State.raise, State.setFire, pu]
  · rw [if_neg (fun shut => all (down.mp shut)), if_neg all, if_neg all]
    refine ⟨by rw [fu]; rfl, fun n => ?_, touched, pu⟩
    rw [port]
    exact congrArg _ BitVec.or_zero.symm

/-- Settles O4: the records as they start, the alarm's cause, and the SHUT test. -/
theorem powerOnSetsEveryRecord : Obligations.PowerOnSetsEveryRecord := by
  intro x s
  obtain ⟨fu, port, touched, pu⟩ := powerOnState_reads x
  obtain ⟨mu, lc, lu, su, hu, -, -, pins, -⟩ := touched
  replace mu := mu (by simp)
  replace lc := lc (by simp)
  replace lu := lu (by simp)
  replace su := su (by simp)
  replace hu := hu (by simp)
  replace pins := pins (by simp)
  refine ⟨_, rfl, rfl, congrArg FireUnit.state fu, congrArg FireUnit.causes fu, congrArg FireUnit.underTest fu,
    congrArg FireUnit.alarm fu, congrArg FireUnit.alarmRun fu, fun k => ?_, ?_⟩
  · have shutter : (powerOnState x).shutter k = .powerOn x.limits[k] := by
      rw [State.shutter, fu]
      exact shutter_powerOnRecords x k
    refine shutter.trans ?_
    cases x.limits[k] <;> rfl
  dsimp only
  rw [mu, lc, lu, su, hu, pins]
  refine ⟨rfl, rfl, rfl, rfl, rfl, rfl, rfl, station_powerOnRecords x, watch_powerOnRecords x, motion_powerOnRecords x, rfl,
    lamp_powerOnRecords x, rfl, rfl, rfl, fun i => Vector.getElem_replicate i.isLt, fun p => ⟨role_powerOnRecords x p,
    Vector.getElem_replicate p.isLt⟩, screen_powerOnRecords x, rfl, channel_powerOnRecords x, fun n => ?_,
    congrArg PortUnit.passed pu, congrArg PortUnit.answers pu, rfl, fun k => ?_⟩
  · refine (port n).trans ?_
    have asserted : (powerOnNotices x &&& ~~~0 != 0) = true := by
      unfold powerOnNotices
      split <;> split <;> decide
    simp only [PortRecord.setPending, PortRecord.refresh, PortRecord.powerOn, asserted]
    rfl
  · exact (congrFun (congrArg (fun l => Vector.get l.routes) pu) k).trans (Vector.getElem_replicate _)

end Sys2Proof.Machine
end

section
/-! PROOF. One microsecond of an idle queue (spec/00 section 1.2). -/

namespace Sys2Proof.Machine

/-! ### The events due -/

theorem mem_dueIf {b : Bool} {c d : Instr} : c ∈ dueIf b d ↔ b = true ∧ c = d := by
  cases b <;> simp [dueIf]

theorem mem_dueEach {n : Nat} {b : Fin n → Bool} {f : Fin n → Instr} {c : Instr} :
    c ∈ dueEach n b f ↔ ∃ i, b i = true ∧ c = f i := by simp [dueEach, mem_dueIf]

/-- The time to the end of the slot that an elapsed time leaves. -/
theorem LineControl.le_elapsed (l : LineControl) {k : Nat} (some : 0 < k) (whole : k ≤ 5000) :
    k ≤ l.elapsed ↔ l.untilSlot ≤ 5000 - k := by
  rw [LineControl.elapsed, Config.slotTime]
  omega

theorem LineControl.mem_dueSent (l : LineControl) (c : Instr) : c ∈ l.dueSent ↔
    (c = .changeoverBurstSent ∧ (∃ sc side, l.sending = .burst (.changeover sc side)) ∧ l.untilSlot ≤ 4120)
      ∨ (c = .tripBurstSent ∧ l.sending = .burst .trip ∧ l.untilSlot ≤ 4120)
      ∨ (c = .lineResetFrameSent ∧ l.sending = .lineReset ∧ l.untilSlot ≤ 4232) := by
  have burst : decide (Config.burstTime ≤ l.elapsed) = true ↔ l.untilSlot ≤ 4120 :=
    decide_eq_true_iff.trans (l.le_elapsed (by decide) (by decide))
  have reset : decide (Config.lineResetTime ≤ l.elapsed) = true ↔ l.untilSlot ≤ 4232 :=
    decide_eq_true_iff.trans (l.le_elapsed (by decide) (by decide))
  unfold LineControl.dueSent
  split <;> simp only [mem_dueIf, List.not_mem_nil, burst, reset] <;> simp [*, and_comm]

theorem LineControl.windowEnded_iff (l : LineControl) : l.windowEnded = true ↔
    l.window ≠ .closed ∧ ((∀ q, l.window ≠ .opened q .awaiting) ∨ l.untilSlot = 0) := by
  unfold LineControl.windowEnded
  split <;> simp [*]

theorem runOut_iff (t : Option Timer) : runOut t = true ↔ ∃ x, t = some x ∧ x.value = 0 := by
  cases t <;> simp [runOut]

theorem State.afterDue_iff (s : State) (c : Screen) : s.afterDue c = true ↔ (s.screen c).state.performing = true
    ∧ (s.screen c).changeHeld = false ∧ ∃ x, (s.screen c).next = some x
    ∧ ∃ y, (s.screen c).afterTimer = some y ∧ ∃ d, (s.cue x).trigger = .after d ∧ d ≤ y.value := by
  have awaited : ∀ x, s.awaitedCue c = some x ↔ (s.screen c).changeHeld = false
      ∧ (s.screen c).state.performing = true ∧ (s.screen c).next = some x := by
    intro x
    simp only [State.awaitedCue, State.nextCue]
    split <;> simp [*]
  unfold State.afterDue
  split
  · rename_i x y cue timer
    obtain ⟨held, performing, next⟩ := (awaited x).mp cue
    split <;> simp [*]
  · rename_i none
    simp only [Bool.false_eq_true, false_iff]
    rintro ⟨performing, held, x, next, y, timer, -⟩
    exact none x y ((awaited x).mpr ⟨held, performing, next⟩) timer

theorem accepts_iff {α : Type} [DecidableEq α] (a x : α) (run : Nat) : accepts a run x = true ↔ x ≠ a ∧ 2 ≤ run := by
  unfold accepts filterSample
  split
  · simp [*]
  · split <;> simp_all [Config.filterSamples]

theorem runAfter_eq {α : Type} [DecidableEq α] (a x : α) (run : Nat) :
    runAfter a run x = if x = a then 0 else if run < 2 then run + 1 else run := by
  have accepted := accepts_iff a x run
  unfold runAfter
  split
  · obtain ⟨differs, third⟩ := accepted.mp ‹_›
    rw [if_neg differs, if_neg (Nat.not_lt.mpr third)]
  · have early : x ≠ a → run < 2 := fun differs => Nat.lt_of_not_le fun third => ‹¬_› (accepted.mpr ⟨differs, third⟩)
    unfold filterSample
    by_cases same : x = a
    · simp [same]
    · have few : ¬ Config.filterSamples ≤ run + 1 := by
        have := early same
        rw [Config.filterSamples]
        omega
      rw [if_neg same, if_neg few, if_neg same, if_pos (early same)]

/-! ### The records after one microsecond -/

variable (s : State)

/-- The inputs sampled where this microsecond samples them. -/
def State.sampledInputs : State := if s.sampling then s.takeSamples else s

theorem State.tick_of_idle (passed : s.pu.passed = []) (answers : s.pu.answers = []) :
    s.tick = { s.advance.sampledInputs with pending := s.advance.due } := by
  have idle : s.pu.waiting.isEmpty = true := by simp [PortUnit.waiting, passed, answers]
  rw [State.tick, if_pos idle]
  rfl

theorem State.tick_of_waiting (waits : ¬ (s.pu.passed = [] ∧ s.pu.answers = [])) : s.tick = { s with
    pending := s.pu.passed.map (fun f => f.command) ++ s.pu.answers.map (fun a => .ownerAnswer a.port) } := by
  have busy : ¬ s.pu.waiting.isEmpty = true := by simpa [PortUnit.waiting] using waits
  rw [State.tick, if_neg busy]
  rfl

theorem State.sampling_iff : s.sampling = true ↔ s.pins.sinceSample = 0 := by simp [State.sampling]

/-- A sample run, where this microsecond samples its input. -/
def State.runOf {α : Type} [DecidableEq α] (s : State) (accepted x : α) (run : Nat) : Nat :=
  if s.pins.sinceSample ≠ 0 then run else runAfter accepted run x

theorem State.runOf_eq {α : Type} [DecidableEq α] (a x : α) (run : Nat) : s.runOf a x run =
    if s.pins.sinceSample ≠ 0 then run else if decide (x = a) then 0 else if run < 2 then run + 1 else run := by
  simp only [State.runOf, runAfter_eq, decide_eq_true_eq]

theorem State.sampledInputs_eq : s.sampledInputs = { s with
    hu := { s.hu with mains := { s.hu.mains with
      sampleRun := s.runOf s.hu.mains.accepted s.pins.zeroCross s.hu.mains.sampleRun } }
    fu := { s.fu with
      alarmRun := s.runOf s.fu.alarm s.pins.alarm s.fu.alarmRun
      shutters := s.sampledInputs.fu.shutters } } := by
  by_cases sampled : s.pins.sinceSample = 0
  · have sampling := s.sampling_iff.mpr sampled
    simp [State.sampledInputs, State.runOf, sampling, sampled, State.takeSamples]
  · have not : ¬ s.sampling = true := mt s.sampling_iff.mp sampled
    simp [State.sampledInputs, State.runOf, not, sampled]

theorem State.shutter_sampledInputs (k : Shutter) : s.sampledInputs.shutter k =
    { s.shutter k with sampleRun := s.runOf (s.shutter k).limit s.pins.limits[k] (s.shutter k).sampleRun } := by
  by_cases sampled : s.pins.sinceSample = 0
  · rw [State.sampledInputs, if_pos (s.sampling_iff.mpr sampled), State.shutter_takeSamples, State.runOf]
    simp [sampled]
  · rw [State.sampledInputs, if_neg (mt s.sampling_iff.mp sampled), State.runOf, if_pos sampled]

theorem Mains.tick_eq (m : Mains) : m.tick = { m with
    runningCount := if m.phase = .timing then min (m.runningCount + 1) 12000 else m.runningCount } := by
  unfold Mains.tick
  split
  · rw [if_neg (by simp [*])]
  · rw [if_pos ‹_›]
    rfl

theorem PortRecord.tick_eq (r : PortRecord) : r.tick = { r with
    gapTimer := r.gapTimer.map (Timer.down 1000)
    direction := if r.untilWrite.map (fun k => k - 1) = some 0 then .write else r.direction
    untilWrite := if r.untilWrite.map (fun k => k - 1) = some 0 then none else r.untilWrite.map (fun k => k - 1)
    driven := if r.untilWrite.map (fun k => k - 1) = some 0 then none else r.driven } := by
  unfold PortRecord.tick
  dsimp only
  split <;> simp [*, PortRecord.turnToWrite, milliDown]

theorem LineControl.tick_poll (l : LineControl) :
    (∀ q d, l.sending = .poll q d → l.untilSlot ≤ 4129 → l.tick.sending = .nothing ∧ l.tick.window = .opened q .awaiting)
      ∧ ((∀ q d, l.sending = .poll q d → 4129 < l.untilSlot) → l.tick.sending = l.sending ∧ l.tick.window = l.window) := by
  have late : Config.pollTime ≤ LineControl.elapsed { l with untilSlot := l.untilSlot - 1 } ↔ l.untilSlot ≤ 4129 := by
    rw [LineControl.le_elapsed _ (by decide) (by decide), Config.pollTime]
    exact Nat.sub_le_iff_le_add
  unfold LineControl.tick
  dsimp only
  refine ⟨fun q d poll out => ?_, fun early => ?_⟩
  · rw [if_pos (late.mpr out)]
    simp [LineControl.pollSent, poll]
  · split
    · cases sent : l.sending with
      | poll q d => exact absurd (late.mp ‹_›) (Nat.not_le.mpr (early q d sent))
      | nothing | lineReset | burst => exact ⟨by simp only [LineControl.pollSent], by simp only [LineControl.pollSent]⟩
    · exact ⟨rfl, rfl⟩

/-- The clock ends a poll's sending alone. -/
theorem LineControl.tick_sending_iff (l : LineControl) (x : Sending) (busy : x ≠ .nothing) (other : ∀ q d, x ≠ .poll q d) :
    l.tick.sending = x ↔ l.sending = x := by
  obtain ⟨out, waits⟩ := l.tick_poll
  by_cases poll : ∃ q d, l.sending = .poll q d
  · obtain ⟨q, d, poll⟩ := poll
    refine ⟨fun sent => ?_, fun sent => absurd (sent.symm.trans poll) (other q d)⟩
    by_cases late : l.untilSlot ≤ 4129
    · exact absurd (sent.symm.trans (out q d poll late).1) busy
    · refine absurd (sent.symm.trans ((waits fun q' d' _ => Nat.lt_of_not_le late).1.trans poll)) (other q d)
  · rw [(waits fun q d sent => absurd ⟨q, d, sent⟩ poll).1]

theorem State.crossingDue_iff : s.crossingDue = true ↔ s.pins.sinceSample = 0 ∧ s.pins.zeroCross ≠ s.hu.mains.accepted
    ∧ 2 ≤ s.hu.mains.sampleRun := by
  rw [State.crossingDue, Bool.and_eq_true, State.sampling_iff, accepts_iff]

/-- The events due at this microsecond. -/
theorem State.mem_due (c : Instr) : c ∈ s.due ↔
    (∃ p, ((s.motion p).timed = true ∧ 2500 ≤ (s.motion p).runningCount.value) ∧ c = .silence p)
      ∨ (∃ p, (∃ x, (s.motion p).slowStart = some x ∧ x.value = 0) ∧ c = .slowStartTimeout p)
      ∨ (∃ p, (∃ x, (s.lamp p).strikeTimer = some x ∧ x.value = 0) ∧ c = .strikeTimeout p)
      ∨ (∃ p, (∃ x, (s.lamp p).holdTimer = some x ∧ x.value = 0) ∧ c = .holdTimeout p)
      ∨ (∃ p, (∃ x, (s.lamp p).feedTimer = some x ∧ x.counter.value = 0) ∧ c = .feedStep p)
      ∨ (∃ k, (∃ x, (s.shutter k).dropTimer = some x ∧ x.value = 0) ∧ c = .shutterDropTimeout k)
      ∨ (∃ n, (∃ x, (s.port n).gapTimer = some x ∧ x.value = 0) ∧ c = .gapTimeout n)
      ∨ (∃ ch, ((s.channel ch).firing = some 0 ∧ ¬ s.crossingDue = true) ∧ c = .dimmerFiring ch)
      ∨ ((s.hu.mains.phase = .timing ∧ 12000 ≤ s.hu.mains.runningCount ∧ ¬ s.crossingDue = true) ∧ c = .mainsOverrun)
      ∨ (∃ sc, s.afterDue sc = true ∧ c = .afterTimerMet sc)
      ∨ c ∈ s.lc.dueSent
      ∨ (s.lc.windowEnded = true ∧ c = .replyWindowEnd)
      ∨ (s.lc.untilSlot = 0 ∧ c = .slotStart)
      ∨ (∃ p, s.pins.sinceSample = 0 ∧ c = .sprocketSample p s.pins.sprocket[p])
      ∨ (s.crossingDue = true ∧ c = .mainsCrossing)
      ∨ ((s.pins.sinceSample = 0 ∧ s.pins.alarm ≠ s.fu.alarm ∧ 2 ≤ s.fu.alarmRun) ∧ c = .alarmChange s.pins.alarm)
      ∨ (∃ k, (s.pins.sinceSample = 0 ∧ s.pins.limits[k] ≠ (s.shutter k).limit ∧ 2 ≤ (s.shutter k).sampleRun)
          ∧ c = .shutterLimitChange k s.pins.limits[k]) := by
  have feed : ∀ p, (∃ x, ((s.lamp p).feedTimer.map (·.counter)) = some x ∧ x.value = 0)
      ↔ ∃ x, (s.lamp p).feedTimer = some x ∧ x.counter.value = 0 := fun p => by
    cases (s.lamp p).feedTimer <;> simp
  simp only [State.due, State.dueTimers, State.dueLine, State.dueInputs, List.mem_append, mem_dueIf, mem_dueEach,
    runOut_iff, feed, accepts_iff, State.firingDue, State.overrunDue, Bool.and_eq_true, Bool.not_eq_true', decide_eq_true_iff,
    Bool.not_eq_true, State.sampling_iff, or_assoc, and_assoc]
  rfl

theorem State.crossingDue_advance : s.advance.crossingDue = true ↔ s.advance.pins.sinceSample = 0
    ∧ s.pins.zeroCross ≠ s.hu.mains.accepted ∧ 2 ≤ s.hu.mains.sampleRun := by
  rw [State.crossingDue_iff, show s.advance.hu.mains = s.hu.mains.tick from rfl, Mains.tick_eq]
  rfl

theorem Motion.timed_tick (m : Motion) : m.tick.timed = true ↔ m.gate = .opened ∧ m.phase ≠ .awaiting := by
  simp [Motion.timed, Motion.tick]

section

variable (p : Projector) (c : Screen) (k : Shutter)

theorem State.silence_due : .silence p ∈ s.due ↔ (s.motion p).timed = true ∧ 2500 ≤ (s.motion p).runningCount.value := by
  simp [State.mem_due, LineControl.mem_dueSent]

theorem State.slowStartTimeout_due : .slowStartTimeout p ∈ s.due ↔ ∃ x, (s.motion p).slowStart = some x ∧ x.value = 0 := by
  simp [State.mem_due, LineControl.mem_dueSent]

theorem State.strikeTimeout_due : .strikeTimeout p ∈ s.due ↔ ∃ x, (s.lamp p).strikeTimer = some x ∧ x.value = 0 := by
  simp [State.mem_due, LineControl.mem_dueSent]

theorem State.holdTimeout_due : .holdTimeout p ∈ s.due ↔ ∃ x, (s.lamp p).holdTimer = some x ∧ x.value = 0 := by
  simp [State.mem_due, LineControl.mem_dueSent]

theorem State.feedStep_due : .feedStep p ∈ s.due ↔ ∃ x, (s.lamp p).feedTimer = some x ∧ x.counter.value = 0 := by
  simp [State.mem_due, LineControl.mem_dueSent]

theorem State.sprocketSample_due (level : Level) :
    .sprocketSample p level ∈ s.due ↔ s.pins.sinceSample = 0 ∧ level = s.pins.sprocket[p] := by
  simp [State.mem_due, LineControl.mem_dueSent]

theorem State.changeoverBurstSent_due : .changeoverBurstSent ∈ s.due ↔
    (∃ sc side, s.lc.sending = .burst (.changeover sc side)) ∧ s.lc.untilSlot ≤ 4120 := by
  simp [State.mem_due, LineControl.mem_dueSent]

theorem State.tripBurstSent_due : .tripBurstSent ∈ s.due ↔ s.lc.sending = .burst .trip ∧ s.lc.untilSlot ≤ 4120 := by
  simp [State.mem_due, LineControl.mem_dueSent]

theorem State.lineResetFrameSent_due :
    .lineResetFrameSent ∈ s.due ↔ s.lc.sending = .lineReset ∧ s.lc.untilSlot ≤ 4232 := by
  simp [State.mem_due, LineControl.mem_dueSent]

theorem State.replyWindowEnd_due : .replyWindowEnd ∈ s.due ↔
    s.lc.window ≠ .closed ∧ ((∀ q, s.lc.window ≠ .opened q .awaiting) ∨ s.lc.untilSlot = 0) := by
  simp [State.mem_due, LineControl.mem_dueSent, LineControl.windowEnded_iff]

theorem State.slotStart_due : .slotStart ∈ s.due ↔ s.lc.untilSlot = 0 := by
  simp [State.mem_due, LineControl.mem_dueSent]

theorem State.afterTimerMet_due : .afterTimerMet c ∈ s.due ↔ s.afterDue c = true := by
  simp [State.mem_due, LineControl.mem_dueSent]

theorem State.mainsCrossing_due : .mainsCrossing ∈ s.due ↔ s.crossingDue = true := by
  simp [State.mem_due, LineControl.mem_dueSent]

theorem State.mainsOverrun_due : .mainsOverrun ∈ s.due ↔
    s.hu.mains.phase = .timing ∧ 12000 ≤ s.hu.mains.runningCount ∧ ¬ s.crossingDue = true := by
  simp [State.mem_due, LineControl.mem_dueSent]

theorem State.dimmerFiring_due (ch : Channel) :
    .dimmerFiring ch ∈ s.due ↔ (s.channel ch).firing = some 0 ∧ ¬ s.crossingDue = true := by
  simp [State.mem_due, LineControl.mem_dueSent]

theorem State.alarmChange_due (level : Activity) : .alarmChange level ∈ s.due ↔
    s.pins.sinceSample = 0 ∧ level = s.pins.alarm ∧ level ≠ s.fu.alarm ∧ 2 ≤ s.fu.alarmRun := by
  grind [State.mem_due, LineControl.mem_dueSent]

theorem State.shutterDropTimeout_due :
    .shutterDropTimeout k ∈ s.due ↔ ∃ x, (s.shutter k).dropTimer = some x ∧ x.value = 0 := by
  simp [State.mem_due, LineControl.mem_dueSent]

theorem State.shutterLimitChange_due (level : Activity) : .shutterLimitChange k level ∈ s.due ↔
    s.pins.sinceSample = 0 ∧ level = s.pins.limits[k] ∧ level ≠ (s.shutter k).limit ∧ 2 ≤ (s.shutter k).sampleRun := by
  grind [State.mem_due, LineControl.mem_dueSent]

theorem State.gapTimeout_due (n : Port) : .gapTimeout n ∈ s.due ↔ ∃ x, (s.port n).gapTimer = some x ∧ x.value = 0 := by
  simp [State.mem_due, LineControl.mem_dueSent]

end

/-- Settles O3: what waits is handed over; otherwise `State.advance` moves every record, the samples are taken, and the events
due are those of `State.due`. -/
theorem idleStepLetsTheClockRun : Obligations.IdleStepLetsTheClockRun := by
  intro s idle
  have stepped : step s = .next s.tick := by rw [step, idle]
  refine ⟨fun waits => ?_, fun passed answers => ?_⟩
  · rw [stepped, s.tick_of_waiting waits]
  rw [s.tick_of_idle passed answers, s.advance.sampledInputs_eq] at stepped
  have lc : s.advance.lc = _ := s.lc.tick_eq
  have line : s.advance.lc.untilSlot = s.lc.untilSlot - 1 := congrArg LineControl.untilSlot lc
  have mains : s.advance.hu.mains = _ := s.hu.mains.tick_eq
  refine ⟨_, stepped, ?_⟩
  dsimp only
  refine ⟨rfl, fun p => ?_, fun p => ?_, fun c => ?_, ?_, fun ch => ?_, fun k => ?_, fun n => ?_, ?_, ?_, ?_, rfl, rfl, ?_, rfl,
    fun p => ⟨?_, ?_, ?_, ?_, ?_, fun level => ?_⟩, ?_, ?_, ?_, ?_, ?_, fun c => ?_, ?_, ?_, fun ch => ?_, fun level => ?_,
    fun k => ⟨?_, fun level => ?_⟩, fun n => ?_, fun c due => ?_⟩
  · refine (s.motion_advance p).trans ?_
    simp [Motion.tick, Motion.timed, tenthDown, Config.silenceCount]
  · exact s.lamp_advance p
  · exact s.screen_advance c
  · rw [mains, State.runOf_eq]
    rfl
  · exact s.channel_advance ch
  · refine (s.advance.shutter_sampledInputs k).trans ?_
    rw [s.shutter_advance, State.runOf_eq]
    rfl
  · exact (s.port_advance n).trans (PortRecord.tick_eq _)
  · exact s.lc.tick_poll.1
  · exact s.lc.tick_poll.2
  · exact s.lc.tick_eq
  · rw [State.runOf_eq]
    rfl
  · refine (s.advance.silence_due p).trans ?_
    rw [s.motion_advance, Motion.timed_tick, and_assoc]
    exact and_congr_right fun _ => and_congr_right fun _ => by rw [← s.motion_advance]; rfl
  · exact s.advance.slowStartTimeout_due p
  · exact s.advance.strikeTimeout_due p
  · exact s.advance.holdTimeout_due p
  · exact s.advance.feedStep_due p
  · exact s.advance.sprocketSample_due p level
  · rw [State.changeoverBurstSent_due, line, Nat.sub_le_iff_le_add]
    exact and_congr_left fun _ => exists_congr fun sc => exists_congr fun side => s.lc.tick_sending_iff _ nofun nofun
  · rw [State.tripBurstSent_due, line, Nat.sub_le_iff_le_add]
    exact and_congr_left fun _ => s.lc.tick_sending_iff _ nofun nofun
  · rw [State.lineResetFrameSent_due, line, Nat.sub_le_iff_le_add]
    exact and_congr_left fun _ => s.lc.tick_sending_iff _ nofun nofun
  · rw [State.replyWindowEnd_due, line, Nat.sub_eq_zero_iff_le]
  · rw [State.slotStart_due, line, Nat.sub_eq_zero_iff_le]
  · have timed : s.advance.screen c = { s.screen c with afterTimer := (s.advance.screen c).afterTimer } := by
      rw [s.screen_advance, ScreenRecord.tick]
    rw [State.afterTimerMet_due, State.afterDue_iff, timed]
    rfl
  · rw [State.mainsCrossing_due, State.crossingDue_advance]
  · rw [State.mainsOverrun_due, State.crossingDue_advance, mains]
  · rw [State.dimmerFiring_due, State.crossingDue_advance]
    rfl
  · exact s.advance.alarmChange_due level
  · have timer : (s.advance.sampledInputs.shutter k).dropTimer = (s.advance.shutter k).dropTimer := by
      rw [State.shutter_sampledInputs]
    rw [State.shutterDropTimeout_due, ← timer]
    rfl
  · rw [State.shutterLimitChange_due, s.shutter_advance]
    rfl
  · exact s.advance.gapTimeout_due n
  · rw [State.mem_due, LineControl.mem_dueSent] at due
    rcases due with ⟨p, -, rfl⟩ | ⟨p, -, rfl⟩ | ⟨p, -, rfl⟩ | ⟨p, -, rfl⟩ | ⟨p, -, rfl⟩ | ⟨k, -, rfl⟩ | ⟨n, -, rfl⟩
      | ⟨ch, -, rfl⟩ | ⟨-, rfl⟩ | ⟨sc, -, rfl⟩ | (⟨rfl, -⟩ | ⟨rfl, -⟩ | ⟨rfl, -⟩) | ⟨-, rfl⟩ | ⟨-, rfl⟩ | ⟨p, -, rfl⟩
      | ⟨-, rfl⟩ | ⟨-, rfl⟩ | ⟨k, -, rfl⟩
    all_goals simp [State.advance, Pins.tick]

end Sys2Proof.Machine
end

section
/-! PROOF. Write strobes, the clear line, the gap timer, and the checks of a complete frame (spec/09 R157 to R161). -/

namespace Sys2Proof.Machine

variable {s : State} {n : Port} {b : Byte}

/-! ### A port record rewritten -/

theorem State.onPort_onPort (f g : PortRecord → PortRecord) :
    (s.onPort n f).onPort n g = s.onPort n fun r => g (f r) := by
  have ports : upd (upd s.pu.ports n f) n g = upd s.pu.ports n fun r => g (f r) := table_ext fun m => by
    simp only [upd_get]
    split
    · subst_vars
      simp
    · rfl
  simp only [State.onPort, ports]

theorem State.onPort_congr {f g : PortRecord → PortRecord} (same : f (s.port n) = g (s.port n)) :
    s.onPort n f = s.onPort n g := by
  have ports : upd s.pu.ports n f = upd s.pu.ports n g := table_ext fun m => by
    simp only [upd_get]
    split
    · subst_vars
      exact same
    · rfl
  simp only [State.onPort, ports]

theorem State.onPort_self (f : PortRecord → PortRecord) (same : f (s.port n) = s.port n) : s.onPort n f = s := by
  rw [State.onPort, upd_self _ _ _ same]

theorem State.port_onPort_self (f : PortRecord → PortRecord) : (s.onPort n f).port n = f (s.port n) := by
  rw [State.port_onPort, if_pos rfl]

theorem State.port_onPort_ne (f : PortRecord → PortRecord) (m : Port) (other : m ≠ n) :
    (s.onPort n f).port m = s.port m := by
  rw [State.port_onPort, if_neg other.symm]

theorem State.onPort_keeps (f : PortRecord → PortRecord) :
    otherPortsKept n s (s.onPort n f) ∧ onlyTouches [.pu] s (s.onPort n f) :=
  ⟨⟨State.port_onPort_ne f, rfl⟩, by simp [onlyTouches]⟩

/-! ### Write strobes (R158) -/

/-- The record of a port whose frame the check byte `b` completes. -/
def PortRecord.completed (r : PortRecord) (b : Byte) : PortRecord := ((r.strobed .write none).sumByte b).complete

theorem State.writeByte_of_held (held : (s.port n).clearHeld = true) :
    s.writeByte n b = s.onPort n fun r => r.strobed .write none := by
  simp [State.writeByte, held]

section

variable (free : (s.port n).clearHeld = false)

include free

theorem State.writeByte_of_idle (idle : (s.port n).frameState = .idle) :
    s.writeByte n b = s.onPort n fun r => (r.strobed .write none).takeCode b := by
  simp [State.writeByte, free, idle, State.onPort_onPort]

theorem State.writeByte_of_replying (replying : (s.port n).frameState = .replying) :
    s.writeByte n b = s.onPort n fun r => (r.strobed .write none).abandon.takeCode b := by
  simp [State.writeByte, free, replying, State.onPort_onPort]

theorem State.writeByte_of_executing (executing : (s.port n).frameState = .executing) :
    s.writeByte n b = s.onPort n fun r => { r.strobed .write none with writeHeld := some b, readWaiting := false } := by
  simp [State.writeByte, free, executing, State.onPort_onPort]

theorem State.writeByte_of_count (receiving : (s.port n).frameState = .receiving)
    (none : (s.port n).statedCount = none) :
    s.writeByte n b = s.onPort n fun r => { (r.strobed .write .none).sumByte b with statedCount := some b } := by
  have stated : (((s.onPort n fun r => r.strobed .write .none).port n).sumByte b).statedCount = .none := by
    rw [State.port_onPort_self]
    exact none
  simp only [State.writeByte, free, receiving, State.receiveByte, stated]
  rw [if_neg Bool.false_ne_true, State.onPort_onPort]
  refine State.onPort_congr ?_
  rw [State.port_onPort_self]

theorem State.writeByte_of_argument {count : Byte} (receiving : (s.port n).frameState = .receiving)
    (some : (s.port n).statedCount = some count) (short : (s.port n).arguments.length < count.toNat) :
    s.writeByte n b = s.onPort n fun r =>
      { (r.strobed .write none).sumByte b with arguments := r.arguments ++ [b] } := by
  have stated : (((s.onPort n fun r => r.strobed .write none).port n).sumByte b).statedCount = .some count := by
    rw [State.port_onPort_self]
    exact some
  have room : (((s.onPort n fun r => r.strobed .write none).port n).sumByte b).arguments.length < count.toNat := by
    rw [State.port_onPort_self]
    exact short
  simp only [State.writeByte, free, receiving, State.receiveByte, stated]
  rw [if_neg Bool.false_ne_true, if_pos room, State.onPort_onPort]
  refine State.onPort_congr ?_
  rw [State.port_onPort_self]
  simp [PortRecord.sumByte, PortRecord.acknowledge, PortRecord.strobed, some]

/-- The check byte completes the frame, which is then checked. -/
theorem State.writeByte_of_check {count : Byte} (receiving : (s.port n).frameState = .receiving)
    (some : (s.port n).statedCount = some count) (full : count.toNat ≤ (s.port n).arguments.length) :
    s.writeByte n b = (s.onPort n fun r => r.completed b).checkFrame n := by
  have stated : (((s.onPort n fun r => r.strobed .write none).port n).sumByte b).statedCount = .some count := by
    rw [State.port_onPort_self]
    exact some
  have whole : ¬ (((s.onPort n fun r => r.strobed .write none).port n).sumByte b).arguments.length < count.toNat := by
    rw [State.port_onPort_self]
    exact Nat.not_lt.mpr full
  simp only [State.writeByte, free, receiving, State.receiveByte, stated]
  rw [if_neg Bool.false_ne_true, if_neg whole, State.onPort_onPort]
  refine congrArg (fun t => State.checkFrame t n) (State.onPort_congr ?_)
  rw [State.port_onPort_self]
  rfl

end

/-! ### The checks of a complete frame (R161) -/

/-- A response made where no read strobe waits. -/
theorem PortRecord.reply_of_quiet {r : PortRecord} (quiet : r.readWaiting = false) (x : Response) : r.reply x =
    { r with response := some x, readPosition := 0, answerOwed := false, frameState := .replying } := by
  rw [PortRecord.reply]
  exact if_neg (by simp [quiet])

section

variable (t : State) (checked : t = (s.onPort n fun r => r.completed b).checkFrame n)

include checked

theorem State.checkFrame_of_fail {st : Status} (judged : ((s.port n).completed b).verdict n = .fail st) :
    t = s.onPort n fun r => { r.completed b with
      response := some (Response.build st []), readPosition := 0, answerOwed := false, frameState := .replying } := by
  rw [checked, State.checkFrame, State.port_onPort_self, judged]
  dsimp only
  rw [State.onPort_onPort]
  exact State.onPort_congr (PortRecord.reply_of_quiet rfl _)

theorem State.checkFrame_of_pass {c : Instr} (judged : ((s.port n).completed b).verdict n = .pass c) :
    t = { s.onPort n fun r => { r.completed b with answerOwed := true, frameTag := r.frameTag + 1 } with
      pu := { (s.onPort n fun r => { r.completed b with answerOwed := true, frameTag := r.frameTag + 1 }).pu with
        passed := s.pu.passed ++ [⟨n, (s.port n).frameTag + 1, c⟩] } } := by
  rw [checked, State.checkFrame, State.port_onPort_self, judged]
  dsimp only
  rw [State.pass, State.onPort_onPort, State.port_onPort_self]
  rfl

end

/-- What every complete frame leaves: its port's record completed but for the answer, and the rest of the ports. -/
theorem State.checkFrame_keeps {t : State} (checked : t = (s.onPort n fun r => r.completed b).checkFrame n) :
    (t.port n).gapTimer = none ∧ (t.port n).pendingSet = (s.port n).pendingSet ∧ (t.port n).direction = .write
      ∧ (t.port n).driven = none ∧ (t.port n).untilWrite = none
      ∧ (∀ m, m ≠ n → t.port m = s.port m) ∧ t.pu.routes = s.pu.routes ∧ t.pu.answers = s.pu.answers
      ∧ onlyTouches [.pu] s t := by
  cases judged : ((s.port n).completed b).verdict n with
  | fail st =>
    rw [State.checkFrame_of_fail t checked judged, State.port_onPort_self]
    exact ⟨rfl, rfl, rfl, rfl, rfl, State.port_onPort_ne _, rfl, rfl, by simp [onlyTouches]⟩
  | pass c =>
    have passed := State.checkFrame_of_pass t checked judged
    have record : t.port n = { (s.port n).completed b with answerOwed := true, frameTag := (s.port n).frameTag + 1 } := by
      rw [passed]
      exact State.port_onPort_self _
    rw [record, passed]
    exact ⟨rfl, rfl, rfl, rfl, rfl, State.port_onPort_ne (s := s) _, rfl, rfl, by simp [onlyTouches]⟩

/-! ### The gap timer (R158) -/

theorem PortRecord.gapOut_of_receiving {r : PortRecord} (receiving : r.frameState = .receiving) : r.gapOut = { r with
    frameState := .idle, code := none, statedCount := none, arguments := [], runningSum := 0, gapTimer := none } := by
  simp [PortRecord.gapOut, receiving]

theorem PortRecord.gapOut_of_other {r : PortRecord} (other : r.frameState ≠ .receiving) : r.gapOut = r := by
  unfold PortRecord.gapOut
  split
  · exact absurd ‹_› other
  all_goals rfl

/-- Every write strobe turns the direction line to write, whatever else it does. -/
theorem State.writeByte_keeps (s : State) (n : Port) (b : Byte) : ((s.writeByte n b).port n).direction = .write
    ∧ ((s.writeByte n b).port n).driven = none ∧ ((s.writeByte n b).port n).untilWrite = none
    ∧ (∀ m, m ≠ n → (s.writeByte n b).port m = s.port m) ∧ onlyTouches [.pu] s (s.writeByte n b) := by
  have rewritten : ∀ f : PortRecord → PortRecord, (f (s.port n)).direction = .write → (f (s.port n)).driven = none →
      (f (s.port n)).untilWrite = none → ((s.onPort n f).port n).direction = .write ∧ ((s.onPort n f).port n).driven = none
        ∧ ((s.onPort n f).port n).untilWrite = none ∧ (∀ m, m ≠ n → (s.onPort n f).port m = s.port m)
        ∧ onlyTouches [.pu] s (s.onPort n f) := fun f direction driven untilWrite => by
    rw [State.port_onPort_self]
    exact ⟨direction, driven, untilWrite, State.port_onPort_ne f, (State.onPort_keeps f).2⟩
  cases free : (s.port n).clearHeld with
  | true =>
    rw [State.writeByte_of_held free]
    exact rewritten _ rfl rfl rfl
  | false =>
    cases frame : (s.port n).frameState with
    | idle =>
      rw [State.writeByte_of_idle free frame]
      exact rewritten _ rfl rfl rfl
    | executing =>
      rw [State.writeByte_of_executing free frame]
      exact rewritten _ rfl rfl rfl
    | replying =>
      rw [State.writeByte_of_replying free frame]
      exact rewritten _ rfl rfl rfl
    | receiving =>
      cases stated : (s.port n).statedCount with
      | none =>
        rw [State.writeByte_of_count free frame stated]
        exact rewritten _ rfl rfl rfl
      | some count =>
        by_cases short : (s.port n).arguments.length < count.toNat
        · rw [State.writeByte_of_argument free frame stated short]
          exact rewritten _ rfl rfl rfl
        · obtain ⟨-, -, direction, driven, untilWrite, others, -, -, touched⟩ :=
            State.checkFrame_keeps (State.writeByte_of_check (b := b) free frame stated (Nat.le_of_not_lt short))
          exact ⟨direction, driven, untilWrite, others, touched⟩

/-- Settles O36: `State.writeByte` by the clear line and the frame state; `PortRecord.clear` and `PortRecord.gapOut`. -/
theorem portStrobesAndClear : Obligations.PortStrobesAndClear := by
  refine ⟨fun n b s => ⟨?_, fun free frame => ?_, fun free receiving none => ?_, fun count some free receiving short => ?_,
    fun free executing => ?_, fun held => ?_⟩, fun n held s => ⟨?_, fun receiving => ?_, fun other => ?_⟩⟩
  · obtain ⟨direction, driven, untilWrite, others, touched⟩ := s.writeByte_keeps n b
    exact ⟨s.writeByte n b, rfl, direction, driven, untilWrite, others, touched⟩
  · rcases frame with idle | replying
    · refine ⟨_, congrArg Host.Outcome.next (State.writeByte_of_idle free idle), ?_⟩
      rw [State.port_onPort_self]
      exact ⟨rfl, rfl, rfl, rfl, rfl, rfl, rfl, (fun replying => nomatch idle.symm.trans replying), rfl, State.onPort_keeps _⟩
    · refine ⟨_, congrArg Host.Outcome.next (State.writeByte_of_replying free replying), ?_⟩
      rw [State.port_onPort_self]
      exact ⟨rfl, rfl, rfl, rfl, rfl, rfl, rfl, fun _ => rfl, rfl, State.onPort_keeps _⟩
  · refine ⟨_, congrArg Host.Outcome.next (State.writeByte_of_count free receiving none), ?_⟩
    rw [State.port_onPort_self]
    exact ⟨receiving, rfl, rfl, rfl, rfl, rfl, rfl, State.onPort_keeps _⟩
  · refine ⟨_, congrArg Host.Outcome.next (State.writeByte_of_argument free receiving some short), ?_⟩
    rw [State.port_onPort_self]
    exact ⟨receiving, rfl, rfl, rfl, some, rfl, rfl, State.onPort_keeps _⟩
  · refine ⟨_, congrArg Host.Outcome.next (State.writeByte_of_executing free executing), ?_⟩
    rw [State.port_onPort_self]
    exact ⟨executing, rfl, rfl, rfl, rfl, State.onPort_keeps _⟩
  · refine ⟨_, congrArg Host.Outcome.next (State.writeByte_of_held held), ?_⟩
    rw [State.port_onPort_self]
    exact ⟨rfl, State.onPort_keeps _⟩
  · exact ⟨s.onPort n fun r => r.clear held, rfl, State.port_onPort_self _, State.onPort_keeps _⟩
  · refine ⟨s.onPort n PortRecord.gapOut, rfl, ?_, State.onPort_keeps _⟩
    rw [State.port_onPort_self, PortRecord.gapOut_of_receiving receiving]
  · exact congrArg Host.Outcome.next (State.onPort_self _ (PortRecord.gapOut_of_other other))

/-- Settles O37: the verdict is that of the first check that fails, and `State.checkFrame` acts on it. -/
theorem framesAreCheckedInOrder : Obligations.FramesAreCheckedInOrder := by
  intro n b code count s free receiving coded stated full
  have checked := State.writeByte_of_check (b := b) free receiving stated full
  obtain ⟨gap, pending, -, -, -, others, routes, answers, touched⟩ := State.checkFrame_keeps checked
  refine ⟨s.writeByte n b, rfl, ?_, gap, pending, others, routes, answers, touched⟩
  have coded' : ((s.port n).completed b).code = some code := coded
  have stated' : ((s.port n).completed b).statedCount = some count := stated
  have sum : ((s.port n).completed b).runningSum = (s.port n).runningSum + b := rfl
  have verdict : ((s.port n).completed b).verdict n = if (s.port n).runningSum + b ≠ 0 then .fail .check else
      (s.port n).checkFrame n code count (s.port n).arguments := by
    rw [PortRecord.verdict, coded', stated', sum]
    rfl
  have fails : ∀ st, ((s.port n).completed b).verdict n = .fail st →
      ((s.writeByte n b).port n).frameState = .replying
        ∧ ((s.writeByte n b).port n).response = some (Response.build st [])
        ∧ ((s.writeByte n b).port n).readPosition = 0 ∧ ((s.writeByte n b).port n).answerOwed = false
        ∧ (s.writeByte n b).pu.passed = s.pu.passed := fun st judged => by
    rw [State.checkFrame_of_fail _ checked judged, State.port_onPort_self]
    exact ⟨rfl, rfl, rfl, rfl, rfl⟩
  refine ⟨fun wrong => fails _ (by rw [verdict, if_pos wrong]), fun right unknown => fails _ ?_,
    fun k known right wrong => fails _ ?_, fun c decoded right length => ⟨fun denied => fails _ ?_,
      fun granted outside => fails _ ?_, fun granted inside => ?_⟩⟩
  · simp [verdict, right, PortRecord.checkFrame, unknown]
  · simp [verdict, right, PortRecord.checkFrame, known, wrong]
  · simp [verdict, right, PortRecord.checkFrame, length, decoded, PortRecord.passes, denied]
  · simp [verdict, right, PortRecord.checkFrame, length, decoded, PortRecord.passes, granted, outside]
  · have judged : ((s.port n).completed b).verdict n = .pass c := by
      simp [verdict, right, PortRecord.checkFrame, length, decoded, PortRecord.passes, granted, inside]
    have passed := State.checkFrame_of_pass _ checked judged
    have record : (s.writeByte n b).port n =
        { (s.port n).completed b with answerOwed := true, frameTag := (s.port n).frameTag + 1 } := by
      rw [passed]
      exact State.port_onPort_self _
    rw [record, passed]
    exact ⟨rfl, rfl, rfl, rfl⟩

end Sys2Proof.Machine
end

section
/-! PROOF. The bytes of a console command and the command (spec/10 section 10.1, spec/09 R162, R171). -/

namespace Sys2Proof.Machine

/-! ### Numbers and their bytes (R171) -/

@[simp] theorem byte1_toNat (b : Byte) : byte1 b.toNat = [b] := by simp [byte1]

@[simp] theorem byte2_word (hi lo : Byte) : byte2 (word hi lo) = [hi, lo] := by
  simp only [byte2, word, List.cons.injEq, and_true]
  constructor <;> apply BitVec.eq_of_toNat_eq <;> simp only [BitVec.toNat_ofNat] <;> omega

@[simp] theorem fitsByte_toNat (b : Byte) : fitsByte b.toNat = true := decide_eq_true b.isLt

@[simp] theorem fitsWord_word (hi lo : Byte) : fitsWord (word hi lo) = true := by
  have := hi.isLt
  have := lo.isLt
  refine decide_eq_true (p := word hi lo < 65536) ?_
  rw [word]
  omega

theorem toNat_byte {k : Nat} (fits : fitsByte k = true) : (BitVec.ofNat 8 k).toNat = k := by
  have small : k < 256 := of_decide_eq_true fits
  rw [BitVec.toNat_ofNat]
  omega

theorem word_bytes {k : Nat} (fits : fitsWord k = true) : word (BitVec.ofNat 8 (k / 256)) (BitVec.ofNat 8 k) = k := by
  have small : k < 65536 := of_decide_eq_true fits
  simp only [word, BitVec.toNat_ofNat]
  omega

/-- The bits of a set of notices are those of its bytes, the last byte lowest. -/
theorem getLsbD_noticeSetOf (a b c d e f g h : Byte) (i : Nat) : (noticeSetOf a b c d e f g h).getLsbD i =
    if i < 8 then h.getLsbD i else if i < 16 then g.getLsbD (i - 8) else if i < 24 then f.getLsbD (i - 16)
    else if i < 32 then e.getLsbD (i - 24) else if i < 40 then d.getLsbD (i - 32) else if i < 48 then c.getLsbD (i - 40)
    else if i < 56 then b.getLsbD (i - 48) else a.getLsbD (i - 56) := by
  show (a ++ b ++ c ++ d ++ e ++ f ++ g ++ h).getLsbD i = _
  simp only [BitVec.getLsbD_append, Nat.sub_sub]
  grind

@[simp] theorem noticeSetBytes_of (a b c d e f g h : Byte) :
    noticeSetBytes (noticeSetOf a b c d e f g h) = [a, b, c, d, e, f, g, h] := by
  simp only [noticeSetBytes, List.cons.injEq, and_true]
  refine ⟨?_, ?_, ?_, ?_, ?_, ?_, ?_, ?_⟩ <;> ext i hi <;>
    simp only [BitVec.getElem_extractLsb', getLsbD_noticeSetOf] <;> grind

theorem noticeSetOf_bytes (m : NoticeSet) : noticeSetOf (m.extractLsb' 56 8) (m.extractLsb' 48 8) (m.extractLsb' 40 8)
    (m.extractLsb' 32 8) (m.extractLsb' 24 8) (m.extractLsb' 16 8) (m.extractLsb' 8 8) (m.extractLsb' 0 8) = m := by
  apply BitVec.eq_of_getLsbD_eq
  intro i hi
  rw [getLsbD_noticeSetOf]
  simp only [BitVec.getLsbD_extractLsb']
  grind

/-! ### Decoding (R162) -/

/-- A code decodes no other number of argument bytes than its own: for each number, the codes are gone through. -/
theorem decodeCommand_of_length (n : Port) (args : List Byte) :
    ∀ code, argumentCount code ≠ some args.length → decodeCommand n code args = none := by
  rcases args with _ | ⟨a, _ | ⟨b, _ | ⟨c, _ | ⟨d, _ | ⟨e, _ | ⟨f, _ | ⟨g, _ | ⟨h, _ | ⟨i, _ | ⟨j, _ | ⟨k, _ | ⟨l,
    _ | ⟨m, _ | ⟨o, _ | ⟨p, _ | ⟨q, _ | ⟨r, rest⟩⟩⟩⟩⟩⟩⟩⟩⟩⟩⟩⟩⟩⟩⟩⟩⟩
  case cons =>
    have long : ∀ code, decodeCommand n code (a :: b :: c :: d :: e :: f :: g :: h :: i :: j :: k :: l :: m :: o :: p :: q
        :: r :: rest) = none := of_decide_eq_true (by rfl)
    exact fun code _ => long code
  all_goals exact of_decide_eq_true (by rfl)

/-- The assigned codes by their argument counts (R162). -/
theorem codes_of_argumentCount : ∀ code : Byte, argumentCount code = none
    ∨ (argumentCount code = some 0 ∧ code ∈ [0x05, 0x3C, 0x3D, 0x40, 0x48, 0x4B])
    ∨ (argumentCount code = some 1 ∧ code ∈ [0x01, 0x02, 0x03, 0x04, 0x06, 0x07, 0x09, 0x0A, 0x20, 0x21, 0x22, 0x23, 0x30, 0x31, 0x3E])
    ∨ (argumentCount code = some 2 ∧ code ∈ [0x08, 0x19, 0x1A, 0x28, 0x29, 0x41, 0x4A])
    ∨ (argumentCount code = some 3 ∧ code ∈ [0x10, 0x24, 0x33])
    ∨ (argumentCount code = some 4 ∧ code ∈ [0x11, 0x12, 0x16, 0x38])
    ∨ (argumentCount code = some 5 ∧ code ∈ [0x13, 0x14])
    ∨ (argumentCount code = some 7 ∧ code ∈ [0x18])
    ∨ (argumentCount code = some 8 ∧ code ∈ [0x49])
    ∨ (argumentCount code = some 12 ∧ code ∈ [0x32])
    ∨ (argumentCount code = some 16 ∧ code ∈ [0x15]) := by
  decide

/-- A decoded command is encoded by the bytes it was decoded from, and its operands fit them. -/
theorem encodeCommand_of_decode {n : Port} {code : Byte} {args : List Byte} {c : Instr}
    (decoded : decodeCommand n code args = some c) : encodeCommand c = some (n, code, args) ∧ c.wellFormed = true := by
  have length : argumentCount code = some args.length := Decidable.byContradiction fun other =>
    nomatch (decodeCommand_of_length n args code other).symm.trans decoded
  have codes := codes_of_argumentCount code
  simp only [length, List.mem_cons, List.not_mem_nil, or_false, reduceCtorEq, false_or, Option.some.injEq] at codes
  rcases codes with ⟨count, code⟩ | ⟨count, code⟩ | ⟨count, code⟩ | ⟨count, code⟩ | ⟨count, code⟩ | ⟨count, code⟩ | ⟨count, code⟩ | ⟨count, code⟩ | ⟨count, code⟩ | ⟨count, code⟩
  · match args, count with
    | [], _ =>
      rcases code with rfl | rfl | rfl | rfl | rfl | rfl <;> obtain rfl := Option.some.inj decoded <;> simp [encodeCommand, Instr.wellFormed]
  · match args, count with
    | [a], _ =>
      rcases code with rfl | rfl | rfl | rfl | rfl | rfl | rfl | rfl | rfl | rfl | rfl | rfl | rfl | rfl | rfl <;> obtain rfl := Option.some.inj decoded <;> simp [encodeCommand, Instr.wellFormed]
  · match args, count with
    | [a, b], _ =>
      rcases code with rfl | rfl | rfl | rfl | rfl | rfl | rfl <;> obtain rfl := Option.some.inj decoded <;> simp [encodeCommand, Instr.wellFormed]
  · match args, count with
    | [a, b, d], _ =>
      rcases code with rfl | rfl | rfl <;> obtain rfl := Option.some.inj decoded <;> simp [encodeCommand, Instr.wellFormed]
  · match args, count with
    | [a, b, d, e], _ =>
      rcases code with rfl | rfl | rfl | rfl <;> obtain rfl := Option.some.inj decoded <;> simp [encodeCommand, Instr.wellFormed]
  · match args, count with
    | [a, b, d, e, f], _ =>
      rcases code with rfl | rfl <;> obtain rfl := Option.some.inj decoded <;> simp [encodeCommand, Instr.wellFormed]
  · match args, count with
    | [a, b, d, e, f, g, h], _ =>
      subst code
      obtain rfl := Option.some.inj decoded
      simp [encodeCommand, Instr.wellFormed]
  · match args, count with
    | [a, b, d, e, f, g, h, i], _ =>
      subst code
      obtain rfl := Option.some.inj decoded
      simp [encodeCommand, Instr.wellFormed]
  · match args, count with
    | [a, b, d, e, f, g, h, i, j, k, l, m], _ =>
      subst code
      obtain rfl := Option.some.inj decoded
      simp [encodeCommand, Instr.wellFormed, LampFields.wellFormed]
  · match args, count with
    | [a, b, d, e, f, g, h, i, j, k, l, m, o, p, q, r], _ =>
      subst code
      obtain rfl := Option.some.inj decoded
      simp [encodeCommand, Instr.wellFormed, CueFields.wellFormed]

/-- A command is decoded from the bytes it is encoded by, where its operands fit them. -/
theorem decodeCommand_of_encode {n : Port} {code : Byte} {args : List Byte} {c : Instr} (fits : c.wellFormed = true)
    (encoded : encodeCommand c = some (n, code, args)) :
    decodeCommand n code args = some c ∧ argumentCount code = some args.length := by
  cases c <;> simp only [encodeCommand, reduceCtorEq, Option.some.injEq, Prod.mk.injEq] at encoded
  all_goals
    obtain ⟨rfl, rfl, rfl⟩ := encoded
    simp only [Instr.wellFormed, CueFields.wellFormed, LampFields.wellFormed, Bool.and_eq_true] at fits
    refine ⟨congrArg some ?_, rfl⟩
    simp only [toNat_byte, word_bytes, noticeSetOf_bytes, fits]

/-- Settles O39: both directions of the encoding, with the argument count that each decoding fixes. -/
theorem commandBytesAndCommandsAgree : Obligations.CommandBytesAndCommandsAgree := by
  refine ⟨fun c n code args fits encoded => decodeCommand_of_encode fits encoded, fun c n code args decoded => ?_⟩
  obtain ⟨encoded, fits⟩ := encodeCommand_of_decode decoded
  exact ⟨encoded, fits, (decodeCommand_of_encode fits encoded).2⟩

end Sys2Proof.Machine
end

section
/-! PROOF. A frame written byte by byte (spec/09 R158, R161, spec/10 section 10.1), and answers read by their port (R159,
R160, R163). -/

namespace Sys2Proof.Machine

/-! ### A frame received byte by byte (R158) -/

section

variable {s t : State} {n : Port} {code count b : Byte} {got : List Byte}

/-- From `s` to `t` port `n` has been written a frame's code, its count and the arguments `got`. -/
structure State.Receives (n : Port) (code count : Byte) (got : List Byte) (s t : State) : Prop where
  receiving : (t.port n).frameState = .receiving
  coded : (t.port n).code = some code
  counted : (t.port n).statedCount = some count
  arguments : (t.port n).arguments = got
  sum : (t.port n).runningSum = (code :: count :: got).foldl (· + ·) 0
  rights : ∀ x, (t.port n).grants x = (s.port n).grants x
  free : (t.port n).clearHeld = false
  pendingSet : (t.port n).pendingSet = (s.port n).pendingSet
  others : ∀ m, m ≠ n → t.port m = s.port m
  passed : t.pu.passed = s.pu.passed
  answers : t.pu.answers = s.pu.answers
  touched : onlyTouches [.pu] s t

theorem State.receives_argument (h : s.Receives n code count got t) (short : got.length < count.toNat) :
    s.Receives n code count (got ++ [b]) (t.writeByte n b) := by
  rw [State.writeByte_of_argument h.free h.receiving h.counted (h.arguments ▸ short)]
  constructor <;> try rw [State.port_onPort_self]
  · exact h.receiving
  · exact h.coded
  · exact h.counted
  · exact congrArg (· ++ [b]) h.arguments
  · exact (congrArg (· + b) h.sum).trans (by rw [← List.cons_append, ← List.cons_append, List.foldl_append]; rfl)
  · exact h.rights
  · exact h.free
  · exact h.pendingSet
  · exact fun m other => (State.port_onPort_ne _ m other).trans (h.others m other)
  · exact h.passed
  · exact h.answers
  · exact h.touched.trans (by simp [onlyTouches])

theorem State.receives_header (free : (s.port n).clearHeld = false) (idle : (s.port n).frameState = .idle) :
    s.Receives n code count [] ((s.writeByte n code).writeByte n count) := by
  have coded := State.writeByte_of_idle (b := code) free idle
  have record : (s.writeByte n code).port n = ((s.port n).strobed .write none).takeCode code := by
    rw [coded, State.port_onPort_self]
  have counted := State.writeByte_of_count (s := s.writeByte n code) (n := n) (b := count) (by rw [record]; exact free)
    (by rw [record]; rfl) (by rw [record]; rfl)
  have both : ((s.writeByte n code).writeByte n count).port n =
      { (((s.port n).strobed .write none).takeCode code |>.strobed .write none).sumByte count with
        statedCount := some count } := by
    rw [counted, State.port_onPort_self, record]
  exact
    { receiving := by rw [both]; rfl
      coded := by rw [both]; rfl
      counted := by rw [both]
      arguments := by rw [both]; rfl
      sum := by
        rw [both]
        exact congrArg (· + count) (BitVec.zero_add code).symm
      rights := fun x => by rw [both]; rfl
      free := by rw [both]; exact free
      pendingSet := by rw [both]; rfl
      others := fun m other => by
        rw [counted, State.port_onPort_ne _ m other, coded, State.port_onPort_ne _ m other]
      passed := by rw [counted, coded]; rfl
      answers := by rw [counted, coded]; rfl
      touched := by rw [counted, coded]; simp [onlyTouches] }

/-- The arguments written one after another, as many as were stated. -/
theorem State.receives_arguments {args : List Byte} (h : s.Receives n code count got t)
    (room : got.length + args.length ≤ count.toNat) (rest : List Instr) :
    ∃ u, execAll (args.map (Instr.writeStrobe n) ++ rest) t = execAll rest u ∧ s.Receives n code count (got ++ args) u := by
  induction args generalizing got t with
  | nil => exact ⟨t, rfl, by rwa [List.append_nil]⟩
  | cons a args ih =>
    rw [List.length_cons] at room
    have step := State.receives_argument (b := a) h (by omega)
    obtain ⟨u, ran, all⟩ := ih step (by rw [List.length_append, List.length_singleton]; omega)
    exact ⟨u, ran, by rwa [List.append_assoc, List.singleton_append] at all⟩

/-- The check byte of a frame whose sum comes to 0, as its command passes every check. -/
theorem State.receives_check {c : Instr} (h : s.Receives n code count got t) (whole : got.length = count.toNat)
    (sum : (code :: count :: got).foldl (· + ·) 0 + b = 0) (decoded : decodeCommand n code got = some c)
    (assigned : argumentCount code = some got.length) (granted : (s.port n).grants (rightNeeded c) = true)
    (inside : inRange c = true) :
    ((t.writeByte n b).port n).frameState = .executing ∧ ((t.writeByte n b).port n).answerOwed = true
      ∧ (t.writeByte n b).pu.passed = s.pu.passed ++ [⟨n, ((t.writeByte n b).port n).frameTag, c⟩]
      ∧ ((t.writeByte n b).port n).pendingSet = (s.port n).pendingSet ∧ (∀ m, m ≠ n → (t.writeByte n b).port m = s.port m)
      ∧ (t.writeByte n b).pu.answers = s.pu.answers ∧ onlyTouches [.pu] s (t.writeByte n b) := by
  obtain ⟨w, wrote, checks, -, pending, others, -, answers, touched⟩ :=
    framesAreCheckedInOrder n b code count t h.free h.receiving h.coded h.counted (by rw [h.arguments, whole])
  obtain rfl : t.writeByte n b = w := Host.Outcome.next.inj wrote
  obtain ⟨-, -, -, passes⟩ := checks
  obtain ⟨-, -, pass⟩ := passes c (by rw [h.arguments]; exact decoded) (by rw [h.sum]; exact sum)
    (by rw [assigned, whole])
  obtain ⟨executing, owed, tag, passed⟩ := pass ((h.rights _).trans granted) inside
  refine ⟨executing, owed, ?_, pending.trans h.pendingSet, fun m other => (others m other).trans (h.others m other),
    answers.trans h.answers, h.touched.trans touched⟩
  rw [passed, h.passed, tag]

end

theorem argumentCount_le (code : Byte) (k : Nat) (assigned : argumentCount code = some k) : k ≤ 16 := by
  have all : ∀ code : Byte, (argumentCount code).getD 0 ≤ 16 := by decide
  have bound := all code
  rwa [assigned] at bound

theorem checkByte_sum (bytes : List Byte) : bytes.foldl (· + ·) 0 + checkByte bytes = 0 := BitVec.add_right_neg _

/-- Settles O38: code and count, then the arguments by induction, then the check byte by the checks of O37. -/
theorem writtenFrameReachesItsOwner : Obligations.WrittenFrameReachesItsOwner := by
  intro n c bytes s framed fits granted inside free idle
  cases encoded : encodeCommand c with
  | none => simp [commandFrame, encoded] at framed
  | some frame =>
    obtain ⟨m, code, args⟩ := frame
    simp only [commandFrame, encoded, Option.some.injEq, Prod.mk.injEq] at framed
    obtain ⟨rfl, rfl⟩ := framed
    obtain ⟨decoded, assigned⟩ := decodeCommand_of_encode fits encoded
    have few : (BitVec.ofNat 8 args.length : Byte).toNat = args.length :=
      toNat_byte (decide_eq_true ((argumentCount_le code _ assigned).trans_lt (by decide)))
    obtain ⟨u, ran, received⟩ := State.receives_arguments (args := args) (State.receives_header (code := code)
      (count := BitVec.ofNat 8 args.length) free idle) (by rw [few]; simp)
      [.writeStrobe m (checkByte (code :: BitVec.ofNat 8 args.length :: args))]
    refine ⟨_, ?_, State.receives_check (b := checkByte (code :: BitVec.ofNat 8 args.length :: args)) received ?_ ?_ decoded assigned granted inside⟩
    · rw [List.map_append]
      exact ran
    · exact few.symm
    · exact checkByte_sum _

end Sys2Proof.Machine
end

section
/-! PROOF. Responses read byte by byte, and owners' answers arriving (spec/09 R159, R160, R163). -/

namespace Sys2Proof.Machine

/-! ### The bytes of a response (R163) -/

theorem Response.length_bytes (x : Response) : x.bytes.length = x.data.length + 3 := by simp [Response.bytes]

theorem Response.sum_build (st : Status) (data : List Byte) :
    (Response.build st data).bytes.foldl (fun a b => a + b) 0 = 0 := by
  have whole : (Response.build st data).bytes = (st.code :: BitVec.ofNat 8 data.length :: data)
      ++ [checkByte (st.code :: BitVec.ofNat 8 data.length :: data)] := rfl
  rw [whole, List.foldl_append]
  exact checkByte_sum _

/-! ### Read strobes (R159) -/

section

variable {r : PortRecord} (turn : Option Nat)

theorem PortRecord.readByte_of_held (held : r.clearHeld = true) : r.readByte turn = r.strobed .read turn := if_pos held

theorem PortRecord.readByte_of_waiting (free : r.clearHeld = false) (other : r.frameState ≠ .replying) :
    r.readByte turn = { r.strobed .read turn with readWaiting := true } := by
  cases frame : r.frameState with
  | replying => exact absurd frame other
  | idle | receiving | executing => simp [PortRecord.readByte, free, frame, PortRecord.strobed]

theorem PortRecord.readByte_of_replying (free : r.clearHeld = false) (replying : r.frameState = .replying) :
    r.readByte turn = (r.strobed .read turn).give := by
  simp [PortRecord.readByte, free, replying, PortRecord.strobed]

/-- The byte given is driven where the direction line says read, and the read position moves on or ends. -/
theorem PortRecord.give_reads {x : Response} (response : r.response = some x) :
    r.give.direction = r.direction ∧ r.give.untilWrite = r.untilWrite ∧ r.give.acknowledged = true
      ∧ r.give.readWaiting = false ∧ r.give.answerOwed = r.answerOwed
      ∧ r.give.driven = (if r.direction = .read then x.bytes[r.readPosition]? else none)
      ∧ (r.readPosition + 1 < x.data.length + 3 → r.give.readPosition = r.readPosition + 1 ∧ r.give.response = some x
          ∧ r.give.frameState = r.frameState)
      ∧ (x.data.length + 3 ≤ r.readPosition + 1 → r.give.readPosition = 0 ∧ r.give.response = none
          ∧ r.give.frameState = .idle) := by
  obtain ⟨none, -⟩ | ⟨y, some, ⟨more, given⟩ | ⟨last, given⟩⟩ := r.give_cases
  · exact nomatch none.symm.trans response
  all_goals
    obtain rfl := Option.some.inj (some.symm.trans response)
    rw [Response.length_bytes] at *
    rw [given, r.drive_eq]
  · exact ⟨rfl, rfl, rfl, rfl, rfl, rfl, fun _ => ⟨rfl, response, rfl⟩, fun past => absurd more (Nat.not_lt.mpr past)⟩
  · exact ⟨rfl, rfl, rfl, rfl, rfl, rfl, fun before => absurd before (Nat.not_lt.mpr last), fun _ => ⟨rfl, rfl, rfl⟩⟩

end

/-! ### Owners' answers (R159, R160) -/

section

variable {r : PortRecord} (st : Status) (data : List Byte)

/-- An answer made the response; a read strobe that waits is given its first byte. -/
theorem PortRecord.takeAnswer_of_free (free : r.writeHeld = none) :
    r.takeAnswer st data = r.reply (Response.build st data) := by rw [PortRecord.takeAnswer, free]

theorem PortRecord.takeAnswer_of_held {b : Byte} (held : r.writeHeld = some b) : r.takeAnswer st data =
    { (r.reply (Response.build st data)).abandon.takeCode b with writeHeld := none } := by
  rw [PortRecord.takeAnswer, held]

theorem PortRecord.reply_reads : (r.reply (Response.build st data)).direction = r.direction
    ∧ (r.reply (Response.build st data)).untilWrite = r.untilWrite
    ∧ (r.reply (Response.build st data)).frameState = .replying
    ∧ (r.reply (Response.build st data)).response = some (Response.build st data)
    ∧ (r.reply (Response.build st data)).readWaiting = false
    ∧ (r.reply (Response.build st data)).answerOwed = false
    ∧ (r.readWaiting = false → (r.reply (Response.build st data)).readPosition = 0
        ∧ (r.reply (Response.build st data)).driven = r.driven
        ∧ (r.reply (Response.build st data)).acknowledged = r.acknowledged)
    ∧ (r.readWaiting = true → (r.reply (Response.build st data)).readPosition = 1
        ∧ (r.reply (Response.build st data)).driven = (if r.direction = .read then some st.code else none)
        ∧ (r.reply (Response.build st data)).acknowledged = true) := by
  cases waits : r.readWaiting with
  | false =>
    rw [PortRecord.reply_of_quiet waits]
    exact ⟨rfl, rfl, rfl, rfl, waits, rfl, fun _ => ⟨rfl, rfl, rfl⟩, nofun⟩
  | true =>
    have gave : r.reply (Response.build st data) = PortRecord.give { r with
        response := some (Response.build st data), readPosition := 0, answerOwed := false, frameState := .replying } :=
      if_pos waits
    obtain ⟨direction, untilWrite, acknowledged, quiet, owed, driven, more, -⟩ := PortRecord.give_reads (r := { r with
      response := some (Response.build st data), readPosition := 0, answerOwed := false, frameState := .replying }) rfl
    obtain ⟨position, response, frame⟩ := more (show 0 + 1 < data.length + 3 by omega)
    rw [gave]
    exact ⟨direction, untilWrite, frame, response, quiet, owed, nofun, fun _ => ⟨position, driven, acknowledged⟩⟩

end

variable {s : State} {n : Port} {a : Answer} {rest : List Answer}

theorem State.deliver_of_front (front : s.pu.answers = a :: rest) (port : a.port = n) : s.deliver n =
    if (s.port n).awaits a then
      ({ s with pu := { s.pu with answers := rest } } : State).onPort n fun r => r.takeAnswer a.status a.data
    else { s with pu := { s.pu with answers := rest } } := by
  simp [State.deliver, front, port]

/-- Settles O40: `PortRecord.give` for the strobes, `PortRecord.takeAnswer` for the answers. -/
theorem answersAreReadByTheirPort : Obligations.AnswersAreReadByTheirPort := by
  refine ⟨fun n turn st data s => ⟨fun x response free replying => ?_, fun free other => ?_, fun held => ?_,
    Response.sum_build st data, Response.length_bytes _, rfl⟩, fun n a rest s front port =>
      ⟨fun executing owed tag => ?_, fun other => ?_⟩⟩
  · obtain ⟨direction, untilWrite, acknowledged, -, -, driven, more, last⟩ :=
      PortRecord.give_reads (r := (s.port n).strobed .read turn) response
    refine ⟨s.onPort n fun r => r.readByte turn, rfl, ?_⟩
    rw [State.port_onPort_self, PortRecord.readByte_of_replying turn free replying]
    exact ⟨direction, untilWrite, driven, acknowledged, fun before => ⟨(more before).1, (more before).2.1,
      (more before).2.2.trans replying⟩, last, State.onPort_keeps _⟩
  · refine ⟨s.onPort n fun r => r.readByte turn, rfl, ?_, State.onPort_keeps _⟩
    rw [State.port_onPort_self, PortRecord.readByte_of_waiting turn free other]
    rfl
  · refine ⟨s.onPort n fun r => r.readByte turn, rfl, ?_, State.onPort_keeps _⟩
    rw [State.port_onPort_self, PortRecord.readByte_of_held turn held]
    rfl
  · have awaits : (s.port n).awaits a = true := by simp [PortRecord.awaits, executing, owed, tag]
    have delivered := State.deliver_of_front front port
    rw [if_pos awaits] at delivered
    refine ⟨_, congrArg Host.Outcome.next delivered, ?_⟩
    rw [State.port_onPort_self]
    obtain ⟨direction, untilWrite, frame, response, quiet, owed', first, waited⟩ :=
      (s.port n).reply_reads a.status a.data
    have record : State.port { s with pu := { s.pu with answers := rest } } n = s.port n := rfl
    rw [record]
    cases held : (s.port n).writeHeld with
    | none =>
      rw [PortRecord.takeAnswer_of_free _ _ held]
      exact ⟨rfl, owed', fun _ => ⟨frame, response, quiet, first, waited⟩, nofun, direction, untilWrite,
        State.port_onPort_ne (s := s) _, rfl, by simp [onlyTouches]⟩
    | some b =>
      rw [PortRecord.takeAnswer_of_held _ _ held]
      refine ⟨rfl, owed', nofun, ?_, direction, untilWrite, State.port_onPort_ne (s := s) _, rfl, by simp [onlyTouches]⟩
      rintro b' ⟨⟩
      exact ⟨rfl, rfl, rfl, rfl, rfl, rfl, rfl, rfl⟩
  · have ignores : (s.port n).awaits a = false := by
      rcases other with other | other | other <;> simp [PortRecord.awaits, other]
    have delivered := State.deliver_of_front front port
    rw [ignores] at delivered
    exact ⟨_, congrArg Host.Outcome.next delivered, rfl, by simp [onlyTouches]⟩

end Sys2Proof.Machine
end

section
/-! PROOF. A REPLY frame sent on the booth line and read back (spec/02 R20 to R22, spec/10 section 10.3). -/

namespace Sys2Proof.Machine

/-! ### Cells (R20) -/

/-- The cells of some bits, the last hold run on into the idle line. -/
def idleCells (bits : List Bool) : List Nat := (bits.flatMap cellHolds).dropLast ++ [idleHold]

theorem cellHolds_ne_nil (b : Bool) : cellHolds b ≠ [] := by cases b <;> simp [cellHolds]

theorem flatMap_cellHolds_ne_nil {bits : List Bool} (some : bits ≠ []) : bits.flatMap cellHolds ≠ [] := by
  obtain ⟨b, rest, rfl⟩ := List.exists_cons_of_ne_nil some
  simp [cellHolds_ne_nil]

theorem readCells_idleCells {bits : List Bool} (nonempty : bits ≠ []) : readCells (idleCells bits) = some bits := by
  induction bits with
  | nil => exact absurd rfl nonempty
  | cons b bits ih =>
    cases bits with
    | nil => cases b <;> rfl
    | cons b' bits =>
      have more := flatMap_cellHolds_ne_nil (List.cons_ne_nil b' bits)
      have cells : idleCells (b :: b' :: bits) = cellHolds b ++ idleCells (b' :: bits) := by
        rw [idleCells, List.flatMap_cons, List.dropLast_append_of_ne_nil more, List.append_assoc, idleCells]
      have read := ih (List.cons_ne_nil b' bits)
      rw [cells]
      cases b <;> simp [cellHolds, readCells, read]

/-! ### Bytes and their bits (R20) -/

theorem bitsToByte_byteBits : ∀ b : Byte, bitsToByte (byteBits b) = b := by decide

theorem bytesOf_bitsOf (bytes : List Byte) : bytesOf (bitsOf bytes) = some bytes := by
  induction bytes with
  | nil => rfl
  | cons b bytes ih =>
    have cut : bytesOf (bitsOf (b :: bytes)) = (bytesOf (bitsOf bytes)).map (bitsToByte (byteBits b) :: ·) := rfl
    rw [cut, ih, bitsToByte_byteBits]
    rfl

/-! ### The frame (R21, R22) -/

theorem dropWhile_preamble (rest : List Nat) :
    (preambleHolds ++ Marker.reply.symbols.flatMap symbolHolds ++ rest).dropWhile (fun h => h < 3) =
      3 :: 3 :: 4 :: 4 :: rest := rfl

/-- A REPLY frame is received with its marker and every bit of its body and its CRC. -/
theorem receive_reply (body : List Byte) : receive (LineFrame.signal ⟨.reply, body⟩) =
    some (.reply, bitsOf (body ++ crcBytes body)) := by
  have bits : bitsOf (body ++ crcBytes body) ≠ [] := by
    simp [bitsOf, crcBytes, byteBits]
  have signal : LineFrame.signal ⟨.reply, body⟩ = preambleHolds ++ Marker.reply.symbols.flatMap symbolHolds
      ++ idleCells (bitsOf (body ++ crcBytes body)) := by
    rw [LineFrame.signal, LineFrame.holds, List.dropLast_append_of_ne_nil (flatMap_cellHolds_ne_nil bits),
      List.append_assoc, idleCells]
  have marked : markerOf [.j, .j, .k, .k] = some .reply := by decide
  rw [receive, signal, dropWhile_preamble]
  simp [readSymbol, readCells_idleCells bits, marked]

theorem header_fields (toggle command : Bool) : ∀ address < 16, headerAddress (headerByte address toggle command) = address
    ∧ headerToggle (headerByte address toggle command) = toggle
    ∧ headerCommand (headerByte address toggle command) = command := by
  revert toggle command
  decide

theorem judge_reply {header : Byte} {payload : List Byte}
    (form : payloadLength .reply (headerCommand header) = some payload.length) :
    judge (LineFrame.signal ⟨.reply, header :: payload⟩) = some (header, payload) := by
  have length : (header :: payload ++ crcBytes (header :: payload)).length - 2 = (header :: payload).length := by
    simp [crcBytes]
  simp only [judge, receive_reply, bytesOf_bitsOf, length, List.take_left, List.drop_left, form]
  simp

/-- Settles O25: the cells, then the bytes, then the header's fields are read back. -/
theorem replyFramesAreReadBack : Obligations.ReplyFramesAreReadBack := by
  intro address toggle payload small
  refine ⟨fun ten => ?_, ?_⟩
  · obtain ⟨number, expected, command⟩ := header_fields toggle true address small
    rw [replyOf, judge_reply (by rw [command, ten]; rfl)]
    simp [number, expected]
  · obtain ⟨number, expected, command⟩ := header_fields toggle false address small
    rw [replyOf, judge_reply (by rw [command]; rfl)]
    simp [number, expected, reportOf]

end Sys2Proof.Machine
end

section
/-! PROOF. Edits of the cue lists: their tests, and what each leaves of its list (spec/04 R70 to R80). -/

namespace Sys2Proof.Machine

/-! ### Places in a list (R70) -/

section

variable {x y : CueIx} {pre post l : List CueIx}

theorem placeBefore_split (fresh : y ∉ pre) : placeBefore y x (pre ++ y :: post) = pre ++ x :: y :: post := by
  induction pre with
  | nil => simp [placeBefore]
  | cons a pre ih =>
    simp [placeBefore, Ne.symm (List.ne_of_not_mem_cons fresh), ih (List.not_mem_of_not_mem_cons fresh)]

theorem placeAfter_split (fresh : y ∉ pre) : placeAfter y x (pre ++ y :: post) = pre ++ y :: x :: post := by
  induction pre with
  | nil => simp [placeAfter]
  | cons a pre ih =>
    simp [placeAfter, Ne.symm (List.ne_of_not_mem_cons fresh), ih (List.not_mem_of_not_mem_cons fresh)]

theorem nextIn_split (fresh : y ∉ pre) : nextIn y (pre ++ y :: post) = post.head? := by
  induction pre with
  | nil => simp [nextIn]
  | cons a pre ih =>
    simp [nextIn, Ne.symm (List.ne_of_not_mem_cons fresh), ih (List.not_mem_of_not_mem_cons fresh)]

/-- A record lies up to `c` exactly where it comes no later than `c` does. -/
theorem mem_upTo {c : CueIx} (listed : c ∈ l) : x ∈ upTo c l ↔ x ∈ l ∧ l.idxOf x ≤ l.idxOf c := by
  induction l with
  | nil => exact absurd listed List.not_mem_nil
  | cons a l ih =>
    by_cases first : a = c
    · subst first
      by_cases same : a = x
      · subst same
        simp [upTo]
      · simp [upTo, List.idxOf_cons_ne _ same, Ne.symm same]
    · have later : c ∈ l := (List.mem_cons.mp listed).resolve_left (Ne.symm first)
      by_cases same : a = x
      · subst same
        simp [upTo, first]
      · simp [upTo, first, ih later, Ne.symm same, List.idxOf_cons_ne _ same, List.idxOf_cons_ne _ first]

end

/-! ### The live region (R73) -/

section

variable (r : ScreenRecord) {x : CueIx}

theorem ScreenRecord.isLive_of_resting (resting : r.state.performing = false) : r.isLive x = false := by
  simp [ScreenRecord.isLive, ScreenRecord.liveRegion, resting]

theorem ScreenRecord.isLive_iff_of_none (performing : r.state.performing = true) (none : r.next = none) :
    r.isLive x = true ↔ x ∈ r.list := by
  simp [ScreenRecord.isLive, ScreenRecord.liveRegion, performing, none]

theorem ScreenRecord.isLive_iff_of_next {c : CueIx} (performing : r.state.performing = true) (next : r.next = some c)
    (listed : c ∈ r.list) : r.isLive x = true ↔ x ∈ r.list ∧ r.list.idxOf x ≤ r.list.idxOf c := by
  rw [← mem_upTo listed]
  simp [ScreenRecord.isLive, ScreenRecord.liveRegion, performing, next]

theorem ScreenRecord.liveAfter_of_next {z : CueIx} (next : nextIn x r.list = some z) : r.liveAfter x = r.isLive z := by
  rw [ScreenRecord.liveAfter, next]

theorem ScreenRecord.liveAfter_of_clear (clear : ∀ z, nextIn x r.list = some z → r.isLive z = false) :
    r.liveAfter x = false := by
  unfold ScreenRecord.liveAfter
  split
  · exact clear _ ‹_›
  · rfl

end

/-! ### The tests of an edit (R72) -/

section

variable {s : State} {sc : Screen} {gen : Nat} {tests : EditTests} {index : Nat} {act : State → State}

theorem edit_stale (stale : gen ≠ (s.screen sc).generation) :
    edit s sc gen tests index act = ⟨.stale, byte2 (s.screen sc).generation, s⟩ := if_pos stale

theorem edit_range (present : gen = (s.screen sc).generation) (out : tests.outOfRange = true) :
    edit s sc gen tests index act = refuse s .range := by
  rw [edit, if_neg (not_not.mpr present), if_pos out]

theorem edit_live (present : gen = (s.screen sc).generation) (inside : tests.outOfRange = false) (live : tests.live = true) :
    edit s sc gen tests index act = refuse s .live := by
  rw [edit, if_neg (not_not.mpr present), if_neg (by simp [inside]), if_pos live]

theorem edit_empty (present : gen = (s.screen sc).generation) (inside : tests.outOfRange = false)
    (dead : tests.live = false) (needs : tests.needsFree = true) (empty : s.su.free = []) :
    edit s sc gen tests index act = refuse s .empty := by
  rw [edit, if_neg (not_not.mpr present), if_neg (by simp [inside]), if_neg (by simp [dead]),
    if_pos (by simp [needs, empty])]

theorem edit_taken (present : gen = (s.screen sc).generation) (inside : tests.outOfRange = false)
    (dead : tests.live = false) (free : tests.needsFree = false ∨ s.su.free ≠ []) : edit s sc gen tests index act =
      ⟨.ok, byte1 index ++ byte2 ((gen + 1) % 65536), (act s).raiseGeneration sc⟩ := by
  rw [edit, if_neg (not_not.mpr present), if_neg (by simp [inside]), if_neg (by simp [dead]), if_neg]
  · rfl
  · rcases free with free | free <;> simp [free]

end

/-! ### The commands and their rules -/

/-- The state a ruling leaves, its answer set out. -/
def Ruling.answered (r : Ruling) (n : Port) (c : Instr) : State := r.state.answer n c r.status r.data

theorem onCueIx_val (x : CueIx) (s : State) (rule : CueIx → Ruling) : onCueIx x.val s rule = rule x := dif_pos x.isLt

section

variable (n : Port) (sc : Screen) (gen : Nat) (x y : CueIx) (s : State)

theorem exec_cueNew : exec (.cueNew n (numberOf sc) gen) s =
    .next ((cueNewRule s sc gen).answered n (.cueNew n (numberOf sc) gen)) := by
  unfold exec
  dsimp only
  exact console_free rfl (oneTo_numberOf sc) (onNumber_numberOf ..)

theorem exec_cueNewBefore : exec (.cueNewBefore n (numberOf sc) gen x.val) s =
    .next ((cueNewBeforeRule s sc gen x).answered n (.cueNewBefore n (numberOf sc) gen x.val)) := by
  unfold exec
  dsimp only
  exact console_free rfl (by simp [inRange, oneTo_numberOf]) (by rw [onNumber_numberOf, onCueIx_val])

theorem exec_cueNewAfter : exec (.cueNewAfter n (numberOf sc) gen x.val) s =
    .next ((cueNewAfterRule s sc gen x).answered n (.cueNewAfter n (numberOf sc) gen x.val)) := by
  unfold exec
  dsimp only
  exact console_free rfl (by simp [inRange, oneTo_numberOf]) (by rw [onNumber_numberOf, onCueIx_val])

theorem exec_cueMoveBefore : exec (.cueMoveBefore n (numberOf sc) gen x.val y.val) s =
    .next ((cueMoveBeforeRule s sc gen x y).answered n (.cueMoveBefore n (numberOf sc) gen x.val y.val)) := by
  unfold exec
  dsimp only
  exact console_free rfl (by simp [inRange, oneTo_numberOf]) (by rw [onNumber_numberOf, onCueIx_val, onCueIx_val])

theorem exec_cueMoveAfter : exec (.cueMoveAfter n (numberOf sc) gen x.val y.val) s =
    .next ((cueMoveAfterRule s sc gen x y).answered n (.cueMoveAfter n (numberOf sc) gen x.val y.val)) := by
  unfold exec
  dsimp only
  exact console_free rfl (by simp [inRange, oneTo_numberOf]) (by rw [onNumber_numberOf, onCueIx_val, onCueIx_val])

theorem exec_cueWrite (f : CueFields) : exec (.cueWrite n (numberOf sc) gen x.val f) s =
    .next ((cueWriteRule s sc gen x f).answered n (.cueWrite n (numberOf sc) gen x.val f)) := by
  unfold exec
  dsimp only
  exact console_free rfl (by simp [inRange, oneTo_numberOf]) (by rw [onNumber_numberOf, onCueIx_val])

theorem exec_cueFree : exec (.cueFree n (numberOf sc) gen x.val) s =
    .next ((cueFreeRule s sc gen x).answered n (.cueFree n (numberOf sc) gen x.val)) := by
  unfold exec
  dsimp only
  exact console_free rfl (by simp [inRange, oneTo_numberOf]) (by rw [onNumber_numberOf, onCueIx_val])

theorem exec_reelSet (r : ReelIx) (length side : Nat) : exec (.reelSet n (numberOf sc) gen (numberOf r) length side) s =
    .next ((reelSetRule s sc gen r length side).answered n (.reelSet n (numberOf sc) gen (numberOf r) length side)) := by
  unfold exec
  dsimp only
  exact console_free rfl (by simp [inRange, oneTo_numberOf]) (by rw [onNumber_numberOf, onNumber_numberOf])

theorem exec_reelUnthread (r : ReelIx) : exec (.reelUnthread n (numberOf sc) (numberOf r)) s =
    .next ((reelUnthreadRule s sc r).answered n (.reelUnthread n (numberOf sc) (numberOf r))) := by
  unfold exec
  dsimp only
  exact console_free rfl (by simp [inRange, oneTo_numberOf]) (by rw [onNumber_numberOf, onNumber_numberOf])

theorem exec_showClear : exec (.showClear n (numberOf sc) gen) s =
    .next ((showClearRule s sc gen).answered n (.showClear n (numberOf sc) gen)) := by
  unfold exec
  dsimp only
  exact console_free rfl (oneTo_numberOf sc) (onNumber_numberOf ..)

end

/-! ### CUE_WRITE's fields (R77) -/

section

variable {f : CueFields}

theorem targetOf_of_large {k : Nat} (large : 3 < k) : targetOf k = none := by
  unfold targetOf
  split <;> simp_all

theorem sideOfCode_of_large {k : Nat} (large : 1 < k) : sideOfCode k = none := by
  unfold sideOfCode
  split <;> simp_all

theorem cueKindOf_of_large (large : 5 < f.kind) : cueKindOf f = none := by
  unfold cueKindOf
  split <;> simp_all

theorem cueTriggerOf_of_large (large : 3 < f.trigger) : cueTriggerOf f = none := by
  unfold cueTriggerOf
  split <;> simp_all

theorem cueKindOf_of_target (douser : f.kind = 3) (large : 3 < f.target) : cueKindOf f = none := by
  simp [cueKindOf, douser, targetOf_of_large large]

theorem cueTriggerOf_of_mark (mark : f.trigger = 1) : cueTriggerOf f =
    if wordArg f.first < wordArg f.second then some (.mark (wordArg f.first) (wordArg f.second)) else none := by
  simp [cueTriggerOf, mark]

/-- Fields that R77 refuses give no contents. -/
theorem cueContents_of_bad (bad : 999 < f.label ∨ 5 < f.kind ∨ 3 < f.trigger ∨ (f.kind = 3 ∧ 3 < f.target)
    ∨ (f.trigger = 1 ∧ f.first < 65536 ∧ f.second ≤ f.first)) (st : CueState) : cueContents f st = none := by
  have kindless : cueKindOf f = none → cueContents f st = none := fun none => by
    unfold cueContents
    split <;> simp [none]
  have triggerless : cueTriggerOf f = none → cueContents f st = none := fun none => by
    unfold cueContents
    split <;> simp [none]
  rcases bad with label | kind | trigger | ⟨douser, target⟩ | ⟨mark, first, second⟩
  · exact if_pos label
  · exact kindless (cueKindOf_of_large kind)
  · exact triggerless (cueTriggerOf_of_large trigger)
  · exact kindless (cueKindOf_of_target douser target)
  · refine triggerless ((cueTriggerOf_of_mark mark).trans (if_neg ?_))
    unfold wordArg
    omega

/-- Fields that R77 takes give the contents of their kind and of their trigger. -/
theorem cueContents_of_good {k : CueKind} {t : Trigger} (label : f.label ≤ 999) (kind : cueKindOf f = some k)
    (trigger : cueTriggerOf f = some t) (st : CueState) : cueContents f st = some ⟨f.label, k, t, st⟩ := by
  have inside : ¬ Config.labelMax < f.label := Nat.not_lt.mpr label
  rw [cueContents, if_neg inside, kind, trigger]

/-- The kind of each number that R77 takes. -/
theorem cueKindOf_of_good (kind : f.kind ≤ 5) (target : f.kind = 3 → f.target ≤ 3) : ∃ k, cueKindOf f = some k := by
  have number : f.kind = 0 ∨ f.kind = 1 ∨ f.kind = 2 ∨ f.kind = 3 ∨ f.kind = 4 ∨ f.kind = 5 := by omega
  by_cases douser : f.kind = 3
  · have target := target douser
    have side : f.target = 0 ∨ f.target = 1 ∨ f.target = 2 ∨ f.target = 3 := by omega
    rcases side with d | d | d | d <;> simp [cueKindOf, douser, d, targetOf]
  · rcases number with e | e | e | e | e | e <;> simp_all [cueKindOf]

theorem wordArg_of_fits {k : Nat} (fits : fitsWord k = true) : wordArg k = k :=
  Nat.mod_eq_of_lt (of_decide_eq_true fits)

theorem byteArg_of_fits {k : Nat} (fits : fitsByte k = true) : byteArg k = k :=
  Nat.mod_eq_of_lt (of_decide_eq_true fits)

theorem cueTriggerOf_of_good (fits : f.wellFormed = true) (trigger : f.trigger ≤ 3)
    (mark : f.trigger = 1 → f.first < f.second) : ∃ t, cueTriggerOf f = some t := by
  simp only [CueFields.wellFormed, Bool.and_eq_true, and_assoc] at fits
  obtain ⟨-, -, -, first, second, -⟩ := fits
  have number : f.trigger = 0 ∨ f.trigger = 1 ∨ f.trigger = 2 ∨ f.trigger = 3 := by omega
  by_cases window : f.trigger = 1
  · have ordered : wordArg f.first < wordArg f.second := by
      rw [wordArg_of_fits first, wordArg_of_fits second]
      exact mark window
    exact ⟨_, (cueTriggerOf_of_mark window).trans (if_pos ordered)⟩
  · rcases number with e | e | e | e <;> simp_all [cueTriggerOf]

end

/-- Settles O46: each test of `edit` in its order, and the live region as `upTo` cuts it. -/
theorem editsAreRuledOnInOrder : Obligations.EditsAreRuledOnInOrder := by
  intro n sc gen x y f r length side s
  dsimp only
  refine ⟨fun stale => ?_, fun present unlisted => ?_, fun present bad => ?_, fun present bad => ?_,
    fun present listed other live => ?_, fun present listed live fits label kind trigger mark target => ?_,
    fun z present listed other next live => ⟨?_, ?_⟩, fun present empty => ⟨?_, fun listed dead => ?_, fun listed dead => ?_⟩,
    fun resting live => ?_, fun performing none => ?_, fun c next performing listed => ?_⟩
  · simp only [List.forall_mem_cons]
    refine ⟨?_, ?_, ?_, ?_, ?_, ?_, ?_, ?_, ?_, nofun⟩
    · rw [exec_cueNew, cueNewRule, edit_stale stale]; rfl
    · rw [exec_cueNewBefore, cueNewBeforeRule, edit_stale stale]; rfl
    · rw [exec_cueNewAfter, cueNewAfterRule, edit_stale stale]; rfl
    · rw [exec_cueMoveBefore, cueMoveBeforeRule, edit_stale stale]; rfl
    · rw [exec_cueMoveAfter, cueMoveAfterRule, edit_stale stale]; rfl
    · rw [exec_cueWrite, cueWriteRule, edit_stale stale]; rfl
    · rw [exec_cueFree, cueFreeRule, edit_stale stale]; rfl
    · rw [exec_reelSet, reelSetRule, edit_stale stale]; rfl
    · rw [exec_showClear, showClearRule, if_pos stale]; rfl
  · simp only [List.forall_mem_cons]
    refine ⟨?_, ?_, ?_, ?_, ?_, ?_, ?_, ?_, nofun⟩
    · rw [exec_cueNewBefore, cueNewBeforeRule, edit_range present (by simp [unlisted])]; rfl
    · rw [exec_cueNewAfter, cueNewAfterRule, edit_range present (by simp [unlisted])]; rfl
    · rw [exec_cueMoveBefore, cueMoveBeforeRule, edit_range present (by simp [unlisted])]; rfl
    · rw [exec_cueMoveBefore, cueMoveBeforeRule, edit_range present (by simp [unlisted])]; rfl
    · rw [exec_cueMoveAfter, cueMoveAfterRule, edit_range present (by simp [unlisted])]; rfl
    · rw [exec_cueMoveAfter, cueMoveAfterRule, edit_range present (by simp [unlisted])]; rfl
    · rw [exec_cueWrite, cueWriteRule, edit_range present (by simp [unlisted])]; rfl
    · rw [exec_cueFree, cueFreeRule, edit_range present (by simp [unlisted])]; rfl
  · rw [exec_cueWrite, cueWriteRule, edit_range present (by simp [cueContents_of_bad bad])]; rfl
  · have outside : (!oneTo Config.reelMax length || (sideOfCode side).isNone) = true := by
      rcases bad with none | long | large
      · simp [oneTo, none]
      · have reel : ¬ length ≤ Config.reelMax := Nat.not_le.mpr long
        simp [oneTo, reel]
      · simp [sideOfCode_of_large large]
    rw [exec_reelSet, reelSetRule, edit_range present outside]; rfl
  · simp only [List.forall_mem_cons]
    refine ⟨?_, ?_, ?_, ?_, ?_, nofun⟩
    · rw [exec_cueNewBefore, cueNewBeforeRule, edit_live present (by simp [listed]) live]; rfl
    · rw [exec_cueMoveBefore, cueMoveBeforeRule, edit_live present (by simp [listed, other]) (by simp [live])]; rfl
    · rw [exec_cueMoveBefore, cueMoveBeforeRule, edit_live present (by simp [listed, other]) (by simp [live])]; rfl
    · rw [exec_cueMoveAfter, cueMoveAfterRule, edit_live present (by simp [listed, other]) (by simp [live])]; rfl
    · rw [exec_cueFree, cueFreeRule, edit_live present (by simp [listed]) live]; rfl
  · obtain ⟨k, kind⟩ := cueKindOf_of_good kind target
    obtain ⟨tr, trigger⟩ := cueTriggerOf_of_good fits trigger mark
    have contents := cueContents_of_good label kind trigger .pending
    rw [exec_cueWrite, cueWriteRule, edit_live present (by simp [listed, contents]) live]; rfl
  · have blocked := (ScreenRecord.liveAfter_of_next _ next).trans live
    rw [exec_cueNewAfter, cueNewAfterRule, edit_live present (by simp [listed]) blocked]; rfl
  · have blocked := (ScreenRecord.liveAfter_of_next _ next).trans live
    rw [exec_cueMoveAfter, cueMoveAfterRule, edit_live present (by simp [listed, other]) (by simp [blocked])]; rfl
  · rw [exec_cueNew, cueNewRule, edit_empty present rfl rfl rfl empty]; rfl
  · rw [exec_cueNewBefore, cueNewBeforeRule, edit_empty present (by simp [listed]) (by simpa using dead) rfl empty]; rfl
  · have clear := ScreenRecord.liveAfter_of_clear (s.screen sc) fun z next => Bool.eq_false_iff.mpr (dead z next)
    rw [exec_cueNewAfter, cueNewAfterRule, edit_empty present (by simp [listed]) clear rfl empty]; rfl
  · rw [ScreenRecord.isLive_of_resting _ resting] at live
    exact Bool.false_ne_true live
  · exact ScreenRecord.isLive_iff_of_none _ performing none
  · exact ScreenRecord.isLive_iff_of_next _ performing next listed

end Sys2Proof.Machine
end

section
/-! PROOF. What taken edits leave: records placed, moved, freed and written, and reels set (spec/04 R74 to R84). -/

namespace Sys2Proof.Machine

/-! ### A screen's record edited (R71) -/

/-- From `s` to `t` the record of `sc` has become `r`; of the rest, cue records and the free list may differ. -/
structure State.EditedTo (sc : Screen) (r : ScreenRecord) (s t : State) : Prop where
  screen : t.screen sc = r
  others : otherScreensKept sc s t
  touched : onlyTouches [.su] s t

section

variable {s u : State} {sc : Screen} {r : ScreenRecord}

theorem State.EditedTo.refl (s : State) (sc : Screen) : s.EditedTo sc (s.screen sc) s :=
  ⟨rfl, ⟨fun _ _ => rfl, rfl, rfl, rfl, rfl⟩, onlyTouches_refl _ s⟩

theorem State.EditedTo.onScreen (h : s.EditedTo sc r u) (f : ScreenRecord → ScreenRecord) :
    s.EditedTo sc (f r) (u.onScreen sc f) := by
  obtain ⟨screen, ⟨others, own⟩, touched⟩ := h
  refine ⟨by simp [screen], ⟨fun c other => ?_, own⟩, touched.trans (by simp [onlyTouches])⟩
  rw [State.screen_onScreen, if_neg (Ne.symm other)]
  exact others c other

theorem State.EditedTo.onCue (h : s.EditedTo sc r u) (x : CueIx) (f : Cue → Cue) : s.EditedTo sc r (u.onCue x f) :=
  ⟨h.screen, h.others, h.touched.trans (by simp [onlyTouches])⟩

theorem State.EditedTo.setFree (h : s.EditedTo sc r u) (l : List CueIx) : s.EditedTo sc r (u.setFree l) :=
  ⟨h.screen, h.others, h.touched.trans (by simp [onlyTouches])⟩

theorem State.EditedTo.pu (h : s.EditedTo sc r u) : u.pu = s.pu := by
  obtain ⟨-, -, -, -, -, -, -, -, pu, -⟩ := h
  exact pu (by simp)

/-- An edit's state with its answer set out. -/
theorem State.EditedTo.answered (h : s.EditedTo sc r u) (n : Port) (c : Instr) (data : List Byte) :
    (u.answer n c .ok data).screen sc = r ∧ (u.answer n c .ok data).pu = (s.answer n c .ok data).pu
      ∧ otherScreensKept sc s (u.answer n c .ok data) ∧ onlyTouches [.su, .pu] s (u.answer n c .ok data) :=
  ⟨h.screen, pu_answer h.pu n c .ok data, h.others, (h.touched.mono (by simp)).trans (by simp [onlyTouches])⟩

end

section

variable {s : State} {sc : Screen}

/-- The free list's head taken and placed in the list (R70). -/
theorem State.editedTo_takeAndPlace {x : CueIx} {rest : List CueIx} (free : s.su.free = x :: rest)
    (place : CueIx → List CueIx → List CueIx) :
    s.EditedTo sc { s.screen sc with list := place x (s.screen sc).list } (s.takeAndPlace sc place)
      ∧ (s.takeAndPlace sc place).su.free = rest ∧ (s.takeAndPlace sc place).cue x = Cue.fresh
      ∧ ∀ y, y ≠ x → (s.takeAndPlace sc place).cue y = s.cue y := by
  have placed : s.takeAndPlace sc place = ((s.setFree rest).onCue x fun _ => Cue.fresh).onList sc (place x) := by
    rw [State.takeAndPlace, free]
  rw [placed]
  refine ⟨(((State.EditedTo.refl s sc).setFree rest).onCue x _).onScreen fun r => { r with list := place x r.list }, rfl,
    ?_, fun y other => ?_⟩
  · simp [State.onList]
  · simp [State.onList, Ne.symm other]

theorem State.raiseGeneration_reads {u : State} {r : ScreenRecord} (h : s.EditedTo sc r u) :
    s.EditedTo sc { r with generation := (r.generation + 1) % 65536 } (u.raiseGeneration sc)
      ∧ (u.raiseGeneration sc).su.free = u.su.free ∧ (u.raiseGeneration sc).su.cues = u.su.cues :=
  ⟨h.onScreen fun r => { r with generation := (r.generation + 1) % 65536 }, rfl, rfl⟩

theorem State.pointToAppended_of_go {x : CueIx} (fresh : (s.cue x).trigger = .go) : s.pointToAppended sc x =
    if (s.screen sc).state.performing = true ∧ (s.screen sc).next = none ∧ (s.screen sc).list.getLast? = some x then
      s.onScreen sc fun r => { r with next := some x } else s := by
  have waits : (s.onScreen sc fun r => { r with next := some x }).runCues cueFuel sc
      = s.onScreen sc fun r => { r with next := some x } := by
    refine State.runCues_of_go _ _ fun y next => ?_
    obtain rfl : x = y := by simpa using next
    exact fresh
  rw [State.pointToAppended, waits]
  simp [and_assoc]

/-- The free list's head placed by an edit, and pointed to where a performing screen's pointer names none (R80). -/
theorem State.appended_reads {x : CueIx} {rest : List CueIx} (free : s.su.free = x :: rest)
    (place : CueIx → List CueIx → List CueIx) :
    ∃ t, ((s.takeAndPlace sc place).raiseGeneration sc).pointToAppended sc x = t
      ∧ s.EditedTo sc { s.screen sc with
          list := place x (s.screen sc).list
          generation := ((s.screen sc).generation + 1) % 65536
          next := if (s.screen sc).state.performing = true ∧ (s.screen sc).next = none
            ∧ (place x (s.screen sc).list).getLast? = some x then some x else (s.screen sc).next } t
      ∧ t.su.free = rest ∧ t.cue x = ⟨0, .end_, .go, .pending⟩ ∧ ∀ y, y ≠ x → t.cue y = s.cue y := by
  obtain ⟨placed, left, written, kept⟩ := State.editedTo_takeAndPlace (sc := sc) free place
  obtain ⟨raised, left', cues⟩ := State.raiseGeneration_reads placed
  have cue : ∀ y, ((s.takeAndPlace sc place).raiseGeneration sc).cue y = (s.takeAndPlace sc place).cue y := fun y => by
    rw [State.cue, cues]
    rfl
  have go : (((s.takeAndPlace sc place).raiseGeneration sc).cue x).trigger = .go := by rw [cue, written]; rfl
  refine ⟨_, rfl, ?_⟩
  rw [State.pointToAppended_of_go go, raised.screen]
  dsimp only
  split
  · exact ⟨raised.onScreen fun r => { r with next := some x }, left'.trans left, (cue x).trans written, fun y other => (cue y).trans (kept y other)⟩
  · exact ⟨raised, left'.trans left, (cue x).trans written, fun y other => (cue y).trans (kept y other)⟩

end

/-- Settles O43: the head of the free list by `State.takeAndPlace`, and the pointer by `State.pointToAppended`. -/
theorem newCuesArePlaced : Obligations.NewCuesArePlaced := by
  refine ⟨fun n sc x rest s free => ?_, fun n sc x y rest pre post s free list fresh unlisted => ⟨fun dead => ?_, fun dead => ?_⟩⟩
  · obtain ⟨t, appended, edited, left, written, kept⟩ := State.appended_reads (sc := sc) free fun x l => l ++ [x]
    have ruled : cueNewRule s sc (s.screen sc).generation =
        ⟨.ok, byte1 x.val ++ byte2 (((s.screen sc).generation + 1) % 65536), t⟩ := by
      have head : s.freeHead = x := by simp [State.freeHead, free]
      rw [cueNewRule, edit_taken rfl rfl rfl (.inr (by simp [free])), head, ← appended]
      rfl
    obtain ⟨screen, pu, others, touched⟩ := edited.answered n (.cueNew n (numberOf sc) (s.screen sc).generation)
      (byte1 x.val ++ byte2 (((s.screen sc).generation + 1) % 65536))
    refine ⟨_, exec_cueNew .., ?_⟩
    rw [ruled]
    refine ⟨⟨screen.trans ?_, pu⟩, left, written, kept, others, touched⟩
    simp [and_comm]
  · obtain ⟨placed, left, written, kept⟩ := State.editedTo_takeAndPlace (sc := sc) free fun new l => placeBefore y new l
    obtain ⟨raised, left', cues⟩ := State.raiseGeneration_reads placed
    have head : s.freeHead = x := by simp [State.freeHead, free]
    have listed : y ∈ (s.screen sc).list := by simp [list]
    have ruled : cueNewBeforeRule s sc (s.screen sc).generation y = ⟨.ok, byte1 x.val
        ++ byte2 (((s.screen sc).generation + 1) % 65536),
        (s.takeAndPlace sc fun new l => placeBefore y new l).raiseGeneration sc⟩ := by
      rw [cueNewBeforeRule, edit_taken rfl (by simp [listed]) dead (.inr (by simp [free])), head]
    obtain ⟨screen, pu, others, touched⟩ := raised.answered n
      (.cueNewBefore n (numberOf sc) (s.screen sc).generation y.val)
      (byte1 x.val ++ byte2 (((s.screen sc).generation + 1) % 65536))
    refine ⟨_, exec_cueNewBefore .., ?_⟩
    rw [ruled]
    refine ⟨screen.trans ?_, left'.trans left, (congrArg (Vector.get · x) cues).trans written,
      fun z other => (congrArg (Vector.get · z) cues).trans (kept z other), pu, others, touched⟩
    rw [list, placeBefore_split fresh]
  · obtain ⟨t, appended, edited, left, written, kept⟩ :=
      State.appended_reads (sc := sc) free fun new l => placeAfter y new l
    have head : s.freeHead = x := by simp [State.freeHead, free]
    have listed : y ∈ (s.screen sc).list := by simp [list]
    have clear : (s.screen sc).liveAfter y = false := ScreenRecord.liveAfter_of_clear _ fun z next => by
      rw [list, nextIn_split fresh] at next
      exact dead z next
    have ruled : cueNewAfterRule s sc (s.screen sc).generation y =
        ⟨.ok, byte1 x.val ++ byte2 (((s.screen sc).generation + 1) % 65536), t⟩ := by
      rw [cueNewAfterRule, edit_taken rfl (by simp [listed]) clear (.inr (by simp [free])), head, ← appended]
      rfl
    obtain ⟨screen, pu, others, touched⟩ := edited.answered n
      (.cueNewAfter n (numberOf sc) (s.screen sc).generation y.val)
      (byte1 x.val ++ byte2 (((s.screen sc).generation + 1) % 65536))
    refine ⟨_, exec_cueNewAfter .., ?_⟩
    rw [ruled]
    refine ⟨screen.trans ?_, left, written, kept, pu, others, touched⟩
    have last : (pre ++ y :: x :: post).getLast? = some x ↔ post = [] := by
      rcases List.eq_nil_or_concat post with rfl | ⟨l, z, rfl⟩
      · simp
      · have other : z ≠ x := fun same => unlisted (by simp [list, same])
        have concat : pre ++ y :: x :: l.concat z = (pre ++ y :: x :: l) ++ [z] := by simp
        rw [concat, List.getLast?_concat]
        simp [other]
    simp only [list, placeAfter_split fresh, last, and_left_comm]

end Sys2Proof.Machine
end

section
/-! PROOF. Records moved, freed and written, and reels set and unthreaded (spec/04 R76 to R84). -/

namespace Sys2Proof.Machine

/-! ### Moves and CUE_FREE (R76, R78) -/

section

variable {s : State} {sc : Screen} {x y : CueIx} {pre post : List CueIx}

/-- A list rewritten by an edit, its generation raised. -/
theorem State.onList_reads (f : List CueIx → List CueIx) :
    s.EditedTo sc { s.screen sc with
      list := f (s.screen sc).list, generation := ((s.screen sc).generation + 1) % 65536 }
      ((s.onList sc f).raiseGeneration sc) :=
  (State.raiseGeneration_reads ((State.EditedTo.refl s sc).onScreen fun r => { r with list := f r.list })).1

theorem State.raised_reads : s.EditedTo sc { s.screen sc with generation := ((s.screen sc).generation + 1) % 65536 }
    (s.raiseGeneration sc) := (State.raiseGeneration_reads (State.EditedTo.refl s sc)).1

theorem cueMoveBeforeRule_taken (listed : x ∈ (s.screen sc).list) (other : y ∈ (s.screen sc).list)
    (dead : (s.screen sc).isLive x = false) (clear : (s.screen sc).isLive y = false) :
    cueMoveBeforeRule s sc (s.screen sc).generation x y = ⟨.ok, byte1 x.val
      ++ byte2 (((s.screen sc).generation + 1) % 65536),
      (if x = y then s else s.onList sc fun l => placeBefore y x (l.erase x)).raiseGeneration sc⟩ := by
  rw [cueMoveBeforeRule, edit_taken rfl (by simp [listed, other]) (by simp [dead, clear]) (.inl rfl)]

theorem cueMoveAfterRule_taken (listed : x ∈ (s.screen sc).list) (other : y ∈ (s.screen sc).list)
    (dead : (s.screen sc).isLive x = false) (clear : (s.screen sc).liveAfter y = false) :
    cueMoveAfterRule s sc (s.screen sc).generation x y = ⟨.ok, byte1 x.val
      ++ byte2 (((s.screen sc).generation + 1) % 65536),
      (if x = y then s else s.onList sc fun l => placeAfter y x (l.erase x)).raiseGeneration sc⟩ := by
  rw [cueMoveAfterRule, edit_taken rfl (by simp [listed, other]) (by simp [dead, clear]) (.inl rfl)]

theorem cueFreeRule_taken (listed : x ∈ (s.screen sc).list) (dead : (s.screen sc).isLive x = false) :
    cueFreeRule s sc (s.screen sc).generation x = ⟨.ok, byte1 x.val ++ byte2 (((s.screen sc).generation + 1) % 65536),
      (s.giveBack sc x).raiseGeneration sc⟩ := by
  rw [cueFreeRule, edit_taken rfl (by simp [listed]) dead (.inl rfl)]

end

/-- Settles O44: each is a taken edit whose act rewrites the list. -/
theorem cuesAreMovedAndFreed : Obligations.CuesAreMovedAndFreed := by
  intro n sc x y pre post s listed other dead
  dsimp only
  refine ⟨fun split fresh apart clear => ?_, fun split fresh apart clear => ?_, ?_, fun clear => ?_, ?_⟩
  · have ruled := cueMoveBeforeRule_taken listed other dead clear
    rw [if_neg apart] at ruled
    obtain ⟨screen, pu, others, touched⟩ := (State.onList_reads (s := s) (sc := sc) fun l => placeBefore y x (l.erase x)).answered
      n (.cueMoveBefore n (numberOf sc) (s.screen sc).generation x.val y.val)
      (byte1 x.val ++ byte2 (((s.screen sc).generation + 1) % 65536))
    refine ⟨_, exec_cueMoveBefore .., ?_⟩
    rw [ruled]
    refine ⟨⟨screen.trans ?_, rfl, pu, others, touched⟩, rfl⟩
    rw [split, placeBefore_split fresh]
  · have ruled := cueMoveAfterRule_taken listed other dead clear
    rw [if_neg apart] at ruled
    obtain ⟨screen, pu, others, touched⟩ := (State.onList_reads (s := s) (sc := sc) fun l => placeAfter y x (l.erase x)).answered
      n (.cueMoveAfter n (numberOf sc) (s.screen sc).generation x.val y.val)
      (byte1 x.val ++ byte2 (((s.screen sc).generation + 1) % 65536))
    refine ⟨_, exec_cueMoveAfter .., ?_⟩
    rw [ruled]
    refine ⟨⟨screen.trans ?_, rfl, pu, others, touched⟩, rfl⟩
    rw [split, placeAfter_split fresh]
  · have ruled := cueMoveBeforeRule_taken listed listed dead dead
    rw [if_pos rfl] at ruled
    obtain ⟨screen, pu, others, touched⟩ := (State.raised_reads (s := s) (sc := sc)).answered n
      (.cueMoveBefore n (numberOf sc) (s.screen sc).generation x.val x.val)
      (byte1 x.val ++ byte2 (((s.screen sc).generation + 1) % 65536))
    refine ⟨_, exec_cueMoveBefore .., ?_⟩
    rw [ruled]
    exact ⟨⟨screen, rfl, pu, others, touched⟩, rfl⟩
  · have ruled := cueMoveAfterRule_taken listed listed dead clear
    rw [if_pos rfl] at ruled
    obtain ⟨screen, pu, others, touched⟩ := (State.raised_reads (s := s) (sc := sc)).answered n
      (.cueMoveAfter n (numberOf sc) (s.screen sc).generation x.val x.val)
      (byte1 x.val ++ byte2 (((s.screen sc).generation + 1) % 65536))
    refine ⟨_, exec_cueMoveAfter .., ?_⟩
    rw [ruled]
    exact ⟨⟨screen, rfl, pu, others, touched⟩, rfl⟩
  · have freed : s.EditedTo sc _ ((s.giveBack sc x).raiseGeneration sc) := (State.raiseGeneration_reads
      (((State.EditedTo.refl s sc).onScreen fun r => { r with list := r.list.erase x }).setFree (s.su.free ++ [x]))).1
    obtain ⟨screen, pu, others, touched⟩ := freed.answered n (.cueFree n (numberOf sc) (s.screen sc).generation x.val)
      (byte1 x.val ++ byte2 (((s.screen sc).generation + 1) % 65536))
    refine ⟨_, exec_cueFree .., ?_⟩
    rw [cueFreeRule_taken listed dead]
    exact ⟨⟨screen, rfl, pu, others, touched⟩, rfl⟩

/-! ### CUE_WRITE (R77) -/

/-- Settles O45: the contents that the fields give, written by a taken edit. -/
theorem cueWriteWritesTheContents : Obligations.CueWriteWritesTheContents := by
  intro n sc x f s listed dead fits label kindNumber triggerNumber mark target
  obtain ⟨kind, isKind⟩ := cueKindOf_of_good kindNumber target
  obtain ⟨trigger, isTrigger⟩ := cueTriggerOf_of_good fits triggerNumber mark
  have contents := cueContents_of_good label isKind isTrigger
  have ruled : cueWriteRule s sc (s.screen sc).generation x f = ⟨.ok, byte1 x.val
      ++ byte2 (((s.screen sc).generation + 1) % 65536),
      (s.onCue x fun c => ⟨f.label, kind, trigger, c.state⟩).raiseGeneration sc⟩ := by
    rw [cueWriteRule, edit_taken rfl (by simp [listed, contents]) dead (.inl rfl)]
    simp only [contents, Option.getD_some]
  obtain ⟨screen, pu, others, touched⟩ := (State.raiseGeneration_reads ((State.EditedTo.refl s sc).onCue x fun c =>
    ⟨f.label, kind, trigger, c.state⟩)).1.answered n (.cueWrite n (numberOf sc) (s.screen sc).generation x.val f)
      (byte1 x.val ++ byte2 (((s.screen sc).generation + 1) % 65536))
  have written : ((s.onCue x fun c => ⟨f.label, kind, trigger, c.state⟩).raiseGeneration sc).cue x =
      ⟨f.label, kind, trigger, (s.cue x).state⟩ := by simp [State.raiseGeneration]
  simp only [CueFields.wellFormed, Bool.and_eq_true, and_assoc] at fits
  obtain ⟨-, -, -, first, second, -, level, time⟩ := fits
  refine ⟨_, exec_cueWrite .., ?_⟩
  rw [ruled]
  have cue : ((⟨.ok, byte1 x.val ++ byte2 (((s.screen sc).generation + 1) % 65536),
      (s.onCue x fun c => ⟨f.label, kind, trigger, c.state⟩).raiseGeneration sc⟩ : Ruling).answered n
        (.cueWrite n (numberOf sc) (s.screen sc).generation x.val f)).cue x =
      ⟨f.label, kind, trigger, (s.cue x).state⟩ := written
  rw [cue]
  have kindIs : ∀ {k}, cueKindOf f = some k → kind = k := fun is => Option.some.inj (isKind.symm.trans is)
  have triggerIs : ∀ {t}, cueTriggerOf f = some t → trigger = t := fun is => Option.some.inj (isTrigger.symm.trans is)
  refine ⟨rfl, rfl, fun e => kindIs ?_, fun e => kindIs ?_, fun e => kindIs ?_, fun e d => kindIs ?_, fun e d => kindIs ?_,
    fun e d => kindIs ?_, fun e d => kindIs ?_, fun e => kindIs ?_, fun e => kindIs ?_, fun e => triggerIs ?_,
    fun e => triggerIs ?_, fun e => triggerIs ?_, fun e => triggerIs ?_, fun y apart => ?_, ⟨screen, pu⟩, rfl, others, touched⟩
  · simp only [cueKindOf, e]
  · simp only [cueKindOf, e]
  · simp only [cueKindOf, e]
  · simp only [cueKindOf, e, d, targetOf, Option.map_some]
  · simp only [cueKindOf, e, d, targetOf, Option.map_some]
  · simp only [cueKindOf, e, d, targetOf, Option.map_some]
  · simp only [cueKindOf, e, d, targetOf, Option.map_some]
  · simp only [cueKindOf, e, byteArg_of_fits level, wordArg_of_fits time, min_comm f.time, min_def_lt, Config.delayMax]
  · simp only [cueKindOf, e]
  · simp only [cueTriggerOf, e, wordArg_of_fits first]
  · simp only [cueTriggerOf, e, wordArg_of_fits first, wordArg_of_fits second, if_pos (mark e)]
  · simp only [cueTriggerOf, e, wordArg_of_fits first, min_comm f.first, min_def_lt, Config.delayMax]
  · simp only [cueTriggerOf, e]
  · show ((s.onCue x _).raiseGeneration sc).cue y = s.cue y
    simp [State.raiseGeneration, Ne.symm apart]

/-! ### Reels (R83, R84) -/

section

variable {s : State} {sc : Screen} {r : ReelIx}

section

variable {n : Port} {length k : Nat} {half : Side} (long : 1 ≤ length) (short : length ≤ 60000) (is : sideOfCode k = some half)

include long short is

/-- The entry a REEL_SET writes. -/
theorem exec_reelSet_taken (settable : (s.reel sc r).settable = true) :
    exec (.reelSet n (numberOf sc) (s.screen sc).generation (numberOf r) length k) s =
      .next (((s.setReel sc r (.reel .listed length half)).raiseGeneration sc).answer n
        (.reelSet n (numberOf sc) (s.screen sc).generation (numberOf r) length k) .ok
        (byte1 (numberOf r) ++ byte2 (((s.screen sc).generation + 1) % 65536))) := by
  have inside : oneTo Config.reelMax length = true := by simp [oneTo, Config.reelMax, long, short]
  rw [exec_reelSet, reelSetRule, edit_taken rfl (by simp [inside, is]) (by simp [settable]) (.inl rfl), is]
  rfl

theorem exec_reelSet_live (fixed : (s.reel sc r).settable = false) :
    exec (.reelSet n (numberOf sc) (s.screen sc).generation (numberOf r) length k) s =
      .next (s.answer n (.reelSet n (numberOf sc) (s.screen sc).generation (numberOf r) length k) .live []) := by
  have inside : oneTo Config.reelMax length = true := by simp [oneTo, Config.reelMax, long, short]
  rw [exec_reelSet, reelSetRule, edit_live rfl (by simp [inside, is]) (by simp [fixed])]
  rfl

end

/-- What a taken REEL_SET leaves of its screen's record. -/
theorem State.setReel_edited (e : ReelEntry) : s.EditedTo sc { s.screen sc with
    reels := upd (s.screen sc).reels r fun _ => e, generation := ((s.screen sc).generation + 1) % 65536 }
    ((s.setReel sc r e).raiseGeneration sc) :=
  (State.raiseGeneration_reads ((State.EditedTo.refl s sc).onScreen fun x => { x with reels := upd x.reels r fun _ => e })).1

theorem reelUnthreadRule_taken {length : Nat} {side : Side} (loaded : s.reel sc r = .reel .loaded length side)
    (armed : s.role (projectorOf sc side) = .armed) : reelUnthreadRule s sc r = ⟨.ok, [],
      (((s.setReel sc r (.reel .listed length side)).setRole (projectorOf sc side) .idle).clearCounter
        (projectorOf sc side)).examine sc⟩ := by
  simp [reelUnthreadRule, loaded, armed]

theorem reelUnthreadRule_refused (away : (∀ length side, s.reel sc r ≠ .reel .loaded length side)
    ∨ ∃ length side, s.reel sc r = .reel .loaded length side ∧ s.role (projectorOf sc side) ≠ .armed) :
    reelUnthreadRule s sc r = refuse s .state := by
  unfold reelUnthreadRule
  split
  · rename_i length side loaded
    rcases away with never | ⟨length', side', loaded', busy⟩
    · exact absurd loaded (never length side)
    · obtain ⟨-, rfl, rfl⟩ := ReelEntry.reel.inj (loaded.symm.trans loaded')
      exact if_neg busy
  · rfl

end

/-- Settles O48: a taken edit of the reel table, and an armed projector given back. -/
theorem reelsAreSetAndUnthreaded : Obligations.ReelsAreSetAndUnthreaded := by
  intro n sc r length side s
  dsimp only
  refine ⟨fun long short settable => ?_, fun long short ⟨st, len, sd, fixed, unlisted⟩ => ?_, fun loaded armed => ?_,
    fun away => ?_⟩
  · have free : (s.reel sc r).settable = true := by
      rcases settable with empty | ⟨len, sd, listed⟩
      · rw [empty]; rfl
      · rw [listed]; rfl
    refine ⟨_, exec_reelSet_taken long short (half := side) (by cases side <;> rfl) free, ?_⟩
    obtain ⟨screen, pu, others, touched⟩ := (State.setReel_edited (s := s) (sc := sc) (r := r) (.reel .listed length side)).answered n
      (.reelSet n (numberOf sc) (s.screen sc).generation (numberOf r) length _)
      (byte1 (numberOf r) ++ byte2 (((s.screen sc).generation + 1) % 65536))
    refine ⟨?_, fun q apart => ?_, ?_, rfl, rfl, pu, others, touched⟩
    · exact (congrArg (fun x => x.reels[r]) screen).trans ((upd_get ..).trans (if_pos rfl))
    · exact (congrArg (fun x => x.reels[q]) screen).trans ((upd_get ..).trans (if_neg (Ne.symm apart)))
    · refine screen.trans ?_
      simp [State.raiseGeneration]
  · have fixed' : (s.reel sc r).settable = false := by
      rw [fixed, ReelEntry.settable]
      exact decide_eq_false unlisted
    exact exec_reelSet_live long short (half := side) (by cases side <;> rfl) fixed'
  · refine ⟨_, exec_reelUnthread .., ?_⟩
    rw [reelUnthreadRule_taken loaded armed, Ruling.answered]
    refine ⟨?_, fun q apart => ?_, ?_, ?_, fun q apart => ?_, fun q apart => ?_, ?_, fun q => ?_, ?_, ?_⟩
    · exact (State.examine_reel ..).trans ((State.reel_setReel ..).trans (if_pos ⟨rfl, rfl⟩))
    · exact (State.examine_reel ..).trans ((State.reel_setReel ..).trans (if_neg fun same => apart same.2.symm))
    · simp [State.clearCounter]
    · simp [State.clearCounter]
    · simp [State.clearCounter, Ne.symm apart]
    · simp [State.clearCounter, Ne.symm apart]
    · simp [State.clearCounter]
    · simp [State.clearCounter]
    · simp [State.clearCounter, State.answer]
    · simp [onlyTouches, State.clearCounter]
  · have refused : reelUnthreadRule s sc r = refuse s .state := reelUnthreadRule_refused (away.imp id fun ⟨loaded, busy⟩ =>
      ⟨length, side, loaded, busy⟩)
    rw [exec_reelUnthread, refused]
    rfl

end Sys2Proof.Machine
end

section
/-! PROOF. A performance begun, stopped, rewound and cleared (spec/05 R96, R98 to R100). -/

namespace Sys2Proof.Machine

/-! ### The show commands as their rules (R96 to R100) -/

section

variable {s t : State} {n : Port} {sc : Screen} {st : Status} {data : List Byte}

theorem exec_showStart (ruling : showStartRule s sc = ⟨st, data, t⟩) :
    exec (.showStart n (numberOf sc)) s = .next (t.answer n (.showStart n (numberOf sc)) st data) := by
  unfold exec; dsimp only
  exact console_free rfl (oneTo_numberOf sc) (by rw [onNumber_numberOf, ruling])

theorem exec_showStop (ruling : showStopRule s sc = ⟨st, data, t⟩) :
    exec (.showStop n (numberOf sc)) s = .next (t.answer n (.showStop n (numberOf sc)) st data) := by
  unfold exec; dsimp only
  exact console_free rfl (oneTo_numberOf sc) (by rw [onNumber_numberOf, ruling])

theorem exec_showRewind (ruling : showRewindRule s sc = ⟨st, data, t⟩) :
    exec (.showRewind n (numberOf sc)) s = .next (t.answer n (.showRewind n (numberOf sc)) st data) := by
  unfold exec; dsimp only
  exact console_free rfl (oneTo_numberOf sc) (by rw [onNumber_numberOf, ruling])

end

variable (s : State)

/-! ### A performance begun (R96) -/

@[simp] theorem State.cue_resetCues (sc : Screen) (y : CueIx) : (s.resetCues sc).cue y =
    if y ∈ (s.screen sc).list then { s.cue y with state := .pending } else s.cue y :=
  updEach_get ..

theorem State.editedTo_resetCues (sc : Screen) : s.EditedTo sc (s.screen sc) (s.resetCues sc) :=
  ⟨rfl, ⟨fun _ _ => rfl, rfl, rfl, rfl, rfl⟩, by simp [onlyTouches, State.resetCues]⟩

/-- Settles O50: the screen's record written, with a first cue that waits for GO. -/
theorem showStartBeginsAPerformance : Obligations.ShowStartBeginsAPerformance := by
  intro n sc s
  refine ⟨fun trip => exec_showStart (if_pos trip), fun clear unfit => exec_showStart ?_,
    fun x first clear rest waits => ?_⟩
  · rw [showStartRule, if_neg (by simp [clear])]
    rcases unfit with busy | empty
    · rw [if_pos busy]; rfl
    · rw [empty]
      split <;> rfl
  · let begin : ScreenRecord → ScreenRecord := fun r =>
      { r with next := r.list.head?, motorOwed := false, changeHeld := false, changeover := Changeover.blank,
               afterTimer := some (.start 0), state := .dark }
    have begun := (s.editedTo_resetCues sc).onScreen begin
    have nonempty : ¬ (s.screen sc).list.isEmpty = true := fun empty => by
      rw [List.isEmpty_iff.mp empty] at first
      exact nomatch first
    have taken : showStartRule s sc = ⟨.ok, [], (s.resetCues sc).onScreen sc begin⟩ := by
      rw [showStartRule, if_neg (by simp [clear]), if_neg (not_not.mpr rest), if_neg nonempty]
      refine congrArg (Ruling.mk _ _) (State.runCues_of_go _ _ fun y next => ?_)
      have y_is : y = x := by
        rw [begun.screen] at next
        exact Option.some.inj (next.symm.trans first)
      subst y_is
      rw [State.onScreen_cue, State.cue_resetCues]
      split <;> exact waits
    obtain ⟨screen, pu, others, touched⟩ := begun.answered n (.showStart n (numberOf sc)) []
    refine ⟨_, exec_showStart taken, screen.trans ?_, fun y => s.cue_resetCues sc y, rfl, others, pu, touched⟩
    rw [← first]
    rfl

/-! ### The records of one projector quit (R50, R98, R99) -/

/-- From `s` to `t` at most the film, the desired states and the lamp of projector `p` and the ports' records differ. -/
structure State.Quits (p : Projector) (s t : State) : Prop where
  su : t.su = s.su
  motion : ∀ q, q ≠ p → t.motion q = s.motion q
  station : ∀ q, q ≠ p → t.station q = s.station q
  lamp : ∀ q, q ≠ p → t.lamp q = s.lamp q
  queue : t.lc.burstQueue = s.lc.burstQueue
  hu : t.hu = s.hu
  fu : t.fu = s.fu

section

variable {s}

theorem State.Quits.trans {t u : State} {p : Projector} (a : s.Quits p t) (b : t.Quits p u) : s.Quits p u where
  su := b.su.trans a.su
  motion q hq := (b.motion q hq).trans (a.motion q hq)
  station q hq := (b.station q hq).trans (a.station q hq)
  lamp q hq := (b.lamp q hq).trans (a.lamp q hq)
  queue := b.queue.trans a.queue
  hu := b.hu.trans a.hu
  fu := b.fu.trans a.fu

theorem State.quits_onDesired (s : State) (p : Projector) (f : Desired → Desired) : s.Quits p (s.onDesired p f) := by
  constructor <;> simp +contextual [eq_comm]

theorem State.quits_onMotion (s : State) (p : Projector) (f : Motion → Motion) : s.Quits p (s.onMotion p f) := by
  constructor <;> simp +contextual [eq_comm]

variable {p : Projector} (quiet : (s.screen (screenOf p)).changeover.state.examined = false)
include quiet

theorem State.quits_extinguish : s.Quits p (s.extinguish p) := by
  by_cases cold : (s.lamp p).state = .cold
  · rw [State.extinguish_of_cold _ cold]
    constructor <;> simp
  · rw [State.extinguish_of_unexamined quiet cold]
    constructor <;> simp +contextual [State.lampAttention, eq_comm]

/-- A projector made safe on a screen with no incoming to be examined (R98). -/
theorem State.quits_makeSafe (idle : s.role p = .idle) : s.Quits p (s.makeSafe p) := by
  have closed := (((s.quits_onDesired p fun d => { d with motor := .stop }).trans
    (State.quits_onMotion _ p fun m => if (s.station p).desired.motor = .stop then m else m.closeGate)).trans
      (State.quits_onDesired _ p fun d => { d with douser := .closed })).trans
        (State.quits_onDesired _ p fun d => { d with blade := .closed })
  rw [State.makeSafe, State.stopMotor_of_idle _ idle]
  exact (closed.trans (State.quits_extinguish (by simpa using quiet))).trans (State.quits_onMotion _ p _)

end

theorem State.act_makeSafe (p : Projector) : s.Act (s.makeSafe p) :=
  ((((s.act_stopMotor p).andThen fun u => u.act_closeDouser p).andThen fun u => u.act_closeBlade p).andThen fun u =>
    u.act_extinguish p).andThen fun u => u.act_clearCounter p

theorem State.makeSafe_reads {p : Projector} (idle : s.role p = .idle) :
    ((s.makeSafe p).motion p).framesRemaining = 0 ∧ ((s.makeSafe p).motion p).watch = none
      ∧ ((s.makeSafe p).station p).desired.motor = .stop ∧ ((s.makeSafe p).station p).desired.douser = .closed
      ∧ ((s.makeSafe p).station p).desired.blade = .closed ∧ ((s.makeSafe p).lamp p).state = .cold
      ∧ ((s.lamp p).state ≠ .cold →
          ((s.makeSafe p).station p).desired.arc = .off ∧ ((s.makeSafe p).lamp p).feedRate = 0) := by
  obtain ⟨cold, feed, motor, douser, blade, -⟩ :=
    State.extinguish_reads (((s.stopMotor p).closeDouser p).closeBlade p) p
  rw [State.stopMotor_of_idle _ idle] at cold feed motor douser blade
  rw [State.makeSafe, State.stopMotor_of_idle _ idle]
  refine ⟨by simp [State.clearCounter], by simp [State.clearCounter], motor.trans ?_, douser.trans ?_, blade.trans ?_,
    cold, fun lit => ?_⟩
  · simp [State.closeDouser_eq, State.closeBlade_eq]
  · simp [State.closeDouser_eq, State.closeBlade_eq]
  · simp [State.closeDouser_eq, State.closeBlade_eq]
  · obtain ⟨out, off⟩ := feed lit
    exact ⟨off, out⟩

/-! ### A performance stopped (R98, R122) -/

/-- The screen stopped, its changeover aborted and its projectors IDLE, before they are made safe. -/
def State.stopped (s : State) (sc : Screen) : State :=
  (((s.abortChangeover sc).setRole (projectorOf sc .a) .idle).setRole (projectorOf sc .b) .idle).onScreen sc fun r =>
    { r with motorOwed := false, changeHeld := false, afterTimer := none, state := .stopped }

theorem State.showStopRule_taken {sc : Screen}
    (live : (s.screen sc).state = .dark ∨ (s.screen sc).state = .running ∨ (s.screen sc).state = .waiting
      ∨ (s.screen sc).state = .ended) :
    showStopRule s sc = ⟨.ok, [], (((s.stopped sc).makeSafe (projectorOf sc .a)).makeSafe (projectorOf sc .b)).raise
      (noticeShowEnded sc)⟩ := by
  have taken : ¬ (!((s.screen sc).state.performing || (s.screen sc).state = .ended)) = true := by
    rcases live with h | h | h | h <;> simp [h, ScreenState.performing]
  exact if_neg taken

/-- What the withdrawal of a queued burst writes. -/
theorem State.withdrawQueued_eq (sc : Screen) : s.withdrawQueued sc =
    if (s.screen sc).changeover.state = .queued then s.setQueue (s.lc.burstQueue.filter fun b => !b.isOf sc) else s := by
  unfold State.withdrawQueued State.askWithdraw
  by_cases present : s.lc.burstQueue.any (Burst.isOf sc) = true
  · rw [if_pos present]
  · have none : s.lc.burstQueue.filter (fun b => !b.isOf sc) = s.lc.burstQueue := by
      simpa [List.filter_eq_self] using present
    rw [if_neg present, none]
    rfl

theorem State.stopped_keeps (sc : Screen) : onlyTouches [.lc, .su] s (s.stopped sc) ∧ (s.stopped sc).su.cues = s.su.cues
    ∧ (s.stopped sc).lc.stations = s.lc.stations := by
  rw [State.stopped, State.abortChangeover, State.withdrawQueued_eq]
  split <;> simp [onlyTouches]

theorem State.stopped_role (sc : Screen) (p : Projector) :
    (s.stopped sc).role p = if screenOf p = sc then .idle else s.role p := by
  have same : (s.abortChangeover sc).role p = s.role p := by
    rw [State.abortChangeover, State.withdrawQueued_eq]
    split <;> simp
  rw [State.stopped, State.onScreen_role, State.role_setRole, State.role_setRole, same]
  by_cases mine : screenOf p = sc
  · rw [if_pos mine]
    obtain rfl | rfl := projector_cases mine <;> simp
  · have feeds : ∀ side, projectorOf sc side ≠ p := fun side h => mine (h ▸ screenOf_projectorOf sc side)
    simp [mine, feeds]

/-- The changeover record of a screen that is stopped. -/
theorem Changeover.abort_eq (x : Changeover) : x.abort = { x with
    state := if x.state = .waitingReady ∨ x.state = .queued ∨ x.state = .sent then .aborted else x.state } := by
  obtain ⟨state, _⟩ := x
  cases state <;> rfl

theorem State.stopped_screen (sc d : Screen) : (s.stopped sc).screen d = if sc = d then { s.screen sc with
      state := .stopped, motorOwed := false, changeHeld := false, afterTimer := none
      changeover := (s.screen sc).changeover.abort } else s.screen d := by
  have withdrawn : ∀ d, (s.withdrawQueued sc).screen d = s.screen d := fun d => by
    rw [State.withdrawQueued_eq]
    split <;> rfl
  rw [State.stopped, State.screen_onScreen]
  simp only [State.setRole_screen, State.abortChangeover, State.screen_onChangeover, withdrawn, if_true]
  split <;> rfl

theorem State.stopped_queue {sc : Screen} (queued : (s.screen sc).changeover.state = .queued) (side : Side) :
    .changeover sc side ∉ (s.stopped sc).lc.burstQueue := by
  have queue : (s.stopped sc).lc.burstQueue = s.lc.burstQueue.filter fun b => !b.isOf sc := by
    rw [State.stopped, State.abortChangeover, State.withdrawQueued_eq, if_pos queued]
    rfl
  simp [queue, Burst.isOf]

theorem Changeover.abort_not_examined (x : Changeover) : x.abort.state.examined = false := by
  rw [Changeover.abort_eq]
  cases h : x.state <;> simp [ChangeoverState.examined]

/-- A projector as it stands safe after `s`, its lamp out where it was lit (R98). -/
structure State.SafeAt (s : State) (p : Projector) (t : State) : Prop where
  frames : (t.motion p).framesRemaining = 0
  watch : (t.motion p).watch = none
  motor : (t.station p).desired.motor = .stop
  douser : (t.station p).desired.douser = .closed
  blade : (t.station p).desired.blade = .closed
  cold : (t.lamp p).state = .cold
  out : (s.lamp p).state ≠ .cold → (t.station p).desired.arc = .off ∧ (t.lamp p).feedRate = 0

theorem State.safeAt_makeSafe {p : Projector} (idle : s.role p = .idle) : s.SafeAt p (s.makeSafe p) := by
  obtain ⟨frames, watch, motor, douser, blade, cold, out⟩ := s.makeSafe_reads idle
  exact ⟨frames, watch, motor, douser, blade, cold, out⟩

/-- What another projector's records do, and the lamp it starts from, are read off the states. -/
theorem State.SafeAt.congr {s s' t t' : State} {p : Projector} (safe : s.SafeAt p t) (lamp : s'.lamp p = s.lamp p)
    (motion : t'.motion p = t.motion p) (station : t'.station p = t.station p) (burnt : t'.lamp p = t.lamp p) :
    s'.SafeAt p t' := by
  obtain ⟨frames, watch, motor, douser, blade, cold, out⟩ := safe
  constructor
  all_goals simp only [lamp, motion, station, burnt]
  all_goals assumption

/-- From `u` to `w` the projectors of screen `sc` have been made safe (R98). -/
structure State.SafeOn (sc : Screen) (u w : State) : Prop where
  su : w.su = u.su
  queue : w.lc.burstQueue = u.lc.burstQueue
  hu : w.hu = u.hu
  fu : w.fu = u.fu
  own : ∀ p, screenOf p = sc → u.SafeAt p w
  others : ∀ p, screenOf p ≠ sc → w.motion p = u.motion p ∧ w.station p = u.station p ∧ w.lamp p = u.lamp p

theorem State.safeOn_makeSafe {u : State} {sc : Screen} (idle : ∀ p, screenOf p = sc → u.role p = .idle)
    (quiet : (u.screen sc).changeover.state.examined = false) :
    u.SafeOn sc ((u.makeSafe (projectorOf sc .a)).makeSafe (projectorOf sc .b)) := by
  have apart : projectorOf sc .b ≠ projectorOf sc .a := sides_differ sc
  have mine : ∀ side, screenOf (projectorOf sc side) = sc := screenOf_projectorOf sc
  have first : u.Quits (projectorOf sc .a) (u.makeSafe (projectorOf sc .a)) :=
    State.quits_makeSafe (by rw [mine]; exact quiet) (idle _ (mine .a))
  have idleB : (u.makeSafe (projectorOf sc .a)).role (projectorOf sc .b) = .idle := by
    rw [State.role, first.su]
    exact idle _ (mine .b)
  have second := State.quits_makeSafe (s := u.makeSafe (projectorOf sc .a)) (p := projectorOf sc .b)
    (by rw [mine, State.screen, first.su]; exact quiet) idleB
  refine ⟨second.su.trans first.su, second.queue.trans first.queue, second.hu.trans first.hu, second.fu.trans first.fu,
    fun p own => ?_, fun p other => ?_⟩
  · obtain rfl | rfl := projector_cases own
    · exact (u.safeAt_makeSafe (idle _ own)).congr rfl (second.motion _ apart.symm) (second.station _ apart.symm)
        (second.lamp _ apart.symm)
    · exact (State.safeAt_makeSafe _ idleB).congr (first.lamp _ apart).symm rfl rfl rfl
  · have far : ∀ side, p ≠ projectorOf sc side := fun side h => other (h ▸ mine side)
    exact ⟨(second.motion _ (far .b)).trans (first.motion _ (far .a)),
      (second.station _ (far .b)).trans (first.station _ (far .a)), (second.lamp _ (far .b)).trans (first.lamp _ (far .a))⟩

/-- Settles O52: the stopped screen examines nothing, so that each projector made safe keeps all but its own records. -/
theorem showStopMakesTheScreenSafe : Obligations.ShowStopMakesTheScreenSafe := by
  intro n sc s
  dsimp only
  refine ⟨fun rest => exec_showStop (if_pos ?_), fun live => ?_⟩
  · rcases rest with h | h <;> simp [h, ScreenState.performing]
  obtain ⟨⟨mu, -, lu, -, hu, fu, pu, -⟩, cues, stations⟩ := s.stopped_keeps sc
  have motion : ∀ p, (s.stopped sc).motion p = s.motion p := fun p => by rw [State.motion, mu (by simp)]; rfl
  have lamp : ∀ p, (s.stopped sc).lamp p = s.lamp p := fun p => by rw [State.lamp, lu (by simp)]; rfl
  have station : ∀ p, (s.stopped sc).station p = s.station p := fun p => by rw [State.station, stations]; rfl
  have quiet : ((s.stopped sc).screen sc).changeover.state.examined = false := by
    rw [s.stopped_screen, if_pos rfl]
    exact Changeover.abort_not_examined _
  have taken := s.showStopRule_taken live
  have made := State.safeOn_makeSafe (fun p mine => (s.stopped_role sc p).trans (if_pos mine)) quiet
  have act := (State.act_makeSafe (s.stopped sc) (projectorOf sc .a)).andThen fun u => u.act_makeSafe (projectorOf sc .b)
  generalize ((s.stopped sc).makeSafe (projectorOf sc .a)).makeSafe (projectorOf sc .b) = w at taken made act
  obtain ⟨su, queue, houses, fire, safe, others⟩ := made
  have roles : ∀ p, w.role p = (s.stopped sc).role p := fun p => by rw [State.role, su]; rfl
  have screens : ∀ d, w.screen d = (s.stopped sc).screen d := fun d => by rw [State.screen, su]; rfl
  refine ⟨_, exec_showStop taken, ?_, fun p mine => ?_, fun queued side => ?_, fun p other => ?_,
    fun d other => ?_, ?_, ?_, ?_, houses.trans (hu (by simp)), fire.trans (fu (by simp))⟩
  · refine (screens sc).trans ((s.stopped_screen sc sc).trans ?_)
    rw [if_pos rfl, Changeover.abort_eq]
  · obtain ⟨frames, watch, motor, douser, blade, cold, out⟩ := safe p mine
    rw [lamp] at out
    exact ⟨(roles p).trans ((s.stopped_role sc p).trans (if_pos mine)), frames, watch, motor, douser, blade, cold, out⟩
  · show Burst.changeover sc side ∉ w.lc.burstQueue
    rw [queue]
    exact s.stopped_queue queued side
  · obtain ⟨film, line, arc⟩ := others p other
    exact ⟨(roles p).trans ((s.stopped_role sc p).trans (if_neg other)), film.trans (motion p), line.trans (station p),
      arc.trans (lamp p)⟩
  · exact (screens d).trans ((s.stopped_screen sc d).trans (if_neg (Ne.symm other)))
  · exact (congrArg ShowUnit.cues su).trans cues
  · have raised : noticed (noticeShowEnded sc) w (w.raise (noticeShowEnded sc)) := noticed_raise w _
    exact (raised.before (act.routes.trans (congrArg PortUnit.routes (pu (by simp))))).answer n _ _ _
  · refine answers_answer ?_ ?_ ..
    · exact act.passed.trans (congrArg PortUnit.passed (pu (by simp)))
    · exact act.answers.trans (congrArg PortUnit.answers (pu (by simp)))

end Sys2Proof.Machine
end

section
/-! PROOF. A screen rewound or cleared (spec/05 R99, R100). -/

namespace Sys2Proof.Machine

/-! ### An ARMED projector given up (R99) -/

/-- From `s` to `t` the projector `p`, if it was ARMED, has been given up with its lamp out. -/
structure State.GivesUp (p : Projector) (s t : State) : Prop where
  su : t.su = { s.su with roles := t.su.roles }
  idle : t.role p = .idle
  role : ∀ q, q ≠ p → t.role q = s.role q
  mu : t.mu = s.mu
  lamp : ∀ q, q ≠ p → t.lamp q = s.lamp q
  cold : s.role p = .armed → (t.lamp p).state = .cold
  kept : s.role p ≠ .armed → t.lamp p = s.lamp p
  hu : t.hu = s.hu
  fu : t.fu = s.fu

section

variable {s : State} {p : Projector}

theorem State.extinguish_mu (s : State) (p : Projector) : (s.extinguish p).mu = s.mu := by
  by_cases cold : (s.lamp p).state = .cold
  · rw [State.extinguish_of_cold _ cold]
  · rw [State.extinguish_of_lit _ cold]
    simp [State.lampAttention]

theorem State.givesUp_giveUp (quiet : (s.screen (screenOf p)).changeover.state.examined = false)
    (unstarted : s.role p = .idle ∨ s.role p = .armed) : s.GivesUp p (s.giveUp p) := by
  by_cases armed : s.role p = .armed
  · rw [State.giveUp, if_pos armed]
    have quit : (s.setRole p .idle).Quits p _ := State.quits_extinguish (s := s.setRole p .idle) (p := p) quiet
    have role : ∀ q, ((s.setRole p .idle).extinguish p).role q = (s.setRole p .idle).role q := fun q => by
      rw [State.role, quit.su]; rfl
    refine ⟨by rw [quit.su]; rfl, by rw [role]; simp, fun q other => by rw [role]; simp [other.symm],
      State.extinguish_mu .., quit.lamp, fun _ => (State.extinguish_reads _ p).1, fun not => absurd armed not, quit.hu,
      quit.fu⟩
  · rw [State.giveUp, if_neg armed]
    exact ⟨rfl, unstarted.resolve_right armed, fun _ _ => rfl, rfl, fun _ _ => rfl, fun is => absurd is armed,
      fun _ => rfl, rfl, rfl⟩

end

/-! ### A screen's projectors put to rest (R99, R100) -/

/-- From `u` to `w` the projectors of screen `sc` have been put to rest. -/
structure State.RestsOn (sc : Screen) (u w : State) : Prop where
  su : w.su = { u.su with roles := w.su.roles }
  own : ∀ p, screenOf p = sc → w.role p = .idle ∧ (w.motion p).framesRemaining = 0 ∧ (w.motion p).watch = none
    ∧ (u.role p = .armed → (w.lamp p).state = .cold) ∧ (u.role p ≠ .armed → w.lamp p = u.lamp p)
  others : ∀ p, screenOf p ≠ sc → w.role p = u.role p ∧ w.motion p = u.motion p ∧ w.lamp p = u.lamp p
  hu : w.hu = u.hu
  fu : w.fu = u.fu

section

variable {u : State} {sc : Screen} (quiet : (u.screen sc).changeover.state.examined = false)
  (unstarted : ∀ p, screenOf p = sc → u.role p = .idle ∨ u.role p = .armed)
include quiet unstarted

theorem State.restsOn_restProjectors : u.RestsOn sc (u.restProjectors sc) := by
  have apart : projectorOf sc .b ≠ projectorOf sc .a := sides_differ sc
  have mineA : screenOf (projectorOf sc .a) = sc := screenOf_projectorOf sc .a
  have mineB : screenOf (projectorOf sc .b) = sc := screenOf_projectorOf sc .b
  have sides : ∀ p, screenOf p = sc → p = projectorOf sc .a ∨ p = projectorOf sc .b := fun p => projector_cases
  have rest : u.restProjectors sc = (((u.giveUp (projectorOf sc .a)).giveUp (projectorOf sc .b)).clearCounter
    (projectorOf sc .a)).clearCounter (projectorOf sc .b) := rfl
  rw [rest]
  generalize projectorOf sc .a = a at *
  generalize projectorOf sc .b = b at *
  have first : u.GivesUp a (u.giveUp a) := State.givesUp_giveUp (by rw [mineA]; exact quiet) (unstarted a mineA)
  have second : (u.giveUp a).GivesUp b ((u.giveUp a).giveUp b) := by
    refine State.givesUp_giveUp ?_ ?_
    · rw [mineB, State.screen, first.su]; exact quiet
    · rw [first.role b apart]; exact unstarted b mineB
  generalize (u.giveUp a).giveUp b = w at second ⊢
  generalize u.giveUp a = v at first second
  refine ⟨second.su.trans (by rw [first.su]; rfl), fun p own => ?_, fun p other => ?_, second.hu.trans first.hu,
    second.fu.trans first.fu⟩
  · obtain rfl | rfl := sides p own
    · exact ⟨(second.role p apart.symm).trans first.idle, by simp [State.clearCounter, apart],
        by simp [State.clearCounter, apart],
        fun armed => (congrArg Lamp.state (second.lamp p apart.symm)).trans (first.cold armed),
        fun idle => (second.lamp p apart.symm).trans (first.kept idle)⟩
    · have role : v.role p = u.role p := first.role p apart
      exact ⟨second.idle, by simp [State.clearCounter], by simp [State.clearCounter],
        fun armed => second.cold (role.trans armed),
        fun idle => (second.kept fun armed => idle (role.symm.trans armed)).trans (first.lamp p apart)⟩
  · have farA : p ≠ a := fun h => other (h ▸ mineA)
    have farB : p ≠ b := fun h => other (h ▸ mineB)
    have same : w.motion p = u.motion p := by rw [State.motion, second.mu, first.mu]; rfl
    exact ⟨(second.role p farB).trans (first.role p farA), by simp [State.clearCounter, farA.symm, farB.symm, same],
      (second.lamp p farB).trans (first.lamp p farA)⟩

end

/-! ### The ruling (R99, R100) -/

section

variable {s : State} {sc : Screen}

theorem State.screenPastArming_iff : s.screenPastArming sc = true ↔ ∃ p, screenOf p = sc
    ∧ (s.role p = .starting ∨ s.role p = .standby ∨ s.role p = .onScreen ∨ s.role p = .tail) := by
  have past : ∀ r : Role, r.isPastArming = true ↔ (r = .starting ∨ r = .standby ∨ r = .onScreen ∨ r = .tail) := by
    intro r; cases r <;> simp [Role.isPastArming]
  rw [State.screenPastArming, Bool.or_eq_true, past, past]
  constructor
  · rintro (h | h)
    · exact ⟨_, screenOf_projectorOf sc .a, h⟩
    · exact ⟨_, screenOf_projectorOf sc .b, h⟩
  · rintro ⟨p, own, h⟩
    obtain rfl | rfl := projector_cases own
    · exact .inl h
    · exact .inr h

theorem State.unstarted_of_not_past (unpast : ¬ ∃ p, screenOf p = sc
      ∧ (s.role p = .starting ∨ s.role p = .standby ∨ s.role p = .onScreen ∨ s.role p = .tail)) (p : Projector)
    (own : screenOf p = sc) : s.role p = .idle ∨ s.role p = .armed := by
  cases role : s.role p
  case idle => exact .inl rfl
  case armed => exact .inr rfl
  all_goals exact absurd ⟨p, own, by simp [role]⟩ unpast

/-- The screen's record as SHOW_REWIND leaves it (R99). -/
def ScreenRecord.rewound (r : ScreenRecord) : ScreenRecord :=
  { r.rest with next := r.list.head?, reels := updAll r.reels (ReelEntry.withState .listed) }

/-- The screen's record as SHOW_CLEAR leaves it, but for the list and the generation (R100). -/
def ScreenRecord.emptied (r : ScreenRecord) : ScreenRecord :=
  { r.rest with next := none, reels := Vector.replicate 12 .empty }

theorem showRewindRule_taken (unpast : s.screenPastArming sc ≠ true)
    (ended : (s.screen sc).state = .ended ∨ (s.screen sc).state = .stopped) : showRewindRule s sc =
      ⟨.ok, [], ((s.resetCues sc).onScreen sc ScreenRecord.rewound).restProjectors sc⟩ := by
  refine if_neg ?_
  rcases ended with h | h <;> simp [h, unpast]

theorem showClearRule_taken (unpast : s.screenPastArming sc ≠ true)
    (ended : (s.screen sc).state = .idle ∨ (s.screen sc).state = .ended ∨ (s.screen sc).state = .stopped) :
    showClearRule s sc (s.screen sc).generation =
      ⟨.ok, byte2 (((s.screen sc).generation + 1) % 65536),
        ((s.clearList sc).onScreen sc ScreenRecord.emptied).restProjectors sc⟩ := by
  rw [showClearRule, if_neg (not_not.mpr rfl)]
  refine if_neg ?_
  rcases ended with h | h | h <;> simp [h, unpast]

/-- A screen's record edited to `r` and its projectors put to rest, as both commands leave them. -/
theorem State.EditedTo.rested {r : ScreenRecord} {u : State} (edited : s.EditedTo sc r u)
    (quiet : r.changeover.state.examined = false)
    (unstarted : ∀ p, screenOf p = sc → s.role p = .idle ∨ s.role p = .armed) :
    (∀ p, screenOf p = sc → (u.restProjectors sc).role p = .idle ∧ ((u.restProjectors sc).motion p).framesRemaining = 0
        ∧ ((u.restProjectors sc).motion p).watch = none
        ∧ (s.role p = .armed → ((u.restProjectors sc).lamp p).state = .cold)
        ∧ (s.role p ≠ .armed → (u.restProjectors sc).lamp p = s.lamp p))
      ∧ (∀ p, screenOf p ≠ sc → (u.restProjectors sc).role p = s.role p ∧ (u.restProjectors sc).motion p = s.motion p
        ∧ (u.restProjectors sc).lamp p = s.lamp p)
      ∧ (u.restProjectors sc).screen sc = r ∧ (∀ d, d ≠ sc → (u.restProjectors sc).screen d = s.screen d)
      ∧ (u.restProjectors sc).su = { u.su with roles := (u.restProjectors sc).su.roles }
      ∧ (u.restProjectors sc).hu = s.hu ∧ (u.restProjectors sc).fu = s.fu
      ∧ (u.restProjectors sc).pu.answers = s.pu.answers ∧ (u.restProjectors sc).pu.passed = s.pu.passed := by
  obtain ⟨screen, ⟨others, roles, marks, trip, margin⟩, mu, lc, lu, -, hu, fu, pu, pins, pending⟩ := edited
  have role : ∀ p, u.role p = s.role p := fun p => by rw [State.role, roles]; rfl
  have motion : ∀ p, u.motion p = s.motion p := fun p => by rw [State.motion, mu (by simp)]; rfl
  have lamp : ∀ p, u.lamp p = s.lamp p := fun p => by rw [State.lamp, lu (by simp)]; rfl
  have rests := State.restsOn_restProjectors (u := u) (sc := sc) (by rw [screen]; exact quiet)
    fun p mine => by rw [role]; exact unstarted p mine
  have act := u.act_restProjectors sc
  generalize u.restProjectors sc = w at *
  obtain ⟨su, own, rest, hu', fu'⟩ := rests
  simp only [role, motion, lamp] at own rest
  have kept : ∀ d, w.screen d = u.screen d := fun d => by rw [State.screen, su]; rfl
  exact ⟨own, rest, (kept sc).trans screen, fun d other => (kept d).trans (others d other), su, hu'.trans (hu (by simp)),
    fu'.trans (fu (by simp)), act.answers.trans (congrArg PortUnit.answers (pu (by simp))),
    act.passed.trans (congrArg PortUnit.passed (pu (by simp)))⟩

end

/-- Settles O53: the screen's record rewritten, and its projectors put to rest. -/
theorem rewindAndClearRestTheScreen : Obligations.RewindAndClearRestTheScreen := by
  intro n sc s
  dsimp only
  refine ⟨fun unfit => exec_showRewind (if_pos ?_), fun unfit => (exec_showClear ..).trans ?_, fun unpast ended => ?_,
    fun unpast ended => ?_⟩
  · rw [Bool.or_eq_true, State.screenPastArming_iff]
    rcases unfit with past | ⟨running, going⟩
    · exact .inr past
    · exact .inl (by simp [running, going])
  · have refused : showClearRule s sc (s.screen sc).generation = refuse s .state := by
      rw [showClearRule, if_neg (not_not.mpr rfl)]
      refine if_pos ?_
      rw [Bool.or_eq_true, State.screenPastArming_iff]
      rcases unfit with past | h | h | h
      · exact .inr past
      all_goals exact .inl (by simp [h])
    rw [refused]
    rfl
  · have taken := showRewindRule_taken (mt State.screenPastArming_iff.mp unpast) ended
    obtain ⟨own, rest, screen, screens, su, hu, fu, answers, passed⟩ :=
      ((s.editedTo_resetCues sc).onScreen ScreenRecord.rewound).rested rfl (State.unstarted_of_not_past unpast)
    generalize ((s.resetCues sc).onScreen sc ScreenRecord.rewound).restProjectors sc = w at *
    refine ⟨_, exec_showRewind taken, ⟨?_, ?_, ?_, ?_, own, rest, screens, hu, fu⟩, ?_, ?_, ?_, fun y => ?_, fun q => ?_, ?_,
      answers_answer passed answers ..⟩
    · exact congrArg ScreenRecord.state screen
    · exact congrArg ScreenRecord.motorOwed screen
    · exact congrArg ScreenRecord.changeHeld screen
    · exact congrArg ScreenRecord.changeover screen
    · exact (congrArg ScreenRecord.list screen :)
    · exact congrArg ScreenRecord.next screen
    · exact (congrArg ScreenRecord.generation screen :)
    · show w.cue y = _
      rw [State.cue, su]
      exact s.cue_resetCues sc y
    · show w.reel sc q = _
      rw [State.reel, screen]
      exact updAll_get ..
    · exact (congrArg ShowUnit.free su :)
  · have taken := showClearRule_taken (mt State.screenPastArming_iff.mp unpast) ended
    have cleared : s.EditedTo sc _ (s.clearList sc) := (State.raiseGeneration_reads
      (((State.EditedTo.refl s sc).setFree (s.su.free ++ (s.screen sc).list)).onScreen fun r => { r with list := [] })).1
    obtain ⟨own, rest, screen, screens, su, hu, fu, answers, passed⟩ :=
      (cleared.onScreen ScreenRecord.emptied).rested rfl (State.unstarted_of_not_past unpast)
    generalize ((s.clearList sc).onScreen sc ScreenRecord.emptied).restProjectors sc = w at *
    have sent : exec (.showClear n (numberOf sc) (s.screen sc).generation) s =
        .next (w.answer n (.showClear n (numberOf sc) (s.screen sc).generation) .ok
          (byte2 (((s.screen sc).generation + 1) % 65536))) := (exec_showClear ..).trans (by rw [taken]; rfl)
    refine ⟨_, sent, ⟨?_, ?_, ?_, ?_, own, rest, screens, hu, fu⟩, ?_, ?_, ?_, ?_, ?_,
      fun q => ?_, answers_answer passed answers ..⟩
    · exact congrArg ScreenRecord.state screen
    · exact congrArg ScreenRecord.motorOwed screen
    · exact congrArg ScreenRecord.changeHeld screen
    · exact congrArg ScreenRecord.changeover screen
    · exact (congrArg ScreenRecord.list screen :)
    · exact congrArg ScreenRecord.next screen
    · exact (congrArg ScreenRecord.generation screen :)
    · exact (congrArg ShowUnit.free su :)
    · exact (congrArg ShowUnit.cues su :)
    · show w.reel sc q = _
      rw [State.reel, screen]
      exact Vector.getElem_replicate ..

end Sys2Proof.Machine
end

section
/-! PROOF. The MOTOR action, and a reel threaded (spec/05 R90 to R92). -/

namespace Sys2Proof.Machine

/-! ### Acts that leave the shows alone -/

/-- From `s` to `t` the show unit's record differs at most in the roles and in the changeover of screen `c`, which stays in
flight if it is. -/
structure State.KeepsShow (c : Screen) (s t : State) : Prop where
  su : t.su = { s.su with screens := t.su.screens, roles := t.su.roles }
  screen : ∀ d, t.screen d = { s.screen d with changeover := (t.screen d).changeover }
  screens : ∀ d, d ≠ c → t.screen d = s.screen d
  flight : ∀ d, (t.screen d).changeover.state.inFlight = (s.screen d).changeover.state.inFlight

namespace State.KeepsShow

variable {c : Screen} {s t u : State}

theorem trans (a : s.KeepsShow c t) (b : t.KeepsShow c u) : s.KeepsShow c u where
  su := by have h := b.su; rw [a.su] at h; exact h
  screen d := by have h := b.screen d; rw [a.screen] at h; exact h
  screens d other := (b.screens d other).trans (a.screens d other)
  flight d := (b.flight d).trans (a.flight d)

/-- An act that writes at most roles. -/
theorem of_roles (su : t.su = { s.su with roles := t.su.roles }) : s.KeepsShow c t := by
  have same : ∀ d, t.screen d = s.screen d := fun d => by rw [State.screen, su]; rfl
  exact ⟨by rw [su], fun d => by rw [same], fun d _ => same d, fun d => by rw [same]⟩

theorem of_su (su : t.su = s.su) : s.KeepsShow c t := of_roles (by rw [su])

end State.KeepsShow

section

variable (s : State) (p : Projector)

@[simp] theorem ChangeoverState.inFlight_queued : ChangeoverState.queued.inFlight = true := rfl
@[simp] theorem ChangeoverState.inFlight_waitingReady : ChangeoverState.waitingReady.inFlight = true := rfl

theorem State.inFlight_requestIfReady (c : Screen) (inc : Option Projector)
    (flies : (s.screen c).changeover.state.inFlight = true) :
    ((s.requestIfReady c inc).screen c).changeover.state.inFlight = true := by
  unfold State.requestIfReady State.requestBurst State.askBurst
  split
  · split
    · cases s.burstRuling c <;> simp [flies]
    · exact flies
  · exact flies

theorem State.inFlight_withdrawBurst (c : Screen) (flies : (s.screen c).changeover.state.inFlight = true) :
    ((s.withdrawBurst c).screen c).changeover.state.inFlight = true := by
  unfold State.withdrawBurst State.askWithdraw
  cases s.lc.burstQueue.any (Burst.isOf c) <;> simp [flies]

/-- An examined changeover is in flight before and after. -/
theorem State.inFlight_examine (c : Screen) :
    ((s.examine c).screen c).changeover.state.inFlight = (s.screen c).changeover.state.inFlight := by
  by_cases examined : (s.screen c).changeover.state.examined = true
  · have flies : (s.screen c).changeover.state.inFlight = true := by
      cases h : (s.screen c).changeover.state <;> simp_all [ChangeoverState.examined, ChangeoverState.inFlight]
    have found : ((s.onChangeover c fun x => { x with incoming := s.incomingOf c }).screen c).changeover.state.inFlight
        = true := by simpa using flies
    rw [flies]
    simp only [State.examine]
    split
    · exact State.inFlight_requestIfReady _ c _ found
    · split
      · exact found
      · exact State.inFlight_withdrawBurst _ c found
    all_goals exact flies
  · rw [s.examine_of_not_examined c (by simpa using examined)]

theorem State.shows_examine (c : Screen) : s.KeepsShow c (s.examine c) where
  su := (s.examines_examine c).su.trans (by rw [(s.examines_examine c).su])
  screen := s.examine_screen c
  screens d other := s.examine_screen_ne c other
  flight d := by
    by_cases own : d = c
    · subst own; exact s.inFlight_examine d
    · rw [s.examine_screen_ne c own]

theorem State.shows_setRole (c : Screen) (r : Role) : s.KeepsShow c (s.setRole p r) := .of_roles rfl

theorem State.shows_becomeStandby : s.KeepsShow (screenOf p) (s.becomeStandby p) :=
  ((s.shows_setRole p _ .standby).trans (.of_su (by simp))).trans (State.shows_examine _ _)

end

/-! ### The MOTOR action on an ARMED projector (R92) -/

/-- From `s` to `t` the MOTOR action has been done on projector `p`. -/
structure State.Motored (p : Projector) (s t : State) : Prop where
  role : t.role p =
    if (s.station p).desired.motor = .run ∧ (s.motion p).speed = .atSpeed then .standby else .starting
  roles : ∀ q, q ≠ p → t.role q = s.role q
  station : ¬ ((s.station p).desired.motor = .run ∧ (s.motion p).speed = .atSpeed) →
    t.station p = { s.station p with desired := { (s.station p).desired with motor := .run } }
  standby : (s.station p).desired.motor = .run → (s.motion p).speed = .atSpeed → (t.station p).desired =
    { (s.station p).desired with
      douser := if (s.lamp p).state = .burning then .opened else (s.station p).desired.douser }
  stations : ∀ q, q ≠ p → t.station q = s.station q
  motion : t.motion p = if (s.station p).desired.motor = .run then s.motion p else (s.motion p).openGate
  motions : ∀ q, q ≠ p → t.motion q = s.motion q
  shows : s.KeepsShow (screenOf p) t
  touched : onlyTouches [.mu, .lc, .su, .pu] s t

section

variable {s : State} {p : Projector}

theorem State.motorAction_of_trip (trip : s.lc.tripInForce = true) : s.motorAction p = (false, s) := by
  simp [State.motorAction, State.askMotor_eq, trip]

theorem State.motorAction_of_clear (clear : s.lc.tripInForce = false) : s.motorAction p =
    (true, (((s.writeMotor p .run).setRole p .starting).examine (screenOf p)).standbyIf p
      (((s.writeMotor p .run).motion p).speed = .atSpeed)) := by
  simp [State.motorAction, State.askMotor_eq, clear]

/-- The desired motor written and the role moved on, the motor not at speed yet. -/
theorem State.motored_starting (armed : s.role p = .armed)
    (slow : ¬ ((s.station p).desired.motor = .run ∧ (s.motion p).speed = .atSpeed)) :
    s.Motored p (((s.writeMotor p .run).setRole p .starting).examine (screenOf p)) := by
  rw [s.writeMotor_of_role (by simp [armed]) (by simp [armed])]
  constructor
  case role => rw [if_neg slow]; simp
  case roles => intro q other; simp [other.symm]
  case station => intro _; simp
  case standby => exact fun run fast => absurd ⟨run, fast⟩ slow
  case stations => intro q other; simp [other.symm]
  case motion => simp [Motion.gateAfter]
  case motions => intro q other; simp [other.symm]
  case shows => exact State.KeepsShow.trans (by exact .of_roles rfl) (State.shows_examine _ (screenOf p))
  case touched => simp [onlyTouches]

/-- The motor at speed already, the projector becomes STANDBY at once. -/
theorem State.motored_standby (clear : s.lc.tripInForce = false) (run : (s.station p).desired.motor = .run)
    (fast : (s.motion p).speed = .atSpeed) :
    s.Motored p (((s.setRole p .starting).examine (screenOf p)).becomeStandby p) := by
  have touched : onlyTouches [.mu, .lc, .su, .pu] s ((s.setRole p .starting).examine (screenOf p)) := by
    simp [onlyTouches]
  have standby := State.touches_becomeStandby ((s.setRole p .starting).examine (screenOf p)) p
  have mu : (((s.setRole p .starting).examine (screenOf p)).becomeStandby p).mu = s.mu :=
    (standby.1 (by simp)).trans (by simp)
  constructor
  case role => rw [State.role_becomeStandby, if_pos rfl, if_pos ⟨run, fast⟩]
  case roles => intro q other; simp [State.role_becomeStandby, other.symm]
  case station => exact fun slow => absurd ⟨run, fast⟩ slow
  case standby =>
    intro _ _
    rw [State.station_becomeStandby]
    by_cases burning : (s.lamp p).state = .burning
    · simp [burning, clear]
    · simp [burning]
  case stations => intro q other; simp [State.station_becomeStandby, other.symm]
  case motion => rw [if_pos run, State.motion, mu]; rfl
  case motions => intro q _; rw [State.motion, mu]; rfl
  case shows =>
    exact ((s.shows_setRole p _ .starting).trans (State.shows_examine _ _)).trans (State.shows_becomeStandby _ p)
  case touched => exact touched.trans (standby.mono (by simp))

theorem State.motored_motorAction (armed : s.role p = .armed) (clear : s.lc.tripInForce = false) :
    (s.motorAction p).1 = true ∧ s.Motored p (s.motorAction p).2 := by
  rw [State.motorAction_of_clear clear]
  refine ⟨rfl, ?_⟩
  have film := congrArg (fun t : State => (t.motion p).speed)
    (s.writeMotor_of_role (p := p) (by simp [armed]) (by simp [armed]) .run)
  by_cases fast : (s.station p).desired.motor = .run ∧ (s.motion p).speed = .atSpeed
  · obtain ⟨run, fast⟩ := fast
    have written : s.writeMotor p .run = s := if_pos run
    rw [written, State.standbyIf, if_pos (decide_eq_true fast)]
    exact State.motored_standby clear run fast
  · have slow : ((s.writeMotor p .run).motion p).speed ≠ .atSpeed := by
      rw [film]
      by_cases run : (s.station p).desired.motor = .run
      · simpa [run] using fun h => fast ⟨run, h⟩
      · simp [run, Motion.gateAfter, Motion.openGate]
    rw [State.standbyIf, if_neg (by simpa using slow)]
    exact State.motored_starting armed fast

end

/-! ### The arming tests (R90) -/

section

variable {s t : State} {n : Port} {sc : Screen} {r : ReelIx} {length : Nat} {side : Side} {st : Status} {data : List Byte}

theorem exec_reelThreaded (ruling : reelThreadedRule s sc r = ⟨st, data, t⟩) :
    exec (.reelThreaded n (numberOf sc) (numberOf r)) s =
      .next (t.answer n (.reelThreaded n (numberOf sc) (numberOf r)) st data) := by
  unfold exec; dsimp only
  exact console_free rfl (by simp [inRange, oneTo_numberOf]) (by rw [onNumber_numberOf, onNumber_numberOf, ruling])

theorem reelThreadedRule_refused {reason : Nat} (clear : s.su.tripInForce = false)
    (fault : s.armingFault sc r = some reason) : reelThreadedRule s sc r = ⟨.state, byte1 reason, s⟩ := by
  rw [reelThreadedRule, if_neg (by simp [clear]), fault]

theorem reelThreadedRule_taken (clear : s.su.tripInForce = false) (fit : s.armingFault sc r = none)
    (listed : s.reel sc r = .reel .listed length side) :
    reelThreadedRule s sc r = ⟨.ok, [], s.arm sc r length side⟩ := by
  rw [reelThreadedRule, if_neg (by simp [clear]), fit, listed]

theorem State.armingFault_of_unlisted (unfit : (∀ len sd, s.reel sc r ≠ .reel .listed len sd) ∨ s.nextReel sc ≠ some r) :
    s.armingFault sc r = some 1 := by
  rw [State.armingFault]
  split
  · rename_i len sd listed
    exact if_pos (unfit.resolve_left fun none => none len sd listed)
  · rfl

/-- The tests of a listed next reel, in their order. -/
theorem State.armingFault_of_next (listed : s.reel sc r = .reel .listed length side) (next : s.nextReel sc = some r) :
    s.armingFault sc r =
      if s.role (projectorOf sc side) ≠ .idle then some 2
      else if (s.shutter (portShutter (projectorOf sc side))).state ≠ .opened then some 3
      else if (s.station (projectorOf sc side)).presence ≠ .present then some 4
      else if (s.lamp (projectorOf sc side)).state = .fault ∨ (s.lamp (projectorOf sc side)).carbon = 0 then some 5
      else if (s.lamp (projectorOf sc side)).life < length + s.su.margin then some 6
      else none := by
  simp only [State.armingFault, listed, next, ne_eq, not_true_eq_false, if_false, Bool.or_eq_true, decide_eq_true_eq]

end

/-! ### A reel armed (R91) -/

/-- The reel LOADED, the projector ARMED and its counter loaded, before a motor owed is paid. -/
def State.armed (s : State) (sc : Screen) (r : ReelIx) (length : Nat) (side : Side) : State :=
  (((s.setReel sc r (.reel .loaded length side)).setRole (projectorOf sc side) .armed).loadCounter (projectorOf sc side)
    length).examine sc

section

variable (s : State) (sc : Screen) (r : ReelIx) (length : Nat) (side : Side)

theorem State.arm_eq : s.arm sc r length side = (s.armed sc r length side).payMotor sc (projectorOf sc side) := rfl

theorem State.armed_role (q : Projector) :
    (s.armed sc r length side).role q = if projectorOf sc side = q then .armed else s.role q := by
  simp [State.armed, State.loadCounter]

theorem State.armed_motion (q : Projector) : (s.armed sc r length side).motion q =
    if projectorOf sc side = q then { s.motion q with framesRemaining := length, loadedLength := length, watch := none }
    else s.motion q := by
  by_cases own : projectorOf sc side = q
  · subst own; simp [State.armed, State.loadCounter]
  · simp [State.armed, State.loadCounter, own]

theorem State.armed_reel (q : ReelIx) :
    (s.armed sc r length side).reel sc q = if r = q then .reel .loaded length side else s.reel sc q := by
  have entry := s.reel_setReel sc sc r q (.reel .loaded length side)
  rw [if_congr (and_iff_right rfl) rfl rfl] at entry
  rw [State.armed, State.examine_reel]
  exact entry

theorem State.armed_screen_ne {d : Screen} (other : d ≠ sc) : (s.armed sc r length side).screen d = s.screen d := by
  rw [State.armed, State.examine_screen_ne _ _ other]
  simp [State.loadCounter, State.setReel, other.symm]

theorem State.armed_keeps : onlyTouches [.mu, .lc, .su, .pu] s (s.armed sc r length side)
    ∧ (∀ q, (s.armed sc r length side).station q = s.station q)
    ∧ (s.armed sc r length side).lc.tripInForce = s.lc.tripInForce
    ∧ ((s.armed sc r length side).screen sc).generation = (s.screen sc).generation
    ∧ ((s.armed sc r length side).screen sc).motorOwed = (s.screen sc).motorOwed
    ∧ (s.armed sc r length side).pu.passed = s.pu.passed ∧ (s.armed sc r length side).pu.answers = s.pu.answers := by
  simp [onlyTouches, State.armed, State.loadCounter, State.setReel]

end

/-- The motor owed no more leaves the reels. -/
theorem State.reel_unowed (s : State) (sc : Screen) (q : ReelIx) :
    (s.onScreen sc fun x => { x with motorOwed := false }).reel sc q = s.reel sc q := by
  simp [State.reel]

theorem State.KeepsShow.reel {c : Screen} {s t : State} (h : s.KeepsShow c t) (d : Screen) (q : ReelIx) :
    t.reel d q = s.reel d q := by
  rw [State.reel, h.screen d]; rfl

/-- A motor owed paid with a trip in force at the line, or by the MOTOR action (R91, R92). -/
theorem State.payMotor_of_owed {s : State} {sc : Screen} {p : Projector} (owed : (s.screen sc).motorOwed = true) :
    s.payMotor sc p = (s.motorAction p).2.onScreen sc fun x => { x with motorOwed := false } := if_pos owed

/-- Settles O49: the six tests in their order; the records armed; and the motor owed paid on them. -/
theorem threadingArmsTheProjector : Obligations.ThreadingArmsTheProjector := by
  intro n sc r length side s
  dsimp only
  refine ⟨fun trip => exec_reelThreaded (if_pos trip), fun clear unfit => ?_, fun clear t1 t2 => ?_, fun clear t1 t2 t3 => ?_,
    fun clear t1 t2 t3 t4 => ?_, fun clear t1 t2 t3 t4 t5 => ?_, fun clear t1 t2 t3 t4 t5 t6 => ?_,
    fun clear t1 t2 t3 t4 t5 t6 owed => ?_, fun clear t1 t2 t3 t4 t5 t6 owed => ?_⟩
  · exact exec_reelThreaded (reelThreadedRule_refused clear (State.armingFault_of_unlisted unfit))
  · refine exec_reelThreaded (reelThreadedRule_refused clear ((State.armingFault_of_next t1.1 t1.2).trans ?_))
    rw [if_pos t2]
  · refine exec_reelThreaded (reelThreadedRule_refused clear ((State.armingFault_of_next t1.1 t1.2).trans ?_))
    rw [if_neg (not_not.mpr t2), if_pos t3]
  · refine exec_reelThreaded (reelThreadedRule_refused clear ((State.armingFault_of_next t1.1 t1.2).trans ?_))
    rw [if_neg (not_not.mpr t2), if_neg (not_not.mpr t3), if_pos t4]
  · refine exec_reelThreaded (reelThreadedRule_refused clear ((State.armingFault_of_next t1.1 t1.2).trans ?_))
    have unlit : (s.lamp (projectorOf sc side)).state = .fault ∨ (s.lamp (projectorOf sc side)).carbon = 0 := by
      by_contra burns
      rw [not_or] at burns
      exact t5 ⟨burns.1, Nat.pos_of_ne_zero burns.2⟩
    rw [if_neg (not_not.mpr t2), if_neg (not_not.mpr t3), if_neg (not_not.mpr t4), if_pos unlit]
  · refine exec_reelThreaded (reelThreadedRule_refused clear ((State.armingFault_of_next t1.1 t1.2).trans ?_))
    obtain ⟨sound, carbon⟩ := t5
    have short : (s.lamp (projectorOf sc side)).life < length + s.su.margin := not_le.mp t6
    rw [if_neg (not_not.mpr t2), if_neg (not_not.mpr t3), if_neg (not_not.mpr t4),
      if_neg (by simp [sound, carbon.ne']), if_pos short]
  all_goals
    obtain ⟨listed, next⟩ := t1
    obtain ⟨sound, carbon⟩ := t5
    have enough : ¬ (s.lamp (projectorOf sc side)).life < length + s.su.margin := not_lt.mpr t6
    have fit : s.armingFault sc r = none := by
      rw [State.armingFault_of_next listed next, if_neg (not_not.mpr t2), if_neg (not_not.mpr t3), if_neg (not_not.mpr t4),
        if_neg (by simp [sound, carbon.ne']), if_neg enough]
    have taken := reelThreadedRule_taken clear fit listed
    obtain ⟨touched, station, trip, generation, still, passed, answers⟩ := s.armed_keeps sc r length side
    have role := s.armed_role sc r length side
    have motion := s.armed_motion sc r length side
    have reel := s.armed_reel sc r length side
    have lamp : (s.armed sc r length side).lu = s.lu := touched.2.2.1 (by simp)
    have screens := fun d (other : d ≠ sc) => s.armed_screen_ne sc r length side other
    rw [State.arm_eq] at taken
    generalize s.armed sc r length side = u at *
    have mine := role (projectorOf sc side)
    have film := motion (projectorOf sc side)
    rw [if_pos rfl] at mine film
    rw [owed] at still
  · have unpaid : u.payMotor sc (projectorOf sc side) = u := if_neg (by simp [still])
    rw [unpaid] at taken
    refine ⟨_, exec_reelThreaded taken, (reel r).trans (if_pos rfl), fun q other => (reel q).trans (if_neg other.symm), mine,
      film, fun q other => (motion q).trans (if_neg other.symm), fun q other => (role q).trans (if_neg other.symm),
      generation, station, screens, answers_answer passed answers .., touched.answer (by simp) (by simp) ..⟩
  · rw [State.payMotor_of_owed still] at taken
    have unowed : ∀ v : State, ((v.onScreen sc fun x => { x with motorOwed := false }).screen sc).motorOwed = false :=
      fun v => by simp
    by_cases stopped : s.lc.tripInForce = true
    · rw [State.motorAction_of_trip (trip.trans stopped)] at taken
      have paid : onlyTouches [.mu, .lc, .su, .pu] s (u.onScreen sc fun x => { x with motorOwed := false }) :=
        touched.trans (by simp [onlyTouches])
      have gate : ((u.motion (projectorOf sc side)).gate = (s.motion (projectorOf sc side)).gate) := by rw [film]
      refine ⟨_, exec_reelThreaded taken, unowed u, (u.reel_unowed sc r).trans ((reel r).trans (if_pos rfl)),
        congrArg Motion.framesRemaining film, congrArg Motion.loadedLength film, congrArg Motion.watch film,
        answers_answer passed answers .., fun q other => (motion q).trans (if_neg other.symm),
        fun q other => ⟨(role q).trans (if_neg other.symm), station q⟩, fun _ => ⟨mine, station _, gate⟩, fun free => ?_,
        fun free => ?_, fun free => ?_, paid.answer (by simp) (by simp) ..⟩
      all_goals
        rw [stopped] at free
        exact nomatch free
    · have act := (State.Act.refl u).thenMotorAction (projectorOf sc side) (by simp [mine, Role.readying])
      have motored := (State.motored_motorAction mine (trip.trans (by simpa using stopped))).2
      generalize (u.motorAction (projectorOf sc side)).2 = v at taken act motored
      obtain ⟨moved, roles, running, standby, stations, wound, motions, shows, acted⟩ := motored
      have paid : onlyTouches [.mu, .lc, .su, .pu] s (v.onScreen sc fun x => { x with motorOwed := false }) :=
        (touched.trans acted).trans (by simp [onlyTouches])
      have lamps : (u.lamp (projectorOf sc side)).state = (s.lamp (projectorOf sc side)).state := by
        rw [State.lamp, lamp]; rfl
      have frames : (v.motion (projectorOf sc side)).framesRemaining = length
          ∧ (v.motion (projectorOf sc side)).loadedLength = length
          ∧ (v.motion (projectorOf sc side)).watch = none := by
        rw [wound, film]
        split <;> exact ⟨rfl, rfl, rfl⟩
      simp only [station, lamps, film] at moved running standby wound
      refine ⟨_, exec_reelThreaded taken, unowed v,
        (v.reel_unowed sc r).trans ((shows.reel sc r).trans ((reel r).trans (if_pos rfl))),
        frames.1, frames.2.1, frames.2.2, answers_answer (act.passed.trans passed) (act.answers.trans answers) ..,
        fun q other => (motions q other).trans ((motion q).trans (if_neg other.symm)),
        fun q other => ⟨(roles q other).trans ((role q).trans (if_neg other.symm)),
          (stations q other).trans (station q)⟩, fun trip => absurd trip stopped, fun _ stop => ?_, fun _ run slow => ?_,
        fun _ run fast => ?_, paid.answer (by simp) (by simp) ..⟩
      · have rest : ¬ ((s.station (projectorOf sc side)).desired.motor = .run
            ∧ (s.motion (projectorOf sc side)).speed = .atSpeed) := by simp [stop]
        rw [if_neg (by simp [stop])] at wound
        exact ⟨moved.trans (if_neg rest), running rest, congrArg Motion.gate wound, congrArg Motion.speed wound,
          congrArg Motion.slowStart wound⟩
      · have rest : ¬ ((s.station (projectorOf sc side)).desired.motor = .run
            ∧ (s.motion (projectorOf sc side)).speed = .atSpeed) := fun h => slow h.2
        refine ⟨moved.trans (if_neg rest), (running rest).trans ?_⟩
        rw [← run]
      · exact ⟨moved.trans (if_pos ⟨run, fast⟩), standby run fast⟩

end Sys2Proof.Machine
end

section
/-! PROOF. GO and the AFTER timer fire the next cue: END, HOUSE, a held CHANGE and a MOTOR owed (spec/05 R97, R102 to
R106). -/

namespace Sys2Proof.Machine

section

variable {s : State} {n : Port} {sc : Screen} {x : CueIx}

/-! ### GO refused (R97) -/

theorem exec_go_ruled {st : Status} {data : List Byte} {t : State} (ruling : goRule s sc = ⟨st, data, t⟩) :
    exec (.go n (numberOf sc)) s = .next (t.answer n (.go n (numberOf sc)) st data) := by
  unfold exec; dsimp only
  exact console_free rfl (oneTo_numberOf sc) (by rw [onNumber_numberOf, ruling])

/-! ### What a cue fired by GO leaves of the rest -/

/-- What the mark, the notice and the pointer of a fired cue leave, whatever its action was. -/
structure State.Moves (sc : Screen) (x : CueIx) (done : Bool) (s t : State) : Prop where
  next : (t.screen sc).next = nextIn x (s.screen sc).list
  noticed : noticed (noticeCueFired sc) s t
  state : (t.cue x).state = if done then .fired else .skipped
  cues : ∀ y, y ≠ x → t.cue y = s.cue y
  routes : t.pu.routes = s.pu.routes
  answers : ∀ (n : Port) (c : Instr) (data : List Byte),
    (t.answer n c .ok data).pu.answers = (s.answer n c .ok data).pu.answers

theorem State.moves_fired {done : Bool} {t : State} (acts : (s.dropCueWatch sc x).cueAction sc x = (done, t))
    (cues : t.su.cues = s.su.cues) : s.Moves sc x done (t.fired sc x done) := by
  have acted : s.Act t := by
    have h := (s.act_dropCueWatch sc x).trans (State.act_cueAction _ sc x)
    rw [acts] at h
    exact h
  refine ⟨?_, noticed_fired sc x done acted.routes, ?_, fun y other => ?_,
    ((acted.trans (t.act_fired sc x done)).routes), fun n c => (acted.trans (t.act_fired sc x done)).answers_answer n c .ok⟩
  · rw [State.fired_screen, if_pos rfl, ← acted.lists sc]
    rfl
  · rw [State.fired_cue, if_pos rfl]
  · rw [State.fired_cue, if_neg other.symm, State.cue, cues]
    rfl

theorem otherScreensKept.trans {t u : State} (a : otherScreensKept sc s t) (b : otherScreensKept sc t u) :
    otherScreensKept sc s u := by
  obtain ⟨others, roles, marks, trip, margin⟩ := a
  obtain ⟨others', roles', marks', trip', margin'⟩ := b
  exact ⟨fun c other => (others' c other).trans (others c other), roles'.trans roles, marks'.trans marks,
    trip'.trans trip, margin'.trans margin⟩

theorem otherScreensKept.fired {t : State} (h : otherScreensKept sc s t) (done : Bool) :
    otherScreensKept sc s (t.fired sc x done) := by
  obtain ⟨others, roles, marks, trip, margin⟩ := h
  refine ⟨fun c other => ?_, roles, marks, trip, margin⟩
  rw [State.fired_screen, if_neg other.symm]
  exact others c other

theorem State.touches_fired (s : State) (sc : Screen) (x : CueIx) (done : Bool) :
    onlyTouches [.su, .pu] s (s.fired sc x done) := by simp [onlyTouches]

theorem State.touches_dropCueWatch (s : State) (sc : Screen) (x : CueIx) : onlyTouches [.mu] s (s.dropCueWatch sc x) := by
  simp [onlyTouches]

/-! ### END (R106) -/

theorem State.endCue_reads (s : State) : ((s.endCue sc).screen sc) =
      { s.screen sc with state := .ended, afterTimer := none, motorOwed := false }
    ∧ otherScreensKept sc s (s.endCue sc) ∧ (s.endCue sc).su.cues = s.su.cues
    ∧ onlyTouches [.su, .pu] s (s.endCue sc) := by
  refine ⟨by simp [State.endCue], ⟨fun c other => ?_, rfl, rfl, rfl, rfl⟩, rfl, by simp [onlyTouches, State.endCue]⟩
  simp [State.endCue, other.symm]

/-- From `s` to `t` the cue `x` has ended the performance of screen `sc`. -/
structure State.Ends (sc : Screen) (x : CueIx) (s t : State) : Prop where
  moves : s.Moves sc x true t
  record : t.screen sc =
    ({ s.screen sc with state := .ended, afterTimer := none, motorOwed := false } : ScreenRecord).advance x
  ended : Machine.noticed (noticeShowEnded sc) s t
  others : otherScreensKept sc s t
  mu : t.mu = (s.dropCueWatch sc x).mu
  touched : onlyTouches [.mu, .su, .pu] s t

/-- An END taken: no cue is run after it, as the screen performs no more. -/
theorem State.ends_takeCue (end_ : (s.cue x).kind = .end_) : s.Ends sc x (s.takeCue sc x) := by
  have acts : (s.dropCueWatch sc x).cueAction sc x = (true, (s.dropCueWatch sc x).endCue sc) := by
    simp [State.cueAction, end_]
  obtain ⟨screen, others, cues, touched⟩ := State.endCue_reads (sc := sc) (s.dropCueWatch sc x)
  have dropped : otherScreensKept sc s (s.dropCueWatch sc x) := by simp [otherScreensKept]
  have record : (((s.dropCueWatch sc x).endCue sc).fired sc x true).screen sc = ScreenRecord.advance x
      { s.screen sc with state := .ended, afterTimer := none, motorOwed := false } := by
    rw [State.fired_screen, if_pos rfl, screen, State.dropCueWatch_screen]
  have taken : s.takeCue sc x = ((s.dropCueWatch sc x).endCue sc).fired sc x true := by
    rw [State.takeCue, if_neg (by simp [State.mustHold, end_]), s.fireCue_eq acts]
    exact State.runCues_of_resting _ _ (congrArg (fun r : ScreenRecord => r.state.performing) record)
  rw [taken]
  refine ⟨State.moves_fired acts (by simp [cues]), record,
    noticed_of_raise (by simp) (State.act_fired _ sc x true), (dropped.trans others).fired true, rfl, ?_⟩
  exact ((s.touches_dropCueWatch sc x).mono (by simp)).trans ((touched.mono (by simp)).trans
    ((State.touches_fired _ sc x true).mono (by simp)))

/-! ### HOUSE (R106, R132, R133) -/

theorem State.houseCue_of_off {level time : Nat} (off : (s.channel sc).override = .off) :
    s.houseCue sc level time = (true, s.fade sc level (min time 6000)) := by
  have asked : s.askFade sc level time = (.ok, s.fade sc level (min time 6000)) := if_neg (by simp [off])
  rw [State.houseCue, asked]

theorem State.houseCue_of_on {level time : Nat} (on : (s.channel sc).override = .on) :
    s.houseCue sc level time = (false, s) := by
  have asked : s.askFade sc level time = (.trip, s) := if_pos on
  rw [State.houseCue, asked]

/-- The distance of a fade by which side its target lies on. -/
theorem HouseChannel.distance_eq (c : HouseChannel) (level : Nat) : c.distance level =
    if c.fine ≤ level * 256 then level * 256 - c.fine else c.fine - level * 256 := by
  rw [HouseChannel.distance]
  split <;> omega

/-- The channel as a fade asked for leaves it. -/
theorem State.channel_fade (s : State) (ch : Channel) (level time : Nat) :
    (let d := (s.fade ch level time).channel ch
     let c := s.channel ch
     let halves := halfCycles time s.hu.mains.h
     d.target = level ∧ d.firing = c.firing ∧ d.lastDelay = c.lastDelay ∧ d.pulse = c.pulse
      ∧ (halves = 0 ∨ c.distance level = 0 → d.fine = level * 256 ∧ d.step = 0 ∧ d.direction = .none
          ∧ noticed (noticeHouseFadeDone ch) s (s.fade ch level time))
      ∧ (halves ≠ 0 → c.distance level ≠ 0 → d.fine = c.fine ∧ d.step = (c.distance level + halves - 1) / halves
          ∧ d.direction = if c.fine < level * 256 then .up else .down)) := by
  dsimp only
  cases now : (s.channel ch).atOnce level time s.hu.mains.h with
  | true =>
    have zero := ((s.channel ch).atOnce_iff ..).mp now
    rw [State.fade_of_atOnce now, State.raise_channel, State.channel_onChannel, if_pos rfl]
    exact ⟨rfl, rfl, rfl, rfl, fun _ => ⟨rfl, rfl, rfl, noticed_raise (s.onChannel ch _) _⟩,
      fun timed far => absurd zero (not_or.mpr ⟨timed, far⟩)⟩
  | false =>
    obtain ⟨timed, far⟩ := HouseChannel.atOnce_eq_false now
    rw [State.fade_of_running now, State.channel_onChannel, if_pos rfl]
    exact ⟨rfl, rfl, rfl, rfl, fun zero => absurd zero (not_or.mpr ⟨timed, far⟩), fun _ _ => ⟨rfl, rfl, rfl⟩⟩

section

variable {level time : Nat} (house : (s.cue x).kind = .house level time)
  (later : ∀ y, nextIn x (s.screen sc).list = some y → (s.cue y).trigger = .go)
include house later

/-- A HOUSE cue with the override ON is skipped. -/
theorem State.takeCue_house_on (on : (s.channel sc).override = .on) :
    s.takeCue sc x = (s.dropCueWatch sc x).fired sc x false ∧ s.Moves sc x false (s.takeCue sc x) := by
  have acts : (s.dropCueWatch sc x).cueAction sc x = (false, s.dropCueWatch sc x) := by
    simp only [State.cueAction, State.dropCueWatch_cue, house]
    exact State.houseCue_of_on (by simpa [State.channel] using on)
  have taken := State.takeCue_of_go (State.mustHold_of_kind (by simp [house])) acts (by simp) later
  exact ⟨taken, taken ▸ State.moves_fired acts (by simp)⟩

/-- A HOUSE cue with the override OFF starts its fade, as HOUSE_FADE would. -/
theorem State.takeCue_house_off (off : (s.channel sc).override = .off) :
    s.takeCue sc x = ((s.dropCueWatch sc x).fade sc level (min time 6000)).fired sc x true
      ∧ s.Moves sc x true (s.takeCue sc x) := by
  have acts : (s.dropCueWatch sc x).cueAction sc x = (true, (s.dropCueWatch sc x).fade sc level (min time 6000)) := by
    simp only [State.cueAction, State.dropCueWatch_cue, house]
    exact State.houseCue_of_off (by simpa [State.channel] using off)
  have cues : ((s.dropCueWatch sc x).fade sc level (min time 6000)).su.cues = s.su.cues := by
    rw [((s.dropCueWatch sc x).fade_keeps sc level (min time 6000)).2.2.2.2.2.2.2.1 (by simp), State.dropCueWatch_su]
  have taken := State.takeCue_of_go (State.mustHold_of_kind (by simp [house])) acts cues later
  exact ⟨taken, taken ▸ State.moves_fired acts cues⟩

end

/-! ### The incoming (R112) -/

/-- The incoming is read off the screen's reels and the roles. -/
theorem State.incomingOf_congr {t : State} (reel : ∀ r, t.reel sc r = s.reel sc r) (role : ∀ p, t.role p = s.role p) :
    t.incomingOf sc = s.incomingOf sc := by
  simp only [State.incomingOf, State.nextReel, reel, role]

/-! ### The AFTER timer (R88, R102) -/

theorem ScreenRecord.afterTimer_advance {r : ScreenRecord} {d : Nat} (timed : r.afterTimer ≠ none) :
    (({ r.afterReached d with motorOwed := true } : ScreenRecord).advance x).afterTimer = some ⟨0, 0⟩ := by
  obtain ⟨k, is⟩ := Option.ne_none_iff_exists'.mp timed
  simp [ScreenRecord.advance, ScreenRecord.afterReached, is, Timer.start]

theorem State.awaitedCue_of_next (performing : (s.screen sc).state.performing = true) (next : (s.screen sc).next = some x)
    (fresh : (s.screen sc).changeHeld = false) : s.awaitedCue sc = some x := by
  rw [State.awaitedCue, if_neg (by simp [fresh]), State.nextCue, if_pos performing, next]

theorem State.afterMet_of_next {d : Nat} (awaited : s.awaitedCue sc = some x) (after : (s.cue x).trigger = .after d) :
    s.afterMet sc = (s.onScreen sc (ScreenRecord.afterReached d)).takeCue sc x := by
  rw [State.afterMet, awaited]
  simp only [after]

/-- A MOTOR cue with no head armed, met by its AFTER timer, is skipped and the motor owed. -/
theorem State.afterMet_unarmed {d : Nat} (performing : (s.screen sc).state.performing = true)
    (next : (s.screen sc).next = some x) (fresh : (s.screen sc).changeHeld = false)
    (trigger : (s.cue x).trigger = .after d) (motor : (s.cue x).kind = .motor) (unarmed : s.armedNext sc = none)
    (later : ∀ y, nextIn x (s.screen sc).list = some y → (s.cue y).trigger = .go) :
    s.afterMet sc = ((s.onScreen sc (ScreenRecord.afterReached d)).onScreen sc fun r =>
        { r with motorOwed := true }).fired sc x false
      ∧ (s.onScreen sc (ScreenRecord.afterReached d)).Moves sc x false (s.afterMet sc) := by
  have clock : (s.onScreen sc (ScreenRecord.afterReached d)).dropCueWatch sc x
      = s.onScreen sc (ScreenRecord.afterReached d) :=
    State.dropCueWatch_of_clock _ (by simp [trigger, Trigger.ofFilm])
  have unarmed' : (s.onScreen sc (ScreenRecord.afterReached d)).armedNext sc = none := by
    rw [State.armedNext, State.incomingOf_congr (s := s) (t := s.onScreen sc _)
      (fun r => by simp [State.reel, ScreenRecord.afterReached]) fun p => rfl]
    exact unarmed
  have acts : ((s.onScreen sc (ScreenRecord.afterReached d)).dropCueWatch sc x).cueAction sc x =
      (false, (s.onScreen sc (ScreenRecord.afterReached d)).onScreen sc fun r => { r with motorOwed := true }) := by
    rw [clock]
    simp only [State.cueAction, State.onScreen_cue, motor, State.motorCue, unarmed']
  have taken := (State.afterMet_of_next (State.awaitedCue_of_next performing next fresh) trigger).trans
    (State.takeCue_of_go (State.mustHold_of_kind (by simp [motor])) acts rfl
      (by simpa [ScreenRecord.afterReached] using later))
  exact ⟨taken, taken ▸ State.moves_fired acts rfl⟩

end

/-- A HOUSE cue fired by GO, its fade told as the channel's record shows it. -/
theorem State.channel_fade_fired {s : State} {sc : Screen} {level time : Nat} {u : State} (x : CueIx)
    (channels : u.hu = s.hu) (routes : u.pu.routes = s.pu.routes) :
    (let c := s.channel sc
     let t := (u.fade sc level (min time 6000)).fired sc x true
     let d := t.channel sc
     let halves := (if 6000 < time then 6000 else time) * 100000 / s.hu.mains.h
     let distance := if c.fine ≤ level * 256 then level * 256 - c.fine else c.fine - level * 256
     d.target = level ∧ d.firing = c.firing ∧ d.lastDelay = c.lastDelay ∧ d.pulse = c.pulse
      ∧ (halves = 0 ∨ distance = 0 → d.fine = level * 256 ∧ d.step = 0 ∧ d.direction = .none
          ∧ noticed (noticeHouseFadeDone sc) s t)
      ∧ (halves ≠ 0 → distance ≠ 0 → d.fine = c.fine ∧ d.step = (distance + halves - 1) / halves
          ∧ d.direction = if c.fine < level * 256 then .up else .down)) := by
  have clamp : min time 6000 = if 6000 < time then 6000 else time := by rw [min_comm, min_def_lt]
  have count : (min time 6000) * 100000 / s.hu.mains.h = halfCycles (min time 6000) s.hu.mains.h := rfl
  obtain ⟨target, firing, delay, pulse, atOnce, runs⟩ := u.channel_fade sc level (min time 6000)
  simp only [State.channel, channels] at target firing delay pulse atOnce runs
  dsimp only
  rw [← HouseChannel.distance_eq, ← clamp, count]
  refine ⟨target, firing, delay, pulse, fun now => ?_, runs⟩
  obtain ⟨fine, step, direction, done⟩ := atOnce now
  exact ⟨fine, step, direction, (done.before routes).andAct (State.act_fired _ sc x true)⟩

/-- Settles O51: a refused GO changes nothing; a fired cue's action is followed by its mark, its notice and the pointer. -/
theorem nextCueFiresWhenMet : Obligations.NextCueFiresWhenMet := by
  intro n sc x s
  refine ⟨fun trip => exec_go_ruled (if_pos trip), fun clear unfit => exec_go_ruled ?_, fun next performing later => ?_⟩
  · rw [goRule, if_neg (by simp [clear])]
    rcases unfit with resting | none
    · rw [if_pos (by simp [resting])]; rfl
    · simp only [none]
      split <;> rfl
  dsimp only
  have watched : onlyTouches [.mu] s (s.dropCueWatch sc x) := s.touches_dropCueWatch sc x
  have dropped : otherScreensKept sc s (s.dropCueWatch sc x) := by simp [otherScreensKept]
  refine ⟨fun clear end_ => ?_, fun level time house clear => ?_, fun clear change held => ?_,
    fun d after motor fresh unarmed => ?_⟩
  · have sent := exec_go (n := n) clear performing next
    rw [if_neg (by simp [end_])] at sent
    obtain ⟨⟨pointer, fired, state, cues, -, answers⟩, record, ended, others, -, touched⟩ := State.ends_takeCue (sc := sc) end_
    exact ⟨_, sent, ⟨pointer, fired⟩, (congrArg ScreenRecord.state record :), (congrArg ScreenRecord.afterTimer record :),
      (congrArg ScreenRecord.motorOwed record :), state, ended, (congrArg ScreenRecord.changeover record :), answers ..,
      cues, others, touched.answer (List.Subset.refl _) (by simp) ..⟩
  · have sent := exec_go (n := n) clear performing next
    rw [if_neg (by simp [house])] at sent
    cases override : (s.channel sc).override with
    | off =>
      obtain ⟨taken, pointer, fired, state, cues, -, answers⟩ := State.takeCue_house_off house later override
      obtain ⟨mains, others, -, -, touched⟩ := (s.dropCueWatch sc x).fade_keeps sc level (min time 6000)
      have channel := State.channel_fade_fired (s := s) (u := s.dropCueWatch sc x) (level := level) (time := time)
        (sc := sc) x (by simp) (by simp)
      rw [taken] at sent pointer fired state cues answers
      have su : ((s.dropCueWatch sc x).fade sc level (min time 6000)).su = s.su :=
        (touched.2.2.2.1 (by simp)).trans (by simp)
      generalize (s.dropCueWatch sc x).fade sc level (min time 6000) = v at *
      have record : (v.fired sc x true).screen sc = (s.screen sc).advance x := by
        rw [State.fired_screen, if_pos rfl, State.screen, su]; rfl
      refine ⟨_, sent, ⟨pointer, fired⟩, (congrArg ScreenRecord.state record :), state,
        fun _ => ⟨channel, fun k other => (others k other).trans (by simp [State.channel]), mains.trans (by simp)⟩,
        fun on => absurd on (by decide), answers .., cues,
        otherScreensKept.fired (by simp [otherScreensKept, State.screen, su]) true, ?_⟩
      exact ((watched.mono (by simp)).trans ((touched.mono (by simp)).trans ((State.touches_fired _ sc x true).mono
        (by simp)))).answer (List.Subset.refl _) (by simp) ..
    | on =>
      obtain ⟨taken, pointer, fired, state, cues, -, answers⟩ := State.takeCue_house_on house later override
      rw [taken] at sent pointer fired state cues answers
      have record : ((s.dropCueWatch sc x).fired sc x false).screen sc = (s.screen sc).advance x := by simp
      refine ⟨_, sent, ⟨pointer, fired⟩, (congrArg ScreenRecord.state record :), state, fun off => absurd off (by decide),
        fun _ => watched.2.2.2.2.1 (by simp), answers .., cues, dropped.fired false, ?_⟩
      exact ((watched.mono (by simp)).trans ((State.touches_fired _ sc x false).mono (by simp))).answer
        (List.Subset.refl _) (by simp) ..
  · rw [exec_go clear performing next, if_pos ⟨change, held⟩]
  · have trigger : (s.cue x).trigger = .after d := by
      obtain ⟨e, is, same⟩ := after
      rw [is, same]
    obtain ⟨taken, pointer, fired, state, cues, -, -⟩ :=
      State.afterMet_unarmed performing next fresh trigger motor unarmed later
    rw [taken] at pointer fired state cues
    have record : (((s.onScreen sc (ScreenRecord.afterReached d)).onScreen sc fun r =>
        { r with motorOwed := true }).fired sc x false).screen sc =
        ({ (s.screen sc).afterReached d with motorOwed := true } : ScreenRecord).advance x := by simp
    have pointed : nextIn x ((s.onScreen sc (ScreenRecord.afterReached d)).screen sc).list = nextIn x (s.screen sc).list := by
      simp [ScreenRecord.afterReached]
    have owed : otherScreensKept sc s
        ((s.onScreen sc (ScreenRecord.afterReached d)).onScreen sc fun r => { r with motorOwed := true }) := by
      simp +contextual [otherScreensKept, eq_comm]
    refine ⟨_, congrArg Host.Outcome.next taken, ⟨pointer.trans pointed, fired.before rfl⟩,
      (congrArg ScreenRecord.state record :), (congrArg ScreenRecord.motorOwed record :), state, fun timed => ?_, cues,
      owed.fired false, by simp [onlyTouches]⟩
    exact (congrArg ScreenRecord.afterTimer record :).trans (ScreenRecord.afterTimer_advance timed)

end Sys2Proof.Machine
end

section
/-! PROOF. A CHANGE cue opens a changeover, or is held (spec/06 R111, R114, spec/05 R104). -/

namespace Sys2Proof.Machine

variable {s : State} {sc : Screen} {x : CueIx}

/-! ### What the watch of a cue does not change -/

section

variable (s : State) (sc d : Screen) (x : CueIx)

@[simp] theorem State.dropCueWatch_incomingOf : (s.dropCueWatch sc x).incomingOf d = s.incomingOf d :=
  State.incomingOf_congr (fun _ => by simp [State.reel]) fun _ => by simp

@[simp] theorem State.dropCueWatch_onScreenOf : (s.dropCueWatch sc x).onScreenOf d = s.onScreenOf d := by
  simp [State.onScreenOf]

@[simp] theorem State.dropCueWatch_ready (inc : Option Projector) : (s.dropCueWatch sc x).ready inc = s.ready inc := by
  rw [s.dropCueWatch_keeps]; rfl

@[simp] theorem State.dropCueWatch_burstRuling : (s.dropCueWatch sc x).burstRuling d = s.burstRuling d := by
  rw [s.dropCueWatch_keeps]; rfl

end

/-! ### A burst asked for the incoming (R36, R114) -/

theorem State.requestIfReady_of_refused (inc : Option Projector) (refused : s.burstRuling sc ≠ .ok) :
    s.requestIfReady sc inc = s := by
  unfold State.requestIfReady State.requestBurst State.askBurst
  cases inc with
  | none => rfl
  | some p => cases ruling : s.burstRuling sc <;> simp_all

theorem State.requestIfReady_of_ready {p : Projector} (ready : s.ready (some p) = true) (taken : s.burstRuling sc = .ok) :
    s.requestIfReady sc (some p) = (s.setQueue (s.lc.burstQueue ++ [.changeover sc (sideOf p)])).onChangeover sc
      fun c => { c with state := .queued } := by
  simp only [State.requestIfReady, ready, if_true, State.requestBurst, State.askBurst, taken]

/-! ### The changeover opened (R111, R114) -/

/-- The record of a changeover just opened by cue `x`. -/
def State.opened (s : State) (sc : Screen) (x : CueIx) : Changeover :=
  ⟨.waitingReady, s.onScreenOf sc, s.incomingOf sc, some x, false, false⟩

/-- With an incoming that is not ready, or whose burst is refused, the screen waits. -/
theorem State.openChangeover_of_unready (unready : s.ready (s.incomingOf sc) = false ∨ s.burstRuling sc ≠ .ok) :
    s.openChangeover sc x = ((s.onChangeover sc fun _ => s.opened sc x).raise (noticeChangeoverWaiting sc)).onScreen sc
      fun r => { r with state := if r.state = .running then .waiting else r.state } := by
  have kept : (s.onChangeover sc fun _ => s.opened sc x).requestIfReady sc (s.incomingOf sc) =
      s.onChangeover sc fun _ => s.opened sc x := by
    rcases unready with idle | refused
    · exact State.requestIfReady_of_unready idle
    · exact State.requestIfReady_of_refused _ refused
  have waits : ((s.onChangeover sc fun _ => s.opened sc x).screen sc).changeover.state ≠ .queued := by
    simp [State.opened]
  exact (congrArg (fun u : State => u.waitUnlessQueued sc) kept).trans (if_neg waits)

/-- A ready incoming whose burst is taken makes the record QUEUED. -/
theorem State.openChangeover_of_ready {p : Projector} (incoming : s.incomingOf sc = some p)
    (ready : s.ready (some p) = true) (taken : s.burstRuling sc = .ok) : s.openChangeover sc x =
      ((s.onChangeover sc fun _ => s.opened sc x).setQueue (s.lc.burstQueue ++ [.changeover sc (sideOf p)])).onChangeover sc
        fun c => { c with state := .queued } := by
  have requested : (s.onChangeover sc fun _ => s.opened sc x).requestIfReady sc (s.incomingOf sc) =
      ((s.onChangeover sc fun _ => s.opened sc x).setQueue (s.lc.burstQueue ++ [.changeover sc (sideOf p)])).onChangeover
        sc fun c => { c with state := .queued } := by
    rw [incoming]
    exact State.requestIfReady_of_ready (s := s.onChangeover sc fun _ => s.opened sc x) ready taken
  exact (congrArg (fun u : State => u.waitUnlessQueued sc) requested).trans (if_pos (by simp))

/-- From `s` to `t` the changeover of cue `x` has been opened: what every such act leaves. -/
structure State.Opens (sc : Screen) (x : CueIx) (s t : State) : Prop where
  roles : t.su.roles = s.su.roles
  cues : t.su.cues = s.su.cues
  screens : ∀ d, d ≠ sc → t.screen d = s.screen d
  record : (t.screen sc).changeover = { s.opened sc x with state := (t.screen sc).changeover.state }
  mu : t.mu = s.mu
  lu : t.lu = s.lu
  hu : t.hu = s.hu
  fu : t.fu = s.fu
  stations : t.lc.stations = s.lc.stations
  routes : t.pu.routes = s.pu.routes

theorem State.opens_openChangeover (s : State) (sc : Screen) (x : CueIx) : s.Opens sc x (s.openChangeover sc x) := by
  by_cases unready : s.ready (s.incomingOf sc) = false ∨ s.burstRuling sc ≠ .ok
  · rw [State.openChangeover_of_unready unready]
    constructor <;> simp +contextual [eq_comm]
  · rw [not_or, Bool.not_eq_false, not_not] at unready
    obtain ⟨ready, taken⟩ := unready
    cases incoming : s.incomingOf sc with
    | none =>
      rw [incoming] at ready
      exact nomatch ready
    | some p =>
      rw [State.openChangeover_of_ready incoming (incoming ▸ ready) taken]
      constructor <;> simp +contextual [eq_comm]

theorem State.openChangeover_waits (unready : s.ready (s.incomingOf sc) = false ∨ s.burstRuling sc ≠ .ok) :
    ((s.openChangeover sc x).screen sc).changeover.state = .waitingReady
      ∧ noticed (noticeChangeoverWaiting sc) s (s.openChangeover sc x) ∧ (s.openChangeover sc x).lc = s.lc
      ∧ ((s.openChangeover sc x).screen sc).state =
          (if (s.screen sc).state = .running then .waiting else (s.screen sc).state) := by
  rw [State.openChangeover_of_unready unready]
  refine ⟨by simp [State.opened], fun n routed => ?_, rfl, by simp⟩
  exact noticed_raise (s.onChangeover sc fun _ => s.opened sc x) _ n routed

theorem State.openChangeover_queues {p : Projector} (incoming : s.incomingOf sc = some p)
    (ready : s.ready (some p) = true) (taken : s.burstRuling sc = .ok) :
    ((s.openChangeover sc x).screen sc).changeover.state = .queued
      ∧ ((s.openChangeover sc x).screen sc).state = (s.screen sc).state
      ∧ (s.openChangeover sc x).lc.burstQueue = s.lc.burstQueue ++ [.changeover sc (sideOf p)] := by
  rw [State.openChangeover_of_ready incoming ready taken]
  simp

/-! ### A CHANGE held (R104) -/

theorem State.mustHold_iff : s.mustHold sc x = true ↔ (s.cue x).kind = .change
    ∧ ((s.screen sc).changeover.state = .waitingReady ∨ (s.screen sc).changeover.state = .queued
      ∨ (s.screen sc).changeover.state = .sent) := by
  rw [State.mustHold, Bool.and_eq_true, decide_eq_true_eq]
  cases (s.screen sc).changeover.state <;> simp [ChangeoverState.inFlight]

/-- Settles O55: held where a changeover is in flight, and opened otherwise, on the state with the cue's watch dropped. -/
theorem changeCueOpensAChangeover : Obligations.ChangeCueOpensAChangeover := by
  intro n sc x s next performing change clear fresh later
  by_cases flight : (s.screen sc).changeover.state = .waitingReady ∨ (s.screen sc).changeover.state = .queued
      ∨ (s.screen sc).changeover.state = .sent
  · have held : s.takeCue sc x = s.holdChange sc x := if_pos (State.mustHold_iff.mpr ⟨change, flight⟩)
    have sent : exec (.go n (numberOf sc)) s =
        .next ((s.holdChange sc x).answer n (.go n (numberOf sc)) .ok [BitVec.ofNat 8 x.val]) := by
      rw [exec_go clear performing next, if_neg (by simp [fresh]), held]
    refine ⟨_, sent, answers_answer (by simp [State.holdChange]) (by simp [State.holdChange]) .., ?_, ?_⟩
    · have record : ((s.holdChange sc x).screen sc) = { s.screen sc with changeHeld := true } := by
        simp [State.holdChange]
      refine ⟨fun _ => ⟨(congrArg ScreenRecord.changeHeld record :), (congrArg ScreenRecord.next record :).trans next, ?_,
        (congrArg ScreenRecord.changeover record :), ?_⟩, fun none => absurd flight none, fun none => absurd flight none,
        fun _ _ none => absurd flight none⟩
      · simp [State.holdChange]
      · simp [State.holdChange]
    · refine ⟨?_, fun d other => ?_, ?_, ?_, ?_, fun q => ?_⟩
      · simp [State.holdChange]
      · simp [State.holdChange, other.symm]
      · simp [State.holdChange]
      · simp [State.holdChange]
      · simp [State.holdChange]
      · simp [State.holdChange]
  · have acts : (s.dropCueWatch sc x).cueAction sc x = (true, (s.dropCueWatch sc x).openChangeover sc x) := by
      simp [State.cueAction, change]
    have free : s.mustHold sc x = false := by
      rw [← Bool.not_eq_true, State.mustHold_iff]
      exact fun h => flight h.2
    have opens := (s.dropCueWatch sc x).opens_openChangeover sc x
    have waits := State.openChangeover_waits (s := s.dropCueWatch sc x) (sc := sc) (x := x)
    have queues := @State.openChangeover_queues (s.dropCueWatch sc x) sc x
    have same : ((s.dropCueWatch sc x).openChangeover sc x).su.cues = s.su.cues := by simp [opens.cues]
    have moves := State.moves_fired acts same
    have sent := exec_go_fires (n := n) clear performing next (.inr fresh) free acts same later
    have watch : (s.dropCueWatch sc x).opened sc x = s.opened sc x := by simp [State.opened]
    simp only [State.dropCueWatch_ready, State.dropCueWatch_incomingOf, State.dropCueWatch_burstRuling,
      State.dropCueWatch_lc, State.dropCueWatch_screen] at waits queues
    generalize (s.dropCueWatch sc x).openChangeover sc x = v at *
    obtain ⟨roles, cues, screens, record, -, lu, hu, fu, stations, routes⟩ := opens
    obtain ⟨pointer, fired, state, -, -, answers⟩ := moves
    rw [watch] at record
    have reads : (v.fired sc x true).screen sc = (v.screen sc).advance x := by rw [State.fired_screen, if_pos rfl]
    have changeover : ((v.fired sc x true).screen sc).changeover = (v.screen sc).changeover :=
      (congrArg ScreenRecord.changeover reads :)
    refine ⟨_, sent, answers .., ⟨fun is => absurd is flight, fun _ => ⟨state, pointer, fired, ?_, ?_, ?_, ?_, ?_⟩,
      fun _ unready => ?_, fun p incoming _ ready taken => ?_⟩, roles.trans (by simp), fun d other => ?_, lu.trans (by simp),
      hu.trans (by simp), fu.trans (by simp), fun q => ?_⟩
    · exact (congrArg Changeover.outgoing (changeover.trans record) :)
    · exact (congrArg Changeover.incoming (changeover.trans record) :)
    · exact (congrArg Changeover.cue (changeover.trans record) :)
    · exact (congrArg Changeover.late (changeover.trans record) :)
    · exact (congrArg Changeover.unconfirmed (changeover.trans record) :)
    · obtain ⟨waiting, raised, line, picture⟩ := waits unready
      exact ⟨(congrArg Changeover.state changeover :).trans waiting,
        ((raised.before (by simp)).andAct (v.act_fired sc x true)).answer n _ _ _, line,
        (congrArg ScreenRecord.state reads :).trans picture⟩
    · obtain ⟨queued, picture, queue⟩ := queues incoming ready taken
      exact ⟨(congrArg Changeover.state changeover :).trans queued, (congrArg ScreenRecord.state reads :).trans picture,
        queue⟩
    · show (v.fired sc x true).screen d = s.screen d
      rw [State.fired_screen, if_neg other.symm, screens d other, State.dropCueWatch_screen]
    · show v.station q = s.station q
      rw [State.station, stations, State.dropCueWatch_lc]
      rfl

end Sys2Proof.Machine
end

section
/-! PROOF. STRIKE, MOTOR and DOUSER cues fired by GO (spec/05 R105). -/

namespace Sys2Proof.Machine

variable {n : Port} {s : State} {sc : Screen} {x : CueIx}

/-! ### A cue's action by its kind (R105) -/

/-- What a cue fired by GO leaves, its action being one that leaves the show alone. -/
structure State.WentOn (n : Port) (sc : Screen) (x : CueIx) (state : CueState) (s t : State) : Prop where
  next : (t.screen sc).next = nextIn x (s.screen sc).list
  cue : (t.cue x).state = state
  noticed : noticed (noticeCueFired sc) s t
  screen : (t.screen sc).state = (s.screen sc).state
  owed : (t.screen sc).motorOwed = (s.screen sc).motorOwed
  cues : ∀ y, y ≠ x → t.cue y = s.cue y
  screens : ∀ d, d ≠ sc → t.screen d = s.screen d
  answers : t.pu.answers = (s.answer n (.go n (numberOf sc)) .ok [BitVec.ofNat 8 x.val]).pu.answers
  touched : onlyTouches [.mu, .lc, .lu, .su, .pu] s t

/-- The parts of what a cue leaves, one after another. -/
theorem State.WentOn.parts {state : CueState} {t : State} (h : s.WentOn n sc x state t) :
    (t.screen sc).next = nextIn x (s.screen sc).list ∧ (t.cue x).state = state ∧ Machine.noticed (noticeCueFired sc) s t
      ∧ (t.screen sc).state = (s.screen sc).state ∧ (t.screen sc).motorOwed = (s.screen sc).motorOwed
      ∧ (∀ y, y ≠ x → t.cue y = s.cue y) ∧ (∀ d, d ≠ sc → t.screen d = s.screen d)
      ∧ t.pu.answers = (s.answer n (.go n (numberOf sc)) .ok [BitVec.ofNat 8 x.val]).pu.answers
      ∧ onlyTouches [.mu, .lc, .lu, .su, .pu] s t :=
  ⟨h.next, h.cue, h.noticed, h.screen, h.owed, h.cues, h.screens, h.answers, h.touched⟩

theorem State.shows_dropCueWatch (s : State) (sc : Screen) (x : CueIx) : s.KeepsShow sc (s.dropCueWatch sc x) :=
  .of_su (by simp)

section

variable (next : (s.screen sc).next = some x) (performing : (s.screen sc).state.performing = true)
  (clear : s.su.tripInForce = false) (later : ∀ y, nextIn x (s.screen sc).list = some y → (s.cue y).trigger = .go)
  (other : (s.cue x).kind ≠ .change)
include next performing clear later other

/-- The blocks that the action writes are those of the state it leaves. -/
theorem exec_go_acts {done : Bool} {v : State} (acts : (s.dropCueWatch sc x).cueAction sc x = (done, v))
    (shows : (s.dropCueWatch sc x).KeepsShow sc v)
    (touched : onlyTouches [.mu, .lc, .lu, .su, .pu] (s.dropCueWatch sc x) v) :
    ∃ t, exec (.go n (numberOf sc)) s = .next t ∧ s.WentOn n sc x (if done then .fired else .skipped) t
      ∧ t.mu = v.mu ∧ t.lc = v.lc ∧ t.lu = v.lu ∧ t.su.roles = v.su.roles := by
  have kept := (s.shows_dropCueWatch sc x).trans shows
  have cues : v.su.cues = s.su.cues := by rw [kept.su]
  obtain ⟨pointer, fired, state, others, -, answers⟩ := State.moves_fired acts cues
  have sent := exec_go_fires (n := n) clear performing next (.inl other) (State.mustHold_of_kind other) acts cues later
  have reads : (v.fired sc x done).screen sc = (v.screen sc).advance x := by rw [State.fired_screen, if_pos rfl]
  have screen := kept.screen sc
  refine ⟨_, sent, ⟨pointer, state, fired, ?_, ?_, others, fun d apart => ?_, answers .., ?_⟩, rfl, rfl, rfl, rfl⟩
  · exact (congrArg ScreenRecord.state reads :).trans (congrArg ScreenRecord.state screen :)
  · exact (congrArg ScreenRecord.motorOwed reads :).trans (congrArg ScreenRecord.motorOwed screen :)
  · show (v.fired sc x done).screen d = s.screen d
    rw [State.fired_screen, if_neg apart.symm]
    exact kept.screens d apart
  · exact ((((s.touches_dropCueWatch sc x).mono (by simp)).trans touched).trans
      ((State.touches_fired v sc x done).mono (by simp))).answer (List.Subset.refl _) (by simp) ..

/-- An action that is not done changes nothing but the watch of the cue. -/
theorem exec_go_skips (acts : (s.dropCueWatch sc x).cueAction sc x = (false, s.dropCueWatch sc x)) :
    ∃ t, exec (.go n (numberOf sc)) s = .next t ∧ s.WentOn n sc x .skipped t
      ∧ (∀ d, t.motion d = { s.motion d with watch := (t.motion d).watch }) ∧ t.lu = s.lu ∧ t.lc = s.lc
      ∧ t.su.roles = s.su.roles := by
  obtain ⟨t, sent, went, mu, lc, lu, roles⟩ := exec_go_acts (n := n) next performing clear later other acts (.of_su rfl)
    (onlyTouches_refl _ _)
  have film : ∀ d, t.motion d = (s.dropCueWatch sc x).motion d := fun d => by rw [State.motion, mu]; rfl
  refine ⟨t, sent, went, fun d => ?_, lu.trans (by simp), lc.trans (by simp), roles.trans (by simp)⟩
  rw [film]
  exact s.dropCueWatch_motion sc x d

end

/-! ### STRIKE (R46, R105) -/

section

variable {r : ReelIx} {st : ReelState} {length : Nat} {side : Side}

theorem State.strikeCue_of_reel (next : s.nextReel sc = some r) (reel : s.reel sc r = .reel st length side) :
    s.strikeCue sc = (decide ((s.strike (projectorOf sc side)).1 = .ok), (s.strike (projectorOf sc side)).2) := by
  simp only [State.strikeCue, next, reel]
  obtain ⟨status, t⟩ := s.strike (projectorOf sc side)
  cases status <;> rfl

theorem State.strikeCue_of_none (none : s.nextReel sc = none ∨ (s.nextReel sc = some r ∧ s.reel sc r = .empty)) :
    s.strikeCue sc = (false, s) := by
  rcases none with none | ⟨next, empty⟩
  · simp only [State.strikeCue, none]
  · simp only [State.strikeCue, next, empty]

theorem State.shows_lampMoved (s : State) (p : Projector) (arc : Switch) {l : Lamp} (c : LampCause)
    (dark : l.state ≠ .burning) : s.KeepsShow (screenOf p) (s.lampMoved p arc l c) := by
  unfold State.lampMoved
  rw [State.handLamp_of_not_burning _ _ dark]
  exact (State.KeepsShow.trans (by exact .of_su rfl) (State.shows_examine _ (screenOf p))).trans (.of_su rfl)

end

/-! ### MOTOR and DOUSER (R105) -/

theorem State.douserCue_of_some {target : DouserTarget} {p : Projector} {v : Opening}
    (named : s.douserOf sc target = (some p, v)) (clear : s.lc.tripInForce = false) :
    s.douserCue sc target = (true, s.onDesired p fun d => { d with douser := v }) := by
  simp [State.douserCue, named, State.askDouser_eq, clear]

theorem State.douserCue_of_none {target : DouserTarget} {v : Opening} (named : s.douserOf sc target = (none, v)) :
    s.douserCue sc target = (false, s) := by
  simp only [State.douserCue, named]

theorem State.onDesired_lc_of {u : State} (line : u.lc = s.lc) (p : Projector) (f : Desired → Desired) :
    (u.onDesired p f).lc = { s.lc with stations := (u.onDesired p f).lc.stations } := by
  rw [← line]; rfl

@[simp] theorem State.dropCueWatch_reel (s : State) (sc d : Screen) (x : CueIx) (r : ReelIx) :
    (s.dropCueWatch sc x).reel d r = s.reel d r := by simp [State.reel]

@[simp] theorem State.dropCueWatch_nextReel (s : State) (sc d : Screen) (x : CueIx) :
    (s.dropCueWatch sc x).nextReel d = s.nextReel d := by simp [State.nextReel]

@[simp] theorem State.dropCueWatch_douserOf (s : State) (sc d : Screen) (x : CueIx) (target : DouserTarget) :
    (s.dropCueWatch sc x).douserOf d target = s.douserOf d target := by
  cases target <;> simp [State.douserOf]

/-- The projector of a LOADED next reel that is ARMED. -/
theorem State.armedNext_of_loaded {r : ReelIx} {length : Nat} {side : Side} (next : s.nextReel sc = some r)
    (reel : s.reel sc r = .reel .loaded length side) (armed : s.role (projectorOf sc side) = .armed) :
    s.armedNext sc = some (projectorOf sc side) := by
  simp [State.armedNext, State.incomingOf, next, reel, armed, Role.isReadying]

section

variable (next : (s.screen sc).next = some x) (performing : (s.screen sc).state.performing = true)
  (clear : s.su.tripInForce = false) (lineClear : s.lc.tripInForce = false)
  (later : ∀ y, nextIn x (s.screen sc).list = some y → (s.cue y).trigger = .go)
include next performing clear lineClear later

/-- A DOUSER cue whose projector is there moves its douser. -/
theorem exec_go_douser {target : DouserTarget} {p : Projector} {v : Opening} (kind : (s.cue x).kind = .douser target)
    (named : s.douserOf sc target = (some p, v)) :
    ∃ t, exec (.go n (numberOf sc)) s = .next t ∧ s.WentOn n sc x .fired t
      ∧ (t.station p).desired = { (s.station p).desired with douser := v } ∧ otherStationsKept p s t
      ∧ t.su.roles = s.su.roles ∧ (∀ d, t.motion d = { s.motion d with watch := (t.motion d).watch }) ∧ t.lu = s.lu := by
  have acts : (s.dropCueWatch sc x).cueAction sc x =
      (true, (s.dropCueWatch sc x).onDesired p fun d => { d with douser := v }) := by
    simp only [State.cueAction, State.dropCueWatch_cue, kind]
    exact State.douserCue_of_some (by simpa using named) (by simpa using lineClear)
  obtain ⟨t, sent, went, mu, lc, lu, roles⟩ := exec_go_acts (n := n) next performing clear later (by simp [kind]) acts
    (.of_su rfl) (by simp [onlyTouches])
  have film : ∀ d, t.motion d = (s.dropCueWatch sc x).motion d := fun d => by rw [State.motion, mu]; rfl
  have station : ∀ d, t.station d = ((s.dropCueWatch sc x).onDesired p fun d => { d with douser := v }).station d :=
    fun d => by rw [State.station, lc]; rfl
  refine ⟨t, sent, went, ?_, ⟨fun d other => ?_, ?_⟩, roles.trans (by simp), fun d => ?_, lu.trans (by simp)⟩
  · rw [station]; simp
  · rw [station]; simp [other.symm]
  · rw [lc]
    exact State.onDesired_lc_of (s.dropCueWatch_lc sc x) p _
  · rw [film]
    exact s.dropCueWatch_motion sc x d

omit lineClear in
/-- A DOUSER cue whose projector is not there is skipped. -/
theorem exec_go_undoused {target : DouserTarget} {v : Opening} (kind : (s.cue x).kind = .douser target)
    (named : s.douserOf sc target = (none, v)) :
    ∃ t, exec (.go n (numberOf sc)) s = .next t ∧ s.WentOn n sc x .skipped t
      ∧ (∀ d, t.motion d = { s.motion d with watch := (t.motion d).watch }) ∧ t.lu = s.lu ∧ t.lc = s.lc
      ∧ t.su.roles = s.su.roles := by
  refine exec_go_skips next performing clear later (by simp [kind]) ?_
  simp only [State.cueAction, State.dropCueWatch_cue, kind]
  exact State.douserCue_of_none (by simpa using named)

end

/-! ### STRIKE and MOTOR by their projectors (R92, R105) -/

theorem State.cueAction_of_strike {b : Bool} {v : State} (kind : (s.cue x).kind = .strike)
    (struck : (s.dropCueWatch sc x).strikeCue sc = (b, v)) : (s.dropCueWatch sc x).cueAction sc x = (b, v) := by
  simpa only [State.cueAction, State.dropCueWatch_cue, kind] using struck

section

variable {r : ReelIx} {st : ReelState} {length : Nat} {side : Side} (next : (s.screen sc).next = some x)
  (performing : (s.screen sc).state.performing = true) (clear : s.su.tripInForce = false)
  (later : ∀ y, nextIn x (s.screen sc).list = some y → (s.cue y).trigger = .go)
include next performing clear later

theorem exec_go_strikes (lampClear : s.lu.tripInForce = false) (lineClear : s.lc.tripInForce = false)
    (kind : (s.cue x).kind = .strike) (reelNext : s.nextReel sc = some r) (reel : s.reel sc r = .reel st length side)
    (unlit : (s.lamp (projectorOf sc side)).state ≠ .striking) (dark : (s.lamp (projectorOf sc side)).state ≠ .burning)
    (carbon : (s.lamp (projectorOf sc side)).carbon ≠ 0) (present : (s.station (projectorOf sc side)).presence = .present) :
    ∃ t, exec (.go n (numberOf sc)) s = .next t ∧ s.WentOn n sc x .fired t
      ∧ (t.lamp (projectorOf sc side)).state = .striking ∧ (t.lamp (projectorOf sc side)).strikeTimer = some ⟨50, 0⟩
      ∧ (t.station (projectorOf sc side)).desired = { (s.station (projectorOf sc side)).desired with arc := .on }
      ∧ otherLampsKept (projectorOf sc side) s t ∧ t.su.roles = s.su.roles := by
  have struck := (State.strike_of_fit (s := s.dropCueWatch sc x) (p := projectorOf sc side) (by simpa using lampClear)
    (by simpa using unlit) (by simpa using dark) (by simpa using carbon) (by simpa using present)).trans
      (if_neg (by simp [lineClear]))
  have acts := State.cueAction_of_strike kind
    ((State.strikeCue_of_reel (by simpa using reelNext) (by simpa using reel)).trans (by rw [struck]))
  have moved := (s.dropCueWatch sc x).movesLamp_lampMoved (projectorOf sc side) .on
    (l := ((s.dropCueWatch sc x).lamp (projectorOf sc side)).strike) .strikeStarted (by simp [Lamp.strike])
  have shows := (s.dropCueWatch sc x).shows_lampMoved (projectorOf sc side) .on
    (l := ((s.dropCueWatch sc x).lamp (projectorOf sc side)).strike) .strikeStarted (by simp [Lamp.strike])
  rw [screenOf_projectorOf] at shows
  obtain ⟨t, sent, went, mu, lc, lu, roles⟩ := exec_go_acts (n := n) next performing clear later (by simp [kind]) acts shows
    (moved.touched.mono (by simp))
  have carried : (s.dropCueWatch sc x).MovesLamp (projectorOf sc side) .on
      { ((s.dropCueWatch sc x).lamp (projectorOf sc side)).strike with cause := .strikeStarted } _ := moved
  generalize (s.dropCueWatch sc x).lampMoved (projectorOf sc side) .on
    ((s.dropCueWatch sc x).lamp (projectorOf sc side)).strike .strikeStarted = v at carried mu lc lu roles
  have lamp : ∀ q, t.lamp q = v.lamp q := fun q => by rw [State.lamp, lu]; rfl
  have station : ∀ q, t.station q = v.station q := fun q => by rw [State.station, lc]; rfl
  obtain ⟨others, trip⟩ := carried.lamps
  refine ⟨t, sent, went, ?_, ?_, ?_, ⟨fun q other => ?_, ?_⟩, roles.trans (carried.roles.trans (by simp))⟩
  · rw [lamp, carried.lamp]; rfl
  · rw [lamp, carried.lamp]; rfl
  · rw [station, carried.station, State.dropCueWatch_station]
  · rw [lamp, others q other, State.dropCueWatch_lamp]
  · rw [lu, trip, State.dropCueWatch_lu]

theorem exec_go_motor (lineClear : s.lc.tripInForce = false) (kind : (s.cue x).kind = .motor)
    (reelNext : s.nextReel sc = some r) (reel : s.reel sc r = .reel .loaded length side)
    (armed : s.role (projectorOf sc side) = .armed) (stopped : (s.station (projectorOf sc side)).desired.motor = .stop) :
    ∃ t, exec (.go n (numberOf sc)) s = .next t ∧ s.WentOn n sc x .fired t ∧ t.role (projectorOf sc side) = .starting
      ∧ (t.station (projectorOf sc side)).desired = { (s.station (projectorOf sc side)).desired with motor := .run }
      ∧ (t.motion (projectorOf sc side)).gate = .opened ∧ (t.motion (projectorOf sc side)).speed = .runningUp
      ∧ (∀ o, o ≠ projectorOf sc side → t.role o = s.role o ∧ t.station o = s.station o) ∧ t.lu = s.lu := by
  have named : (s.dropCueWatch sc x).armedNext sc = some (projectorOf sc side) :=
    State.armedNext_of_loaded (by simpa using reelNext) (by simpa using reel) (by simpa using armed)
  have motored := State.motored_motorAction (s := s.dropCueWatch sc x) (p := projectorOf sc side) (by simpa using armed)
    (by simpa using lineClear)
  have acts : (s.dropCueWatch sc x).cueAction sc x =
      (true, ((s.dropCueWatch sc x).motorAction (projectorOf sc side)).2) := by
    rw [← motored.1]
    simp only [State.cueAction, State.dropCueWatch_cue, kind, State.motorCue, named]
  generalize ((s.dropCueWatch sc x).motorAction (projectorOf sc side)).2 = v at acts motored
  obtain ⟨-, role, roles, running, -, stations, motion, -, shows, touched⟩ := motored
  rw [screenOf_projectorOf] at shows
  obtain ⟨t, sent, went, mu, lc, lu, kept⟩ := exec_go_acts (n := n) next performing clear later (by simp [kind]) acts shows
    (touched.mono (by simp))
  have station : ∀ q, t.station q = v.station q := fun q => by rw [State.station, lc]; rfl
  have role' : ∀ q, t.role q = v.role q := fun q => by rw [State.role, kept]; rfl
  have film : t.motion (projectorOf sc side) = v.motion (projectorOf sc side) := by rw [State.motion, mu]; rfl
  simp only [State.dropCueWatch_station, stopped, reduceCtorEq, false_and, not_false_eq_true, forall_true_left, if_false]
    at role running motion
  refine ⟨t, sent, went, (role' _).trans role, ?_, ?_, ?_, fun q other => ⟨?_, ?_⟩, ?_⟩
  · rw [station, running]
  · rw [film, motion]; rfl
  · rw [film, motion]; rfl
  · rw [role', roles q other, State.dropCueWatch_role]
  · rw [station, stations q other, State.dropCueWatch_station]
  · rw [lu, touched.2.2.1 (by simp), State.dropCueWatch_lu]

end

/-- Settles O59: the cue's action on its projector, and the skip where there is none to act on. -/
theorem cuesActOnTheirProjectors : Obligations.CuesActOnTheirProjectors := by
  intro n sc x r q length st side s next performing clear lampClear lineClear later
  have skips : (s.cue x).kind ≠ .change → (s.dropCueWatch sc x).cueAction sc x = (false, s.dropCueWatch sc x) → _ :=
    exec_go_skips (n := n) next performing clear later
  dsimp only
  refine ⟨fun kind reelNext reel unlit dark carbon present => ?_, fun kind reelNext reel unfit => ?_, fun kind none => ?_,
    fun kind reelNext reel armed stopped => ?_, fun kind => ⟨fun shown => ?_, fun dark => ?_⟩,
    fun kind => ⟨fun shown => ?_, fun dark => ?_⟩, fun kind => ⟨fun incoming => ?_, fun none => ?_⟩,
    fun kind => ⟨fun incoming => ?_, fun none => ?_⟩⟩
  · obtain ⟨t, sent, went, rest⟩ := exec_go_strikes (n := n) next performing clear later lampClear lineClear kind reelNext reel
      unlit dark carbon present
    exact ⟨t, sent, went.parts, rest⟩
  · have refused : (s.dropCueWatch sc x).strike (projectorOf sc side) = (.state, s.dropCueWatch sc x) :=
      State.strike_of_unfit (by simpa using lampClear) (by simpa using unfit)
    obtain ⟨t, sent, went, rest⟩ := skips (by simp [kind]) (State.cueAction_of_strike kind
      ((State.strikeCue_of_reel (by simpa using reelNext) (by simpa using reel)).trans (by rw [refused]; rfl)))
    exact ⟨t, sent, went.parts, rest⟩
  · obtain ⟨t, sent, went, rest⟩ := skips (by simp [kind]) (State.cueAction_of_strike kind (State.strikeCue_of_none (by simpa using none)))
    exact ⟨t, sent, went.parts, rest⟩
  · obtain ⟨t, sent, went, rest⟩ := exec_go_motor (n := n) next performing clear later lineClear kind reelNext reel armed stopped
    exact ⟨t, sent, went.parts, rest⟩
  · obtain ⟨mine, shown, alone⟩ := shown
    obtain ⟨t, sent, went, rest⟩ := exec_go_douser (n := n) (v := .opened) next performing clear lineClear later kind
      (congrArg (·, Opening.opened) (State.onScreenOf_of_shown mine shown alone))
    exact ⟨t, sent, went.parts, rest⟩
  · obtain ⟨t, sent, went, rest⟩ := exec_go_undoused (n := n) (v := .opened) next performing clear later kind
      (congrArg (·, Opening.opened) (State.onScreenOf_of_dark dark))
    exact ⟨t, sent, went.parts, rest⟩
  · obtain ⟨mine, shown, alone⟩ := shown
    obtain ⟨t, sent, went, rest⟩ := exec_go_douser (n := n) (v := .closed) next performing clear lineClear later kind
      (congrArg (·, Opening.closed) (State.onScreenOf_of_shown mine shown alone))
    exact ⟨t, sent, went.parts, rest⟩
  · obtain ⟨t, sent, went, rest⟩ := exec_go_undoused (n := n) (v := .closed) next performing clear later kind
      (congrArg (·, Opening.closed) (State.onScreenOf_of_dark dark))
    exact ⟨t, sent, went.parts, rest⟩
  · obtain ⟨t, sent, went, rest⟩ := exec_go_douser (n := n) (v := .opened) next performing clear lineClear later kind
      (congrArg (·, Opening.opened) incoming)
    exact ⟨t, sent, went.parts, rest⟩
  · obtain ⟨t, sent, went, rest⟩ := exec_go_undoused (n := n) (v := .opened) next performing clear later kind
      (congrArg (·, Opening.opened) none)
    exact ⟨t, sent, went.parts, rest⟩
  · obtain ⟨t, sent, went, rest⟩ := exec_go_douser (n := n) (v := .closed) next performing clear lineClear later kind
      (congrArg (·, Opening.closed) incoming)
    exact ⟨t, sent, went.parts, rest⟩
  · obtain ⟨t, sent, went, rest⟩ := exec_go_undoused (n := n) (v := .closed) next performing clear later kind
      (congrArg (·, Opening.closed) none)
    exact ⟨t, sent, went.parts, rest⟩

end Sys2Proof.Machine
end

section
/-! PROOF. The film's own triggers: watches reached, run-outs and marks (spec/05 R102, R103, R94). -/

namespace Sys2Proof.Machine

/-! ### What comes before and after a cue's firing -/

/-- From `s` to `t` the cues and the screens are the same but for reels and changeover of screen `c`. -/
structure State.KeepsCues (c : Screen) (s t : State) : Prop where
  cues : t.su.cues = s.su.cues
  list : (t.screen c).list = (s.screen c).list
  state : (t.screen c).state = (s.screen c).state
  next : (t.screen c).next = (s.screen c).next
  held : (t.screen c).changeHeld = (s.screen c).changeHeld
  flight : (t.screen c).changeover.state.inFlight = (s.screen c).changeover.state.inFlight
  screens : ∀ d, d ≠ c → t.screen d = s.screen d

section

variable {s t u : State} {c : Screen} {x : CueIx}

theorem State.KeepsCues.of_fields (cues : t.su.cues = s.su.cues) (screens : t.su.screens = s.su.screens) :
    s.KeepsCues c t := by
  have same : ∀ d, t.screen d = s.screen d := fun d => by rw [State.screen, screens]; rfl
  exact ⟨cues, by rw [same], by rw [same], by rw [same], by rw [same], by rw [same], fun d _ => same d⟩

theorem State.KeepsShow.cues (h : s.KeepsShow c t) : s.KeepsCues c t where
  cues := by rw [h.su]
  list := by rw [h.screen]
  state := by rw [h.screen]
  next := by rw [h.screen]
  held := by rw [h.screen]
  flight := h.flight c
  screens := h.screens

theorem State.KeepsCues.trans (a : s.KeepsCues c t) (b : t.KeepsCues c u) : s.KeepsCues c u where
  cues := b.cues.trans a.cues
  list := b.list.trans a.list
  state := b.state.trans a.state
  next := b.next.trans a.next
  held := b.held.trans a.held
  flight := b.flight.trans a.flight
  screens d other := (b.screens d other).trans (a.screens d other)

theorem State.KeepsCues.cue (h : s.KeepsCues c t) (y : CueIx) : t.cue y = s.cue y := by
  rw [State.cue, h.cues]; rfl

theorem State.KeepsCues.nextCue (h : s.KeepsCues c t) : t.nextCue c = s.nextCue c := by
  rw [State.nextCue, h.state, h.next]; rfl

/-- From `s` to `t` the END `x` has been fired. -/
structure State.EndedBy (c : Screen) (x : CueIx) (s t : State) : Prop where
  state : (t.screen c).state = .ended
  cue : (t.cue x).state = .fired
  next : (t.screen c).next = nextIn x (s.screen c).list
  ended : noticed (noticeShowEnded c) s t
  cues : ∀ z, z ≠ x → t.cue z = s.cue z
  screens : ∀ d, d ≠ c → t.screen d = s.screen d

/-- The parts of it, one after another. -/
theorem State.EndedBy.parts (h : s.EndedBy c x t) : (t.screen c).state = .ended ∧ (t.cue x).state = .fired
    ∧ (t.screen c).next = nextIn x (s.screen c).list ∧ noticed (noticeShowEnded c) s t
    ∧ (∀ z, z ≠ x → t.cue z = s.cue z) ∧ ∀ d, d ≠ c → t.screen d = s.screen d :=
  ⟨h.state, h.cue, h.next, h.ended, h.cues, h.screens⟩

/-- An END taken after acts that keep the cues. -/
theorem State.KeepsCues.thenEnd (h : s.KeepsCues c u) (routes : u.pu.routes = s.pu.routes)
    (end_ : (s.cue x).kind = .end_) : s.EndedBy c x (u.takeCue c x) := by
  obtain ⟨⟨pointer, -, state, cues, -, -⟩, record, ended, ⟨others, -⟩, -, -⟩ :=
    State.ends_takeCue (sc := c) (s := u) (x := x) (by rw [h.cue]; exact end_)
  exact ⟨(congrArg ScreenRecord.state record :), state, by rw [pointer, h.list], ended.before routes,
    fun z apart => (cues z apart).trans (h.cue z), fun d other => (others d other).trans (h.screens d other)⟩

/-- Acts that keep the cues after an END has been fired. -/
theorem State.EndedBy.andKeeps (h : s.EndedBy c x t) (k : t.KeepsCues c u) (grows : t.Grows u) : s.EndedBy c x u where
  state := k.state.trans h.state
  cue := by rw [k.cue]; exact h.cue
  next := k.next.trans h.next
  ended := h.ended.andGrow grows
  cues z apart := (k.cue z).trans (h.cues z apart)
  screens d other := (k.screens d other).trans (h.screens d other)

end

/-! ### A watch reached (R102, R103) -/

section

variable {s : State} {p : Projector} {x : CueIx} (shown : s.role p = .onScreen)
  (performing : (s.screen (screenOf p)).state.performing = true) (next : (s.screen (screenOf p)).next = some x)
include shown performing next

theorem State.onWatchReached_of_frames {v : Nat} (frames : (s.cue x).trigger = .frames v) :
    s.onWatchReached p = s.takeCue (screenOf p) x := by
  simp only [State.onWatchReached, shown, State.nextCue, performing, next, frames, if_true, ne_eq, not_true_eq_false,
    if_false]

theorem State.onWatchReached_of_mark {lo hi : Nat} (mark : (s.cue x).trigger = .mark lo hi) :
    s.onWatchReached p = (s.raise (noticeMarkIrregular (screenOf p))).takeCue (screenOf p) x := by
  simp only [State.onWatchReached, shown, State.nextCue, performing, next, mark, if_true, ne_eq, not_true_eq_false,
    if_false]

/-- A mark event while the next cue waits for a mark (R103). -/
theorem State.onMark_of_mark {lo hi : Nat} (mark : (s.cue x).trigger = .mark lo hi) : s.onMark p =
    if hi < (s.motion p).framesRemaining then s.raise (noticeMarkIrregular (screenOf p))
    else if lo < (s.motion p).framesRemaining then s.takeCue (screenOf p) x
    else (s.raise (noticeMarkIrregular (screenOf p))).takeCue (screenOf p) x := by
  simp only [State.onMark, shown, State.nextCue, performing, next, mark, if_true, ne_eq, not_true_eq_false, if_false]

end

/-! ### The pulse whose counter reaches the watch (R9, R10) -/

section

variable {s : State} {p : Projector} {x : CueIx} {w : Nat}

/-- A watch dropped leaves a watch that is not set as it is. -/
theorem State.watch_dropCueWatch (s : State) (c : Screen) (x : CueIx) (q : Projector) (off : (s.motion q).watch = none) :
    ((s.dropCueWatch c x).motion q).watch = none := by
  unfold State.dropCueWatch
  split
  case h_3 => exact off
  all_goals
    rw [State.setFrameWatch, State.motion_onMotion]
    split
    · rfl
    · exact off

/-- The pulse that reaches the watch of a projector on screen, with film left. -/
theorem exec_sprocketPulse_reached (opened : (s.motion p).gate = .opened)
    (film : 2 ≤ (s.motion p).framesRemaining) (watch : (s.motion p).watch = some w)
    (reached : (s.motion p).framesRemaining - 1 ≤ w) (kept : ((s.pulsed p).onWatchReached p).role p = .onScreen) :
    exec (.sprocketPulse p) s = .next ((s.pulsed p).onWatchReached p) := by
  have some : ((s.motion p).framesRemaining ≠ 0 && (s.motion p).reachesWatch) = true := by
    simp [Motion.reachesWatch, watch, reached]
    omega
  have more : decide ((s.motion p).framesRemaining = 1) = false := by simp; omega
  rw [exec_sprocketPulse_of_opened opened, some, more]
  show Host.Outcome.next (((s.pulsed p).onWatchReached p).reportSpeed p _) = _
  cases (s.motion p).newSpeed with
  | none => rfl
  | some v => exact congrArg _ (State.onSpeed_of_role _ p v (by simp [kept]) (by simp [kept]))

end

/-! ### Samples and marks (R31, R103) -/

section

variable (s : State) (p : Projector)

theorem State.shows_handLamp (l : Lamp) : s.KeepsShow (screenOf p) (s.handLamp p l) :=
  State.KeepsShow.trans (t := (s.onLamp p fun _ => l).openDouserIf p
    ((s.onLamp p fun _ => l).role p = .standby && l.state = .burning)) (.of_su (by simp)) (State.shows_examine _ _)

theorem State.shows_sample (volts amps : Nat) : s.KeepsShow (screenOf p) (s.sample p volts amps) := by
  have attention : ∀ (u : State) (c : LampCause), u.KeepsShow (screenOf p) (u.lampAttention p c) := fun _ _ => .of_su rfl
  have written : ∀ (u : State) (f : Lamp → Lamp), u.KeepsShow (screenOf p) (u.onLamp p f) := fun _ _ => .of_su rfl
  have off : s.KeepsShow (screenOf p) (s.arcOff p) := .of_su rfl
  unfold State.sample
  split
  · unfold State.sampleStriking
    dsimp only
    split
    · exact written s _
    · split
      · exact written s _
      · exact (s.shows_handLamp p _).trans (attention _ _)
  · unfold State.sampleBurning
    dsimp only
    split
    · exact written s _
    · split
      · exact written s _
      · exact (off.trans (State.shows_handLamp (s.arcOff p) p _)).trans (attention _ _)
  all_goals exact .of_su rfl

theorem State.motion_sample (volts amps : Nat) (q : Projector) : (s.sample p volts amps).motion q = s.motion q := by
  rw [State.motion, (s.samplesLamp_sample p volts amps).touched.1 (by simp)]
  rfl

end

section

variable {s : State} {p : Projector} {x : Report}

/-- The state in which a fresh count is found to be a mark: its sample handed on and its count remembered. -/
def State.marked (s : State) (p : Projector) (x : Report) : State :=
  (s.sample p x.volts x.amps).setMark p (some x.marks)

theorem State.measured_of_mark {old : Nat} (mark : s.mark p = some old) (changed : old ≠ x.marks) :
    s.measured p true x = ((s.marked p x).onMark p).examine (screenOf p) := by
  have known : (s.sample p x.volts x.amps).mark p = some old := by
    rw [State.mark, (s.line_sample p x.volts x.amps).marks]
    exact mark
  have counted : (s.sample p x.volts x.amps).onMarkCount p x.marks = (s.marked p x).onMark p := by
    simp only [State.onMarkCount, known, changed, if_false]
    rfl
  exact congrArg (fun u : State => u.examine (screenOf p)) counted

theorem State.measured_of_first (first : s.mark p = none) :
    s.measured p true x = (s.marked p x).examine (screenOf p) := by
  have unknown : (s.sample p x.volts x.amps).mark p = none := by
    rw [State.mark, (s.line_sample p x.volts x.amps).marks]
    exact first
  exact congrArg (fun u : State => u.examine (screenOf p)) (State.onMarkCount_of_quiet (.inr (.inl unknown)))

theorem State.marked_reads (s : State) (p : Projector) (x : Report) : s.KeepsCues (screenOf p) (s.marked p x)
    ∧ (∀ q, (s.marked p x).motion q = s.motion q) ∧ (∀ q, (s.marked p x).role q = s.role q)
    ∧ (s.marked p x).pu.routes = s.pu.routes :=
  ⟨(s.shows_sample p x.volts x.amps).cues.trans (.of_fields rfl rfl), fun q => s.motion_sample p x.volts x.amps q,
    fun q => by rw [State.role]; exact congrArg (·[q]) (s.samplesLamp_sample p x.volts x.amps).roles,
    (s.act_sample p x.volts x.amps).routes⟩

/-- A fresh report of a PRESENT station without flame. -/
theorem exec_replyReceived_fresh {begun : Nat} {signal : List Nat}
    (heard : heardReply p begun signal (s.station p).expectedToggle (some x) s)
    (present : (s.station p).presence = .present) (clear : x.gateFlame = .clear) :
    exec (.replyReceived begun signal) s =
        .next (((s.answered p).reported p (s.station p).expectedToggle x).measured p true x)
      ∧ (((s.answered p).reported p (s.station p).expectedToggle x).measured p true x).mark p = some x.marks := by
  have fresh : (s.station p).expectedToggle = ((s.answered p).station p).expectedToggle := by
    rw [State.station_answered, if_pos rfl]
  have reads := ((s.answered p).heard_reads p (s.station p).expectedToggle x).2.2.2 p
  rw [if_pos ⟨rfl, fresh⟩, State.heard_of_fresh fresh clear] at reads
  exact ⟨(exec_replyReceived_present heard present).trans (by rw [State.heard_of_fresh fresh clear]), reads⟩

/-- What is left of a cue that waits on. -/
theorem State.KeepsCues.waits {t : State} {c : Screen} {z : CueIx} (h : s.KeepsCues c t)
    (next : (s.screen c).next = some z) (performing : (s.screen c).state.performing = true) :
    (t.screen c).next = some z ∧ t.su.cues = s.su.cues ∧ (t.screen c).state.performing = true :=
  ⟨h.next.trans next, h.cues, by rw [h.state]; exact performing⟩

/-- A held CHANGE taken again stays held. -/
theorem State.takeCue_of_held {c : Screen} {z : CueIx} (change : (s.cue z).kind = .change)
    (flight : (s.screen c).changeover.state.inFlight = true) (held : (s.screen c).changeHeld = true) :
    s.KeepsCues c (s.takeCue c z) := by
  have holds : s.takeCue c z = s.holdChange c z := if_pos (by simp [State.mustHold, change, flight])
  have record : (s.holdChange c z).screen c = s.screen c := by
    simp only [State.holdChange, State.screen_onScreen, State.dropCueWatch_screen, if_true]
    rw [← held]
  rw [holds]
  refine ⟨by simp [State.holdChange], by rw [record], by rw [record], by rw [record], by rw [record], by rw [record],
    fun d other => ?_⟩
  simp [State.holdChange, other.symm]

end

/-! ### The pulse and the run-out (R10, R94) -/

section

variable {s : State} {p : Projector}

theorem State.pulsed_reads (s : State) (p : Projector) (c : Screen) : s.KeepsCues c (s.pulsed p)
    ∧ (∀ q, (s.pulsed p).role q = s.role q) ∧ (s.pulsed p).pu.routes = s.pu.routes
    ∧ ((s.pulsed p).motion p).framesRemaining = (s.motion p).framesRemaining - 1 := by
  have su : (s.pulsed p).su = s.su := (s.touches_pulsed p).2.2.2.1 (by simp)
  refine ⟨.of_fields (by rw [su]) (by rw [su]), s.role_pulsed p, s.routes_pulsed p, ?_⟩
  rw [State.motion_pulsed, if_pos rfl]
  exact (s.motion p).pulsed_keeps.2.2.2.1

theorem State.watch_pulsed {w : Nat} (film : (s.motion p).framesRemaining ≠ 0) (watch : (s.motion p).watch = some w)
    (reached : (s.motion p).framesRemaining - 1 ≤ w) : ((s.pulsed p).motion p).watch = none := by
  rw [State.motion_pulsed, if_pos rfl]
  refine (s.motion p).pulsed_keeps.2.2.2.2.2.1.trans ?_
  simp [Motion.watchAfter, watch, film, reached]

theorem State.shows_extinguish (s : State) (p : Projector) : s.KeepsShow (screenOf p) (s.extinguish p) := by
  unfold State.extinguish
  split
  · exact .of_su rfl
  · exact s.shows_lampMoved p .off .off (s.lamp p).putOut_not_burning

theorem Changeover.state_runOut (p : Projector) (c : Changeover) : (c.runOut p).state = c.state := by
  unfold Changeover.runOut
  split <;> rfl

/-- The run-out of an ON_SCREEN projector once its performance has ended. -/
theorem State.keepsCues_onCounterZero (shown : s.role p = .onScreen)
    (ended : (s.screen (screenOf p)).state = .ended) : s.KeepsCues (screenOf p) (s.onCounterZero p) := by
  have record : (s.ranDark p).screen (screenOf p) =
      ({ s.screen (screenOf p) with reels := s.movedReels p .running .done } : ScreenRecord).runDark p := by
    simp [State.ranDark, State.reelDone_eq]
  have dark : s.KeepsCues (screenOf p) (s.ranDark p) := by
    refine ⟨?_, ?_, ?_, ?_, ?_, ?_, fun d other => ?_⟩
    · simp [State.ranDark, State.reelDone_eq]
    · rw [record]; rfl
    · rw [record]; simp [ScreenRecord.runDark, ended]
    · rw [record]; rfl
    · rw [record]; rfl
    · rw [record, ScreenRecord.runDark, Changeover.state_runOut]
    · simp [State.ranDark, State.reelDone_eq, other.symm]
  rw [State.onCounterZero_of_onScreen _ _ shown]
  have out := dark.trans ((s.ranDark p).shows_extinguish p).cues
  generalize (s.ranDark p).extinguish p = u at out ⊢
  have raised : u.KeepsCues (screenOf p) (u.raise (noticeScreenDark (screenOf p))) := .of_fields rfl rfl
  exact (out.trans raised).trans (State.shows_examine _ (screenOf p)).cues

/-- The run-out leaves the watch. -/
theorem State.watch_runOut (shown : s.role p = .onScreen) :
    ((s.onCounterZero p).motion p).watch = (s.motion p).watch := by
  have mu : ((s.ranDark p).extinguish p).motion p = (s.ranDark p).motion p := by rw [State.motion, State.extinguish_mu]; rfl
  rw [State.onCounterZero_of_onScreen _ _ shown, State.examine_motion, State.raise_motion, mu]
  simp only [State.ranDark, State.motion_onMotion, if_true, State.onDesired_motion, State.onScreen_motion,
    State.reelDone_eq, State.setRole_motion]
  split <;> rfl

end

/-! ### The triggers one by one (R102, R103) -/

section

variable {s : State} {p : Projector} {x : CueIx} {w : Nat} (shown : s.role p = .onScreen)
  (performing : (s.screen (screenOf p)).state.performing = true) (next : (s.screen (screenOf p)).next = some x)
include shown performing next

/-- What the watch that a pulse reaches makes of the cue. -/
theorem State.onWatchReached_pulsed {v : Nat} (frames : (s.cue x).trigger = .frames v) :
    (s.pulsed p).onWatchReached p = (s.pulsed p).takeCue (screenOf p) x := by
  obtain ⟨kept, role, -, -⟩ := s.pulsed_reads p (screenOf p)
  exact State.onWatchReached_of_frames ((role p).trans shown) (by rw [kept.state]; exact performing)
    (kept.next.trans next) ((kept.cue x).symm ▸ frames)

theorem State.onWatchReached_pulsed_mark {lo hi : Nat} (mark : (s.cue x).trigger = .mark lo hi) :
    (s.pulsed p).onWatchReached p =
      ((s.pulsed p).raise (noticeMarkIrregular (screenOf p))).takeCue (screenOf p) x := by
  obtain ⟨kept, role, -, -⟩ := s.pulsed_reads p (screenOf p)
  exact State.onWatchReached_of_mark ((role p).trans shown) (by rw [kept.state]; exact performing)
    (kept.next.trans next) ((kept.cue x).symm ▸ mark)

end

section

variable {s u : State} {p : Projector} {x : CueIx} (kept : s.KeepsCues (screenOf p) u) (role : u.role p = .onScreen)
  (routes : u.pu.routes = s.pu.routes) (end_ : (s.cue x).kind = .end_)
include kept role routes end_

/-- An END fired in the course of a pulse: the projector stays on screen, and its counter as it was. -/
theorem State.KeepsCues.thenEnd_reads : s.EndedBy (screenOf p) x (u.takeCue (screenOf p) x)
    ∧ (u.takeCue (screenOf p) x).role p = .onScreen
    ∧ ((u.takeCue (screenOf p) x).motion p).framesRemaining = (u.motion p).framesRemaining
    ∧ ((u.motion p).watch = none → ((u.takeCue (screenOf p) x).motion p).watch = none)
    ∧ (u.takeCue (screenOf p) x).pu.routes = u.pu.routes := by
  have ends := State.ends_takeCue (s := u) (sc := screenOf p) (x := x) (by rw [kept.cue]; exact end_)
  have film : (u.takeCue (screenOf p) x).motion p = (u.dropCueWatch (screenOf p) x).motion p := by
    rw [State.motion, ends.mu]; rfl
  refine ⟨kept.thenEnd routes end_, ?_, ?_, fun off => ?_, ends.moves.routes⟩
  · rw [State.role, ends.others.2.1]; exact role
  · rw [film, u.dropCueWatch_motion]
  · rw [film]; exact u.watch_dropCueWatch _ x p off

end

/-! ### The last pulse and the mark (R94, R103) -/

section

variable {s : State} {p : Projector}

/-- The pulse that ends the reel and reaches the watch too. -/
theorem exec_sprocketPulse_last {w : Nat} (opened : (s.motion p).gate = .opened) (last : (s.motion p).framesRemaining = 1)
    (watch : (s.motion p).watch = some w) :
    exec (.sprocketPulse p) s = .next (((s.pulsed p).onWatchReached p).onCounterZero p) := by
  have reached : ((s.motion p).framesRemaining ≠ 0 && (s.motion p).reachesWatch) = true := by
    simp [Motion.reachesWatch, watch, last]
  have idle : (((s.pulsed p).onWatchReached p).onCounterZero p).role p = .idle :=
    (((s.pulsed p).onWatchReached p).othersKept_onCounterZero p).1
  rw [exec_sprocketPulse_of_opened opened, reached, last]
  show Host.Outcome.next ((((s.pulsed p).onWatchReached p).onCounterZero p).reportSpeed p _) = _
  cases (s.motion p).newSpeed with
  | none => rfl
  | some v => exact congrArg _ (State.onSpeed_of_role _ p v (by simp [idle]) (by simp [idle]))

/-- The state in which the mark of a fresh report is found. -/
def State.atMark (s : State) (p : Projector) (x : Report) : State :=
  ((s.answered p).reported p (s.station p).expectedToggle x).marked p x

theorem State.atMark_reads (s : State) (p : Projector) (x : Report) : s.KeepsCues (screenOf p) (s.atMark p x)
    ∧ (∀ q, (s.atMark p x).motion q = s.motion q) ∧ (∀ q, (s.atMark p x).role q = s.role q)
    ∧ (s.atMark p x).pu.routes = s.pu.routes := by
  obtain ⟨kept, film, role, routes⟩ :=
    ((s.answered p).reported p (s.station p).expectedToggle x).marked_reads p x
  have start : s.KeepsCues (screenOf p) ((s.answered p).reported p (s.station p).expectedToggle x) := .of_fields rfl rfl
  exact ⟨start.trans kept, film, role, routes⟩

theorem exec_replyReceived_mark {begun old : Nat} {signal : List Nat} {x : Report}
    (heard : heardReply p begun signal (s.station p).expectedToggle (some x) s)
    (present : (s.station p).presence = .present) (clear : x.gateFlame = .clear) (mark : s.mark p = some old)
    (changed : old ≠ x.marks) : exec (.replyReceived begun signal) s =
        .next (((s.atMark p x).onMark p).examine (screenOf p))
      ∧ (((s.atMark p x).onMark p).examine (screenOf p)).mark p = some x.marks := by
  have sent := exec_replyReceived_fresh heard present clear
  rw [State.measured_of_mark (s := (s.answered p).reported p (s.station p).expectedToggle x) mark changed] at sent
  exact sent

end

/-- What a mark makes of a cue that waits for one. -/
theorem State.onMark_atMark {s : State} {p : Projector} {x : CueIx} {lo hi : Nat} (shown : s.role p = .onScreen)
    (performing : (s.screen (screenOf p)).state.performing = true) (next : (s.screen (screenOf p)).next = some x)
    (trigger : (s.cue x).trigger = .mark lo hi) (y : Report) : (s.atMark p y).onMark p =
      if hi < (s.motion p).framesRemaining then (s.atMark p y).raise (noticeMarkIrregular (screenOf p))
      else if lo < (s.motion p).framesRemaining then (s.atMark p y).takeCue (screenOf p) x
      else ((s.atMark p y).raise (noticeMarkIrregular (screenOf p))).takeCue (screenOf p) x := by
  obtain ⟨kept, film, role, -⟩ := s.atMark_reads p y
  rw [State.onMark_of_mark ((role p).trans shown) (by rw [kept.state]; exact performing) (kept.next.trans next)
    ((kept.cue x).symm ▸ trigger), film]

/-- A held CHANGE that finds its mark. -/
theorem State.KeepsCues.takeHeld {s u : State} {c : Screen} {x : CueIx} (h : s.KeepsCues c u)
    (change : (s.cue x).kind = .change) (flight : (s.screen c).changeover.state.inFlight = true)
    (held : (s.screen c).changeHeld = true) : s.KeepsCues c (u.takeCue c x) :=
  h.trans (State.takeCue_of_held (by rw [h.cue]; exact change) (h.flight.trans flight) (h.held.trans held))

/-- Settles O60: a watch reached, a run-out or a mark finds the next cue as the acts before it left it. -/
theorem filmTriggersFireTheCue : Obligations.FilmTriggersFireTheCue := by
  intro p x w v lo hi begun signal y s shown alone performing next
  obtain ⟨kept, role, routes, frames⟩ := s.pulsed_reads p (screenOf p)
  dsimp only
  refine ⟨fun ⟨opened, film, watch, reached⟩ => ⟨fun end_ trigger => ?_, fun end_ trigger => ?_, fun clock => ?_⟩,
    fun ⟨opened, last, watch, end_, trigger⟩ => ?_, fun ⟨heard, present, clear⟩ => ⟨fun old mark changed end_ trigger =>
      ⟨fun inside => ?_, fun stray => ?_, fun low below => ?_⟩, fun old mark changed change trigger held flight => ?_,
      fun none => ?_⟩⟩
  · have fires := State.onWatchReached_pulsed shown performing next trigger
    obtain ⟨ended, stays, counter, dropped, -⟩ := kept.thenEnd_reads ((role p).trans shown) routes end_
    have sent := exec_sprocketPulse_reached opened film watch reached (by rw [fires]; exact stays)
    rw [fires] at sent
    exact ⟨_, sent, ended.parts, dropped (State.watch_pulsed (by omega) watch reached), counter.trans frames⟩
  · have fires := State.onWatchReached_pulsed_mark shown performing next trigger
    have raised : s.KeepsCues (screenOf p) ((s.pulsed p).raise (noticeMarkIrregular (screenOf p))) :=
      kept.trans (.of_fields rfl rfl)
    obtain ⟨ended, stays, counter, dropped, -⟩ := raised.thenEnd_reads ((role p).trans shown) routes end_
    have sent := exec_sprocketPulse_reached opened film watch reached (by rw [fires]; exact stays)
    rw [fires] at sent
    exact ⟨_, sent, ended.parts, dropped (State.watch_pulsed (by omega) watch reached),
      noticed_of_raise routes (State.act_takeCue _ _ _)⟩
  · have idle := State.onWatchReached_of_unwatched (s := s.pulsed p) (p := p)
      (.inr fun z is => by
        rw [kept.next, next] at is
        rw [kept.cue, ← Option.some.inj is]
        exact clock)
    have sent := exec_sprocketPulse_reached opened film watch reached (by rw [idle]; exact (role p).trans shown)
    rw [idle] at sent
    exact ⟨_, sent, kept.waits next performing, State.watch_pulsed (by omega) watch reached⟩
  · have fires := State.onWatchReached_pulsed shown performing next trigger
    have sent := exec_sprocketPulse_last opened last watch
    obtain ⟨ended, stays, counter, dropped, sameRoutes⟩ := kept.thenEnd_reads ((role p).trans shown) routes end_
    rw [fires] at sent
    generalize (s.pulsed p).takeCue (screenOf p) x = u at *
    obtain ⟨motor, -, -, cold, -⟩ := State.runOut_onScreen stays
    obtain ⟨idle, film, -⟩ := u.othersKept_onCounterZero p
    refine ⟨_, sent, (ended.andKeeps (State.keepsCues_onCounterZero stays ended.state)
      (u.act_onCounterZero p).grows).parts, idle, ?_, ?_, ?_, cold, motor⟩
    · rw [film, counter, frames, last]
    · rw [State.watch_runOut stays]
      exact dropped (State.watch_pulsed (by omega) watch (by omega))
    · exact (State.noticed_runOut_onScreen u p stays).before (sameRoutes.trans routes)
  all_goals
    obtain ⟨kept, -, -, routes⟩ := s.atMark_reads p y
    have raised : s.KeepsCues (screenOf p) ((s.atMark p y).raise (noticeMarkIrregular (screenOf p))) :=
      kept.trans (.of_fields rfl rfl)
  · obtain ⟨sent, known⟩ := exec_replyReceived_mark heard present clear mark changed
    rw [State.onMark_atMark shown performing next trigger, if_neg (by omega), if_pos (by omega)] at sent known
    exact ⟨_, sent, ((kept.thenEnd routes end_).andKeeps (State.shows_examine _ _).cues (State.act_examine _ _).grows).parts,
      known⟩
  · obtain ⟨sent, known⟩ := exec_replyReceived_mark heard present clear mark changed
    rw [State.onMark_atMark shown performing next trigger, if_pos stray] at sent known
    exact ⟨_, sent, (raised.trans (State.shows_examine _ _).cues).waits next performing, known,
      noticed_of_raise routes (State.act_examine _ _)⟩
  · obtain ⟨sent, known⟩ := exec_replyReceived_mark heard present clear mark changed
    rw [State.onMark_atMark shown performing next trigger, if_neg (by omega), if_neg (by omega)] at sent known
    exact ⟨_, sent, ((raised.thenEnd routes end_).andKeeps (State.shows_examine _ _).cues (State.act_examine _ _).grows).parts,
      known, noticed_of_raise routes ((State.act_takeCue _ _ _).andThen fun u => u.act_examine _)⟩
  · obtain ⟨sent, known⟩ := exec_replyReceived_mark heard present clear mark changed
    rw [State.onMark_atMark shown performing next trigger] at sent known
    by_cases stray : hi < (s.motion p).framesRemaining
    · rw [if_pos stray] at sent known
      have same := raised.trans (State.shows_examine _ (screenOf p)).cues
      exact ⟨_, sent, same.waits next performing, same.held.trans held, known,
        fun _ => noticed_of_raise routes (State.act_examine _ _)⟩
    by_cases inside : lo < (s.motion p).framesRemaining
    · rw [if_neg stray, if_pos inside] at sent known
      have same := (kept.takeHeld change flight held).trans (State.shows_examine _ (screenOf p)).cues
      exact ⟨_, sent, same.waits next performing, same.held.trans held, known,
        fun outside => absurd ⟨inside, Nat.not_lt.mp stray⟩ outside⟩
    · rw [if_neg stray, if_neg inside] at sent known
      have same := (raised.takeHeld change flight held).trans (State.shows_examine _ (screenOf p)).cues
      exact ⟨_, sent, same.waits next performing, same.held.trans held, known,
        fun _ => noticed_of_raise routes ((State.act_takeCue _ _ _).andThen fun u => u.act_examine _)⟩
  · obtain ⟨sent, known⟩ := exec_replyReceived_fresh heard present clear
    have unmarked : s.KeepsCues (screenOf p)
        (((s.answered p).reported p (s.station p).expectedToggle y).measured p true y) := by
      rw [State.measured_of_first (s := (s.answered p).reported p (s.station p).expectedToggle y) none]
      exact kept.trans (State.shows_examine _ (screenOf p)).cues
    exact ⟨_, sent, unmarked.waits next performing, known⟩

end Sys2Proof.Machine
end

section
/-! PROOF. The confirmation watch: a poll of a watched station judged, and what its settling does to the changeover
(spec/02 R39, spec/06 R118, R119). -/

namespace Sys2Proof.Machine

/-! ### The stations of a settled watch (R118, step 2) -/

section

variable (s : State) (p : Projector) (ok : Bool)

theorem State.motion_confirm (q : Projector) : (s.confirm p ok).motion q =
    { s.motion q with cause := if p = q ∧ ok = false then .bladeUnconfirmed else (s.motion q).cause } := by
  unfold State.confirm State.notConfirmed
  cases ok
  · rw [if_neg Bool.false_ne_true, State.motion_projectorAttention]
    by_cases same : p = q
    · subst same; simp
    · simp [same]
  · simp

theorem State.screen_confirm (d : Screen) : (s.confirm p ok).screen d = if screenOf p = d then
    { s.screen d with changeover := { (s.screen d).changeover with
        unconfirmed := (s.screen d).changeover.unconfirmed || !ok } } else s.screen d := by
  unfold State.confirm State.notConfirmed
  cases ok
  · by_cases same : screenOf p = d
    · subst same; simp [State.projectorAttention]
    · simp [State.projectorAttention, same]
  · simp

theorem State.noticed_confirm (out : ok = false) : noticed (noticeProjectorAttention p) s (s.confirm p ok) := by
  subst out
  exact State.noticed_projectorAttention (t := s.onChangeover (screenOf p) fun c => { c with unconfirmed := true }) rfl
    (.refl _)

theorem State.confirm_keeps : onlyTouches [.mu, .su, .pu] s (s.confirm p ok)
    ∧ (s.confirm p ok).su.roles = s.su.roles ∧ (s.confirm p ok).su.cues = s.su.cues
    ∧ (s.confirm p ok).pu.routes = s.pu.routes := by
  unfold State.confirm State.notConfirmed
  cases ok <;> simp [onlyTouches, State.projectorAttention]

end

/-- From `s` to `t` the changeover of screen `c` is DONE, its stations `p` and `q` confirmed or not. -/
structure State.SettledBy (c : Screen) (p q : Projector) (mine other : Bool) (s t : State) : Prop where
  first : t.motion p = { s.motion p with cause := if mine = false then .bladeUnconfirmed else (s.motion p).cause }
  second : t.motion q = { s.motion q with cause := if other = false then .bladeUnconfirmed else (s.motion q).cause }
  motions : ∀ r, r ≠ p → r ≠ q → t.motion r = s.motion r
  record : t.screen c = { s.screen c with changeover := { (s.screen c).changeover with
    state := .done, unconfirmed := (s.screen c).changeover.unconfirmed || (!mine || !other) } }
  screens : ∀ d, d ≠ c → t.screen d = s.screen d
  done : noticed (noticeChangeoverDone c) s t
  noticedFirst : mine = false → noticed (noticeProjectorAttention p) s t
  noticedSecond : other = false → noticed (noticeProjectorAttention q) s t
  roles : t.su.roles = s.su.roles
  cues : t.su.cues = s.su.cues
  routes : t.pu.routes = s.pu.routes
  touched : onlyTouches [.mu, .su, .pu] s t

section

variable {s t : State} {c : Screen} {p q : Projector} {mine other : Bool}

theorem State.SettledBy.symm (h : s.SettledBy c p q mine other t) : s.SettledBy c q p other mine t where
  first := h.second
  second := h.first
  motions r a b := h.motions r b a
  record := by rw [h.record, Bool.or_comm (!mine)]
  screens := h.screens
  done := h.done
  noticedFirst := h.noticedSecond
  noticedSecond := h.noticedFirst
  roles := h.roles
  cues := h.cues
  routes := h.routes
  touched := h.touched

/-- The record DONE, and one station judged after the other. -/
theorem State.settledBy_confirm (s : State) (mine other : Bool) (first : screenOf p = c) (second : screenOf q = c)
    (apart : q ≠ p) : s.SettledBy c p q mine other ((((s.onChangeover c fun c => { c with state := .done }).confirm p
      mine).confirm q other).raise (noticeChangeoverDone c)) := by
  let u : State := s.onChangeover c fun c => { c with state := .done }
  have start : onlyTouches [.mu, .su, .pu] s u := by simp [onlyTouches, u]
  have raised : ∀ v : State, onlyTouches [.mu, .su, .pu] v (v.raise (noticeChangeoverDone c)) := fun v => by
    simp [onlyTouches]
  obtain ⟨touched, roles, cues, routes⟩ := u.confirm_keeps p mine
  obtain ⟨touched', roles', cues', routes'⟩ := (u.confirm p mine).confirm_keeps q other
  constructor
  case first => simp [State.motion_confirm, apart]
  case second => simp [State.motion_confirm, apart.symm]
  case motions => intro r a b; simp [State.motion_confirm, a.symm, b.symm]
  case record => simp [State.screen_confirm, first, second, Bool.or_assoc]
  case screens => intro d away; simp [State.screen_confirm, first, second, away.symm]
  case done => exact noticed_of_raise (routes'.trans routes) (.refl _)
  case noticedFirst =>
    intro out
    have raised : noticed (noticeProjectorAttention p) s (u.confirm p mine) := u.noticed_confirm p mine out
    exact raised.andAct ((State.act_confirm _ q other).andThen fun v => v.act_raise _)
  case noticedSecond =>
    intro out
    have raised : noticed (noticeProjectorAttention q) s ((u.confirm p mine).confirm q other) :=
      (State.noticed_confirm _ q other out).before routes
    exact raised.andAct (State.act_raise _ _)
  case roles => exact roles'.trans roles
  case cues => exact cues'.trans cues
  case routes => exact routes'.trans routes
  case touched => exact ((start.trans touched).trans touched').trans (raised _)

/-- The record DONE and the screen's stations judged, in the order of their sides. -/
def State.settled (s : State) (c : Screen) (a b : Bool) : State :=
  (((s.onChangeover c fun c => { c with state := .done }).confirm (projectorOf c .a) a).confirm (projectorOf c .b)
    b).raise (noticeChangeoverDone c)

theorem State.onOutcome_of_sent (sent : (s.screen c).changeover.state = .sent) (a b : Bool) :
    s.onOutcome c a b = (s.settled c a b).fireHeld c := if_pos sent

theorem State.onOutcome_of_unsent (unsent : (s.screen c).changeover.state ≠ .sent) (a b : Bool) :
    s.onOutcome c a b = s.examine c := if_neg unsent

/-- The outcomes of projector `p` and of its partner, by the sides. -/
def State.settledOf (s : State) (p : Projector) (mine other : Bool) : State :=
  match sideOf p with
  | .a => s.settled (screenOf p) mine other
  | .b => s.settled (screenOf p) other mine

theorem State.settledBy_settledOf (s : State) (p : Projector) (mine other : Bool) :
    s.SettledBy (screenOf p) p (partner p) mine other (s.settledOf p mine other) := by
  unfold State.settledOf
  have sides : ∀ p : Projector, (sideOf p = .a ∧ projectorOf (screenOf p) .a = p ∧ projectorOf (screenOf p) .b = partner p)
      ∨ (sideOf p = .b ∧ projectorOf (screenOf p) .b = p ∧ projectorOf (screenOf p) .a = partner p) := by decide
  obtain ⟨side, here, there⟩ | ⟨side, here, there⟩ := sides p
  · rw [side]
    dsimp only
    rw [State.settled, here, there]
    exact s.settledBy_confirm mine other rfl (screenOf_partner p) (partner_ne p)
  · rw [side]
    dsimp only
    rw [State.settled, here, there]
    exact (s.settledBy_confirm other mine (screenOf_partner p) rfl (partner_ne p).symm).symm

end

/-! ### A poll judged by its watch (R39) -/

/-- A watch with the station of one side named first. -/
def Watch.bySide (side : Side) (mine other : WatchStation) : Watch :=
  match side with
  | .a => .opened mine other
  | .b => .opened other mine

/-- What the outcomes of `p` and of its partner make of the changeover. -/
def State.outcomeBy (s : State) (p : Projector) (mine other : Bool) : State :=
  match sideOf p with
  | .a => s.onOutcome (screenOf p) mine other
  | .b => s.onOutcome (screenOf p) other mine

/-- The status in which a poll leaves a station that waits. -/
def WatchStation.judged (m : WatchStation) (left : Nat) (blade : Option Opening) : WatchStatus :=
  if blade = some m.commanded then .confirmed else if left ≤ 1 then .unconfirmed else .waiting (left - 1)

theorem State.outcomeBy_of_sent {s : State} {p : Projector} (sent : (s.screen (screenOf p)).changeover.state = .sent)
    (mine other : Bool) : s.outcomeBy p mine other = (s.settledOf p mine other).fireHeld (screenOf p) := by
  unfold State.outcomeBy State.settledOf
  cases sideOf p <;> exact State.onOutcome_of_sent sent ..

theorem State.outcomeBy_of_unsent {s : State} {p : Projector} (unsent : (s.screen (screenOf p)).changeover.state ≠ .sent)
    (mine other : Bool) : s.outcomeBy p mine other = s.examine (screenOf p) := by
  unfold State.outcomeBy
  cases sideOf p <;> exact State.onOutcome_of_unsent unsent ..

theorem WatchStation.judge_of_waiting {m : WatchStation} {left : Nat} (waiting : m.status = .waiting left)
    (blade : Option Opening) : m.judge blade = { m with status := m.judged left blade } := by
  unfold WatchStation.judge WatchStation.judged
  rw [waiting]
  dsimp only
  split
  · rfl
  · split <;> rfl

theorem WatchStation.settled_iff (m : WatchStation) :
    m.settled = true ↔ m.status = .confirmed ∨ m.status = .unconfirmed := by
  unfold WatchStation.settled
  cases m.status <;> simp

section

variable {s : State} {p : Projector} {mine other : WatchStation} {blade : Option Opening}
  (watch : s.watch (screenOf p) = Watch.bySide (sideOf p) mine other)
include watch

theorem State.judgePoll_of_settled (settled : (mine.judge blade).settled = true) (done : other.settled = true) :
    s.judgePoll p blade = (s.setWatch (screenOf p) .closed).outcomeBy p
      ((mine.judge blade).status = .confirmed) (other.status = .confirmed) := by
  unfold State.judgePoll State.outcomeBy
  cases side : sideOf p <;> simp [watch, side, Watch.bySide, Watch.judge, settled, done]

theorem State.judgePoll_of_open (waits : ¬ ((mine.judge blade).settled = true ∧ other.settled = true)) :
    s.judgePoll p blade = s.setWatch (screenOf p) (Watch.bySide (sideOf p) (mine.judge blade) other) := by
  unfold State.judgePoll
  cases side : sideOf p
  · simp only [watch, side, Watch.bySide, Watch.judge]
    exact if_neg (by simpa using waits)
  · simp only [watch, side, Watch.bySide, Watch.judge]
    exact if_neg (by simpa [and_comm] using waits)

end

/-- A window that ends, by what it brought. -/
def PollResult.blade : PollResult → Option Opening
  | .good blade => blade
  | .awaiting | .bad => none

/-- The presence as the end of a window leaves it: a miss moves it. -/
def State.windowClosed (s : State) (p : Projector) (result : PollResult) : State :=
  match result with
  | .good _ => s.pollSent.setWindow .closed
  | .awaiting | .bad => (s.pollSent.setWindow .closed).miss p

theorem exec_replyWindowEnd {s : State} {p : Projector} {result : PollResult}
    (window : s.lc.pollSent.window = .opened p result) :
    exec .replyWindowEnd s = .next ((s.windowClosed p result).judgePoll p result.blade) := by
  have ended : s.endWindow = (s.windowClosed p result).judgePoll p result.blade := by
    rw [State.endWindow, State.judgeWindow, State.pollSent_lc, window]
    cases result <;> rfl
  exact congrArg Host.Outcome.next ended

/-! ### What a miss leaves (R27) -/

/-- From `s` to `t` a miss of station `p` has been noted on a screen with no incoming to be examined. -/
structure State.Misses (p : Projector) (s t : State) : Prop where
  window : t.lc.window = s.lc.window
  watches : t.lc.watches = s.lc.watches
  queue : t.lc.burstQueue = s.lc.burstQueue
  stations : ∀ q, q ≠ p → t.station q = s.station q
  roles : ∀ q, q ≠ p → t.role q = s.role q
  motions : ∀ q, q ≠ p → t.motion q = s.motion q
  changeover : (t.screen (screenOf p)).changeover = (s.screen (screenOf p)).changeover
  held : (t.screen (screenOf p)).changeHeld = (s.screen (screenOf p)).changeHeld
  screens : ∀ d, d ≠ screenOf p → t.screen d = s.screen d
  routes : t.pu.routes = s.pu.routes
  touched : onlyTouches [.mu, .lc, .lu, .su, .pu] s t

section

variable {s : State} {p : Projector}

theorem State.misses_onStation (s : State) (p : Projector) (f : Station → Station) : s.Misses p (s.onStation p f) := by
  constructor <;> simp +contextual [onlyTouches, eq_comm]

theorem State.misses_miss (quiet : (s.screen (screenOf p)).changeover.state.examined = false) :
    s.Misses p (s.miss p) := by
  by_cases present : (s.station p).presence = .present
  case neg => rw [State.miss_of_absent present]; exact s.misses_onStation p _
  by_cases early : (s.station p).missRun < 2
  · rw [State.miss_of_early present early]; exact s.misses_onStation p _
  rw [State.miss_of_third present (Nat.not_lt.mp early), State.withdrawIf]
  split
  · have gone : s.Misses p (((s.nowLost p).givenUp p).raise (noticeArmWithdrawn (screenOf p))) := by
      constructor <;> simp +contextual [onlyTouches, eq_comm, State.nowLost, State.givenUp]
    have still := quiet
    rw [← gone.changeover] at still
    rw [State.withdraw_eq, State.examine_of_not_examined _ _ still, State.examine_of_not_examined _ _ still]
    exact gone
  · have lost : s.Misses p (s.nowLost p) := by
      constructor <;> simp +contextual [onlyTouches, eq_comm, State.nowLost]
    rw [State.examine_of_not_examined]
    · exact lost
    · rw [lost.changeover]; exact quiet

end

/-! ### The window closed and the poll judged (R26, R39, R118) -/

section

variable {s : State} {p : Projector} {result : PollResult}

theorem State.misses_windowClosed (quiet : (s.screen (screenOf p)).changeover.state.examined = false) :
    (s.pollSent.setWindow .closed).Misses p (s.windowClosed p result) := by
  unfold State.windowClosed
  cases result
  case good => exact ⟨rfl, rfl, rfl, fun _ _ => rfl, fun _ _ => rfl, fun _ _ => rfl, rfl, rfl, fun _ _ => rfl, rfl,
    onlyTouches_refl _ _⟩
  all_goals exact State.misses_miss quiet

theorem State.windowClosed_of_good (good : result ≠ .awaiting ∧ result ≠ .bad) :
    s.windowClosed p result = s.pollSent.setWindow .closed := by
  cases result <;> simp_all [State.windowClosed]

theorem State.windowClosed_of_miss (missed : result = .awaiting ∨ result = .bad) :
    s.windowClosed p result = (s.pollSent.setWindow .closed).miss p := by
  rcases missed with rfl | rfl <;> rfl

/-- The station's record after a miss. -/
theorem State.station_miss (s : State) (p : Projector) :
    ((s.station p).presence ≠ .present → (s.miss p).station p = { s.station p with goodRun := 0 })
      ∧ ((s.station p).presence = .present → (s.station p).missRun < 2 →
        (s.miss p).station p = { s.station p with missRun := (s.station p).missRun + 1 })
      ∧ ((s.station p).presence = .present → 2 ≤ (s.station p).missRun →
        ((s.miss p).station p).presence = .lost ∧ noticed noticeStationLost s (s.miss p)) := by
  refine ⟨fun absent => ?_, fun present early => ?_, fun present third => ?_⟩
  · rw [State.miss_of_absent absent]; simp
  · rw [State.miss_of_early present early]; simp
  · obtain ⟨station, lost, -⟩ := State.miss_third_reads present third
    exact ⟨by rw [station]; rfl, lost⟩

/-- The held CHANGE is left where there is none. -/
theorem State.fireHeld_of_none {c : Screen} (none : (s.screen c).changeHeld = false) : s.fireHeld c = s := by
  simp [State.fireHeld, none]

theorem PollResult.status_eq (result : PollResult) (m : WatchStation) (left : Nat) :
    m.judged left result.blade = if result = .good (some m.commanded) then .confirmed
      else if left ≤ 1 then .unconfirmed else .waiting (left - 1) := by
  refine if_congr ?_ rfl rfl
  cases result <;> simp [PollResult.blade]

end

/-! ### A poll judged while the record is SENT -/

/-- Both stations have come to an outcome. -/
abbrev settle (status other : WatchStatus) : Prop :=
  (status = .confirmed ∨ status = .unconfirmed) ∧ (other = .confirmed ∨ other = .unconfirmed)

/-- From `s` to `t` the poll of `p` has been judged: its own station comes to `status`, its partner's stands at `other`. -/
structure State.JudgedTo (p : Projector) (status : WatchStatus) (mine other : WatchStation) (s t : State) : Prop where
  settles : settle status other.status → t.watch (screenOf p) = .closed
    ∧ noticed (noticeChangeoverDone (screenOf p)) s t
    ∧ (t.screen (screenOf p)).changeover = { (s.screen (screenOf p)).changeover with
        state := .done
        unconfirmed := (s.screen (screenOf p)).changeover.unconfirmed
          || (status = .unconfirmed || other.status = .unconfirmed) }
    ∧ (status = .unconfirmed → (t.motion p).cause = .bladeUnconfirmed ∧ noticed (noticeProjectorAttention p) s t)
    ∧ (other.status = .unconfirmed → noticed (noticeProjectorAttention (partner p)) s t)
  waits : ¬ settle status other.status → (t.screen (screenOf p)).changeover = (s.screen (screenOf p)).changeover
    ∧ t.watch (screenOf p) = Watch.bySide (sideOf p) { mine with status := status } other ∧ onlyTouches [.lc] s t
  motion : ∀ q x, (q = p ∧ x = status) ∨ (q = partner p ∧ x = other.status) → ∀ [Decidable (settle status other.status
    ∧ x = .unconfirmed)], t.motion q = { s.motion q with
      cause := if settle status other.status ∧ x = .unconfirmed then .bladeUnconfirmed else (s.motion q).cause }
  motions : ∀ q, q ≠ p → q ≠ partner p → t.motion q = s.motion q
  stations : t.lc.stations = s.lc.stations
  window : t.lc.window = s.lc.window
  queue : t.lc.burstQueue = s.lc.burstQueue
  roles : t.su.roles = s.su.roles
  others : ∀ d, d ≠ screenOf p → t.watch d = s.watch d ∧ t.screen d = s.screen d
  act : s.Act t
  touched : onlyTouches [.mu, .lc, .su, .pu] s t

section

variable {s : State} {p : Projector} {mine other : WatchStation} {blade : Option Opening} {status : WatchStatus}
  (watch : s.watch (screenOf p) = Watch.bySide (sideOf p) mine other)
  (judged : mine.judge blade = { mine with status := status })
include watch judged

theorem State.judgedTo_of_open (waits : ¬ settle status other.status) :
    s.JudgedTo p status mine other (s.judgePoll p blade) := by
  have act := s.act_judgePoll p blade
  have open_ := State.judgePoll_of_open (blade := blade) watch (by
    rw [judged, WatchStation.settled_iff, WatchStation.settled_iff]; exact waits)
  rw [open_, judged] at act ⊢
  constructor
  case settles => exact fun is => absurd is waits
  case waits => exact fun _ => ⟨rfl, by simp, by simp [onlyTouches]⟩
  case motion => intro q x _ _; simp [waits]
  case act => exact act
  case others => intro d away; simp [away.symm]
  all_goals simp [onlyTouches]

theorem State.judgedTo_of_settled (sent : (s.screen (screenOf p)).changeover.state = .sent)
    (fresh : (s.screen (screenOf p)).changeHeld = false) (settles : settle status other.status) :
    s.JudgedTo p status mine other (s.judgePoll p blade) := by
  have act := s.act_judgePoll p blade
  have done := State.judgePoll_of_settled (blade := blade) watch
    (by rw [judged, WatchStation.settled_iff]; exact settles.1) ((WatchStation.settled_iff _).mpr settles.2)
  rw [judged, State.outcomeBy_of_sent (s := s.setWatch (screenOf p) .closed) sent] at done
  have reached := (s.setWatch (screenOf p) .closed).settledBy_settledOf p (status = .confirmed) (other.status = .confirmed)
  have none : (((s.setWatch (screenOf p) .closed).settledOf p (status = .confirmed)
      (other.status = .confirmed)).screen (screenOf p)).changeHeld = false := by
    rw [reached.record]; exact fresh
  dsimp only at done
  rw [State.fireHeld_of_none none] at done
  have mineOut : decide (status = .confirmed) = false ↔ status = .unconfirmed := by
    rcases settles.1 with h | h <;> simp [h]
  have otherOut : decide (other.status = .confirmed) = false ↔ other.status = .unconfirmed := by
    rcases settles.2 with h | h <;> simp [h]
  have unconfirmed : (!decide (status = .confirmed) || !decide (other.status = .confirmed)) =
      (decide (status = .unconfirmed) || decide (other.status = .unconfirmed)) := by
    rcases settles.1 with h | h <;> rcases settles.2 with k | k <;> simp [h, k]
  rw [done] at act ⊢
  generalize (s.setWatch (screenOf p) .closed).settledOf p (decide (status = .confirmed))
    (decide (other.status = .confirmed)) = w at reached act ⊢
  obtain ⟨first, second, others, record, away, over_, attention, attention', roles, -, -, touched⟩ := reached
  have line : w.lc = (s.setWatch (screenOf p) .closed).lc := touched.2.1 (by simp)
  rw [unconfirmed] at record
  simp only [mineOut, otherOut] at first second attention attention'
  constructor
  case settles =>
    intro _
    refine ⟨by rw [State.watch, line]; exact (State.watch_setWatch ..).trans (if_pos rfl), over_,
      (congrArg ScreenRecord.changeover record :), fun out => ⟨?_, attention out⟩, attention'⟩
    rw [first, if_pos out]
  case waits => exact fun not => absurd settles not
  case motion =>
    rintro q x (⟨rfl, rfl⟩ | ⟨rfl, rfl⟩) _
    · exact first.trans (congrArg (fun cause => { s.motion _ with cause := cause })
        (if_congr (and_iff_right settles).symm rfl rfl))
    · exact second.trans (congrArg (fun cause => { s.motion _ with cause := cause })
        (if_congr (and_iff_right settles).symm rfl rfl))
  case act => exact act
  case others =>
    intro d elsewhere
    exact ⟨by rw [State.watch, line]; exact (State.watch_setWatch ..).trans (if_neg elsewhere.symm), away d elsewhere⟩
  case motions => exact others
  case roles => exact roles
  case touched => exact (show onlyTouches [.mu, .lc, .su, .pu] s (s.setWatch (screenOf p) .closed) by
    simp [onlyTouches]).trans (touched.mono (by simp))
  all_goals rw [line]; rfl

theorem State.judgedTo_judgePoll (sent : (s.screen (screenOf p)).changeover.state = .sent)
    (fresh : (s.screen (screenOf p)).changeHeld = false) : s.JudgedTo p status mine other (s.judgePoll p blade) := by
  by_cases settles : settle status other.status
  · exact State.judgedTo_of_settled watch judged sent fresh settles
  · exact State.judgedTo_of_open watch judged settles

end

/-- Settles O56: the miss, if there is one, then the watch; a settled one is the record's settling. -/
theorem confirmationSettlesTheChangeover : Obligations.ConfirmationSettlesTheChangeover := by
  intro p result mine other left s window waiting watch sent fresh
  have quiet : (s.screen (screenOf p)).changeover.state.examined = false := by rw [sent]; rfl
  have watched : s.watch (screenOf p) = Watch.bySide (sideOf p) mine other := watch.trans (by cases sideOf p <;> rfl)
  have closed := State.misses_windowClosed (result := result) quiet
  have good := State.windowClosed_of_good (s := s) (p := p) (result := result)
  have missed := State.windowClosed_of_miss (s := s) (p := p) (result := result)
  have ran := exec_replyWindowEnd window
  generalize s.windowClosed p result = v at closed good missed ran
  obtain ⟨shut, watches, queue, stations, roles, motions, changeover, held, screens, routes, touched⟩ := closed
  have line : ∀ q, (s.pollSent.setWindow .closed).station q = s.station q := fun q => s.pollSent_station q
  have base : onlyTouches [.lc] s (s.pollSent.setWindow .closed) := by simp [onlyTouches]
  simp only [line] at stations
  have judging : ∀ d, v.watch d = s.watch d := fun d => by
    rw [State.watch, watches]
    exact s.pollSent_watch d
  have judged := WatchStation.judge_of_waiting waiting result.blade
  rw [result.status_eq] at judged
  have loss : result = .awaiting ∨ result = .bad →
      ((s.station p).presence ≠ .present → v.station p = { s.station p with goodRun := 0 })
        ∧ ((s.station p).presence = .present → (s.station p).missRun < 2 →
          v.station p = { s.station p with missRun := (s.station p).missRun + 1 })
        ∧ ((s.station p).presence = .present → 2 ≤ (s.station p).missRun →
          (v.station p).presence = .lost ∧ noticed noticeStationLost s v) := fun miss => by
    rw [missed miss, ← line p]
    exact State.station_miss (s.pollSent.setWindow .closed) p
  dsimp only
  generalize (if result = .good (some mine.commanded) then WatchStatus.confirmed
      else if left ≤ 1 then .unconfirmed else .waiting (left - 1)) = status at judged ⊢
  have ends : v.JudgedTo p status mine other (v.judgePoll p result.blade) :=
    State.judgedTo_judgePoll ((judging _).trans watched) judged ((congrArg Changeover.state changeover).trans sent)
      (held.trans fresh)
  generalize v.judgePoll p result.blade = t at ran ends
  obtain ⟨settled, waits, marked, unmarked, stationsKept, windowKept, queueKept, rolesKept, elsewhere, act, acted⟩ := ends
  refine ⟨t, ran, windowKept.trans shut, ⟨fun is => ?_, fun not => ?_, ?_, fun heard => ?_, fun miss => ?_⟩, ?_,
    fun q apart => ⟨?_, ?_⟩, fun q apart far => (unmarked q apart far).trans (motions q apart),
    fun d away => ⟨(elsewhere d away).1.trans (judging d), (elsewhere d away).2.trans (screens d away)⟩, ?_⟩
  · obtain ⟨closed, done, record, mineOut, otherOut⟩ := settled is
    refine ⟨closed, done.before routes, by rw [record, changeover]; rfl, fun out => ⟨(mineOut out).1,
      (mineOut out).2.before routes⟩, fun out => (otherOut out).before routes⟩
  · obtain ⟨kept, open_, -⟩ := waits not
    exact ⟨kept.trans changeover, open_.trans (by cases sideOf p <;> rfl)⟩
  · rw [marked _ _ (.inr ⟨rfl, rfl⟩), motions _ (partner_ne p)]; rfl
  · obtain rfl := good heard
    exact ⟨stationsKept.trans (by simp), rolesKept, marked _ _ (.inl ⟨rfl, rfl⟩),
      (base.mono (by simp)).trans acted, fun not => base.trans (waits not).2.2⟩
  · have station : t.station p = v.station p := by rw [State.station, stationsKept]; rfl
    obtain ⟨absent, early, third⟩ := loss miss
    refine ⟨fun is => station.trans (absent is), fun is run => station.trans (early is run), fun is run => ?_⟩
    obtain ⟨lost, told⟩ := third is run
    exact ⟨(congrArg Station.presence station).trans lost, told.andAct act⟩
  · exact queueKept.trans (queue.trans (by simp))
  · exact Eq.trans (by rw [State.station, stationsKept]; rfl) (stations q apart)
  · exact Eq.trans (by rw [State.role, rolesKept]; rfl) (roles q apart)
  · exact ((base.mono (by simp)).trans touched).trans (acted.mono (by simp))

end Sys2Proof.Machine
end

section
/-! PROOF. A settled watch whose changeover does not end there: a held CHANGE fired, and the incoming examined
(spec/05 R104, spec/06 R113 to R115, R119). -/

namespace Sys2Proof.Machine

variable {s : State} {sc : Screen} {x : CueIx}

/-! ### The incoming examined (R113 to R115) -/

/-- The record with its incoming found afresh. -/
def State.foundIncoming (s : State) (sc : Screen) : State :=
  s.onChangeover sc fun c => { c with incoming := s.incomingOf sc }

theorem State.screen_foundIncoming (s : State) (sc : Screen) : (s.foundIncoming sc).screen sc =
    { s.screen sc with changeover := { (s.screen sc).changeover with incoming := s.incomingOf sc } } := by
  simp [State.foundIncoming]

section

variable (waiting : (s.screen sc).changeover.state = .waitingReady)
include waiting

theorem State.examine_of_waiting : s.examine sc = (s.foundIncoming sc).requestIfReady sc (s.incomingOf sc) := by
  simp only [State.examine, waiting]
  rfl

/-- A record WAITING_READY waits on where the incoming is not ready or the line refuses. -/
theorem State.examine_waits (unready : s.ready (s.incomingOf sc) = false ∨ s.burstRuling sc ≠ .ok) :
    s.examine sc = s.foundIncoming sc := by
  rw [State.examine_of_waiting waiting]
  rcases unready with idle | refused
  · exact State.requestIfReady_of_unready idle
  · exact State.requestIfReady_of_refused (s := s.foundIncoming sc) _ refused

/-- A ready incoming whose burst the line takes makes the record QUEUED. -/
theorem State.examine_asks {p : Projector} (incoming : s.incomingOf sc = some p) (ready : s.ready (some p) = true)
    (taken : s.burstRuling sc = .ok) : s.examine sc =
      ((s.foundIncoming sc).setQueue (s.lc.burstQueue ++ [.changeover sc (sideOf p)])).onChangeover sc
        fun c => { c with state := .queued } := by
  rw [State.examine_of_waiting waiting, incoming]
  exact State.requestIfReady_of_ready (s := s.foundIncoming sc) ready taken

/-- What either ruling leaves of a record WAITING_READY and of everything else. -/
theorem State.examine_waiting_keeps : ((s.examine sc).screen sc).changeover = { (s.screen sc).changeover with
      incoming := s.incomingOf sc, state := ((s.examine sc).screen sc).changeover.state }
    ∧ (s.examine sc).pu = s.pu ∧ onlyTouches [.lc, .su] s (s.examine sc) := by
  by_cases unready : s.ready (s.incomingOf sc) = false ∨ s.burstRuling sc ≠ .ok
  · rw [State.examine_waits waiting unready, State.screen_foundIncoming]
    exact ⟨rfl, rfl, by simp [onlyTouches, State.foundIncoming]⟩
  · rw [not_or, Bool.not_eq_false, not_not] at unready
    obtain ⟨ready, taken⟩ := unready
    cases incoming : s.incomingOf sc with
    | none =>
      rw [incoming] at ready
      exact nomatch ready
    | some p =>
      rw [State.examine_asks waiting incoming (incoming ▸ ready) taken]
      exact ⟨by simp [State.foundIncoming, incoming], rfl, by simp [onlyTouches, State.foundIncoming]⟩

end

section

variable (queued : (s.screen sc).changeover.state = .queued)
include queued

theorem State.examine_keeps (ready : s.ready (s.incomingOf sc) = true) : s.examine sc = s.foundIncoming sc := by
  simp only [State.examine, queued, ready]
  rfl

theorem State.examine_of_queued_unready (unready : s.ready (s.incomingOf sc) = false) :
    s.examine sc = (s.foundIncoming sc).withdrawBurst sc := by
  simp only [State.examine, queued, unready]
  rfl

/-- An incoming no longer ready has its burst withdrawn. -/
theorem State.examine_withdraws (unready : s.ready (s.incomingOf sc) = false)
    (asked : s.lc.burstQueue.any (Burst.isOf sc) = true) : s.examine sc =
      (((s.foundIncoming sc).setQueue (s.lc.burstQueue.filter fun b => !b.isOf sc)).onChangeover sc
        fun c => { c with state := .waitingReady }).raise (noticeChangeoverWaiting sc) := by
  have there : (s.foundIncoming sc).lc.burstQueue.any (Burst.isOf sc) = true := asked
  rw [State.examine_of_queued_unready queued unready, State.withdrawBurst, State.askWithdraw, if_pos there]
  rfl

/-- With no burst in the queue there is none to withdraw. -/
theorem State.examine_unqueued (unready : s.ready (s.incomingOf sc) = false)
    (unasked : s.lc.burstQueue.any (Burst.isOf sc) = false) : s.examine sc = s.foundIncoming sc := by
  have none : ¬ (s.foundIncoming sc).lc.burstQueue.any (Burst.isOf sc) = true := by
    rw [Bool.not_eq_true]; exact unasked
  rw [State.examine_of_queued_unready queued unready, State.withdrawBurst, State.askWithdraw, if_neg none]

end

/-- Readiness is read from the roles, the lamps, the stations and the shutters. -/
theorem State.ready_congr {t : State} (roles : t.su.roles = s.su.roles) (lu : t.lu = s.lu)
    (stations : t.lc.stations = s.lc.stations) (fu : t.fu = s.fu) (inc : Option Projector) : t.ready inc = s.ready inc := by
  cases inc with
  | none => rfl
  | some p =>
    have role : t.role p = s.role p := by rw [State.role, roles]; rfl
    have lamp : t.lamp p = s.lamp p := by rw [State.lamp, lu]; rfl
    have station : t.station p = s.station p := by rw [State.station, stations]; rfl
    have shutter : t.shutter (portShutter p) = s.shutter (portShutter p) := by rw [State.shutter, fu]; rfl
    rw [State.ready, State.ready, role, lamp, station, shutter]

/-! ### A held CHANGE fired (R104) -/

theorem State.fireHeld_of_held (held : (s.screen sc).changeHeld = true) (performing : (s.screen sc).state.performing = true)
    (next : (s.screen sc).next = some x) : s.fireHeld sc =
      ((s.onScreen sc fun r => { r with changeHeld := false }).fireCue sc x).runCues cueFuel sc := by
  simp only [State.fireHeld, held, performing, next]
  rfl

/-- From `s` to `t` the CHANGE of screen `sc` that was held has opened a changeover that waits. -/
structure State.FiresHeld (sc : Screen) (x : CueIx) (s t : State) : Prop where
  moves : s.Moves sc x true t
  held : (t.screen sc).changeHeld = false
  changeover : (t.screen sc).changeover = s.opened sc x
  state : (t.screen sc).state = if (s.screen sc).state = .running then .waiting else (s.screen sc).state
  waits : noticed (noticeChangeoverWaiting sc) s t
  roles : t.su.roles = s.su.roles
  screens : ∀ d, d ≠ sc → t.screen d = s.screen d
  lc : t.lc = s.lc
  touched : onlyTouches [.mu, .su, .pu] s t

theorem State.touches_openChangeover_waits (unready : s.ready (s.incomingOf sc) = false) :
    onlyTouches [.su, .pu] s (s.openChangeover sc x) := by
  rw [State.openChangeover_of_unready (.inl unready)]
  simp [onlyTouches]

theorem State.firesHeld_takeCue (change : (s.cue x).kind = .change) (landed : (s.screen sc).changeover.state.inFlight = false)
    (fresh : (s.screen sc).changeHeld = false) (unready : s.ready (s.incomingOf sc) = false)
    (later : ∀ y, nextIn x (s.screen sc).list = some y → (s.cue y).trigger = .go) :
    s.FiresHeld sc x (s.takeCue sc x) := by
  have acts : (s.dropCueWatch sc x).cueAction sc x = (true, (s.dropCueWatch sc x).openChangeover sc x) := by
    simp [State.cueAction, change]
  have free : s.mustHold sc x = false := by simp [State.mustHold, landed]
  have dropped : (s.dropCueWatch sc x).ready ((s.dropCueWatch sc x).incomingOf sc) = false := by simpa using unready
  obtain ⟨roles, cues, screens, record, -, -, -, -, -, routes⟩ := (s.dropCueWatch sc x).opens_openChangeover sc x
  obtain ⟨state, waits, line, picture⟩ := State.openChangeover_waits (x := x) (.inl dropped)
  have same : ((s.dropCueWatch sc x).openChangeover sc x).su.cues = s.su.cues := by simp [cues]
  have stays : (((s.dropCueWatch sc x).openChangeover sc x).screen sc).changeHeld = false := by
    rw [State.openChangeover_of_unready (.inl dropped)]
    simpa using fresh
  have touched := State.touches_openChangeover_waits (x := x) dropped
  have moves := State.moves_fired acts same
  rw [State.takeCue_of_go free acts same later]
  have watch : (s.dropCueWatch sc x).opened sc x = s.opened sc x := by simp [State.opened]
  rw [watch, state] at record
  rw [State.dropCueWatch_lc] at line
  rw [State.dropCueWatch_screen] at picture
  have watched := s.touches_dropCueWatch sc x
  generalize (s.dropCueWatch sc x).openChangeover sc x = v at *
  have reads : (v.fired sc x true).screen sc = (v.screen sc).advance x := by rw [State.fired_screen, if_pos rfl]
  constructor
  case moves => exact moves
  case held => rw [reads]; exact stays
  case changeover => rw [reads]; exact record
  case state => rw [reads]; exact picture
  case waits => exact (waits.before (by simp)).andAct (v.act_fired sc x true)
  case roles => exact roles.trans (by simp)
  case screens =>
    intro d other
    rw [State.fired_screen, if_neg other.symm, screens d other, State.dropCueWatch_screen]
  case lc => exact line
  case touched =>
    exact ((watched.mono (by simp)).trans (touched.mono (by simp))).trans ((State.touches_fired v sc x true).mono (by simp))

/-! ### The bursts of a screen on the line (R36) -/

/-- The queue holds no burst of the screen. -/
theorem any_isOf_eq_false {queue : List Burst} :
    queue.any (Burst.isOf sc) = false ↔ ∀ side, .changeover sc side ∉ queue := by
  rw [List.any_eq_false]
  refine ⟨fun none side there => none _ there (decide_eq_true rfl), fun none b there own => ?_⟩
  cases b with
  | trip => exact nomatch own
  | changeover d side => exact none side (of_decide_eq_true own ▸ there)

theorem LineControl.pollSent_isOf (l : LineControl) : l.pollSent.sending.isOf sc = l.sending.isOf sc := by
  unfold LineControl.pollSent
  split
  · rename_i sending
    rw [sending]
    rfl
  all_goals rfl

/-! ### A watch that the poll settles with both stations confirmed (R39) -/

/-- The poll's end with the watch of the screen closed. -/
def State.watchEnded (s : State) (sc : Screen) : State := (s.pollSent.setWindow .closed).setWatch sc .closed

theorem State.touches_watchEnded (s : State) (sc : Screen) : onlyTouches [.lc] s (s.watchEnded sc) := by
  simp [onlyTouches, State.watchEnded]

theorem State.watch_watchEnded (s : State) (sc : Screen) : (s.watchEnded sc).watch sc = .closed :=
  (State.watch_setWatch ..).trans (if_pos rfl)

theorem State.stations_watchEnded (s : State) (sc : Screen) : (s.watchEnded sc).lc.stations = s.lc.stations := by
  simp [State.watchEnded]

theorem State.burstQueue_watchEnded (s : State) (sc : Screen) : (s.watchEnded sc).lc.burstQueue = s.lc.burstQueue := by
  simp [State.watchEnded]

theorem State.burstRuling_watchEnded (clear : s.lc.tripInForce = false)
    (unasked : ∀ side, .changeover sc side ∉ s.lc.burstQueue)
    (unsent : ∀ side, s.lc.sending ≠ .burst (.changeover sc side)) : (s.watchEnded sc).burstRuling sc = .ok := by
  have none : s.lc.burstQueue.any (Burst.isOf sc) = false := any_isOf_eq_false.mpr unasked
  have own : s.lc.sending.isOf sc = false := by
    cases sending : s.lc.sending with
    | burst b =>
      cases b with
      | trip => rfl
      | changeover d side =>
        refine decide_eq_false fun same => unsent side ?_
        rw [sending, same]
    | nothing | lineReset | poll => rfl
  have free : (s.watchEnded sc).lc.tripInForce = false := (by simp [State.watchEnded] : _ = s.lc.tripInForce).trans clear
  have line : (s.watchEnded sc).lc.sending.isOf sc = false :=
    s.lc.pollSent_isOf.trans own
  rw [State.burstRuling, free, s.burstQueue_watchEnded, none, line, s.watch_watchEnded]
  rfl

theorem exec_replyWindowEnd_confirmed {p : Projector} {mine other : WatchStation} {left : Nat}
    (window : s.lc.pollSent.window = .opened p (.good (some mine.commanded))) (waiting : mine.status = .waiting left)
    (confirmed : other.status = .confirmed) (watch : s.watch (screenOf p) = Watch.bySide (sideOf p) mine other) :
    exec .replyWindowEnd s = .next ((s.watchEnded (screenOf p)).outcomeBy p true true) := by
  have judged : mine.judge (some mine.commanded) = { mine with status := .confirmed } := by
    simp [WatchStation.judge, waiting]
  have open_ : (s.pollSent.setWindow .closed).watch (screenOf p) = Watch.bySide (sideOf p) mine other :=
    (s.pollSent_watch _).trans watch
  have ended := State.judgePoll_of_settled (blade := some mine.commanded) open_
    (by rw [judged, WatchStation.settled_iff]; exact .inl rfl) ((WatchStation.settled_iff _).mpr (.inl confirmed))
  rw [judged, confirmed] at ended
  rw [exec_replyWindowEnd window]
  exact congrArg Host.Outcome.next ended

theorem State.act_settledOf (s : State) (p : Projector) (mine other : Bool) : s.Act (s.settledOf p mine other) := by
  have settled : ∀ a b, s.Act (s.settled (screenOf p) a b) := fun a b =>
    (((s.act_onChangeover _ _).andThen fun u => u.act_confirm _ _).andThen fun u => u.act_confirm _ _).andThen
      fun u => u.act_raise _
  unfold State.settledOf
  cases sideOf p
  · exact settled mine other
  · exact settled other mine

section

variable {t : State} {p q : Projector} {mine other : Bool}
  (done : s.SettledBy sc p q mine other t) (act : s.Act t) (held : (s.screen sc).changeHeld = true)
  (performing : (s.screen sc).state.performing = true) (next : (s.screen sc).next = some x)
  (change : (s.cue x).kind = .change) (unready : s.ready (s.incomingOf sc) = false)
  (later : ∀ y, nextIn x (s.screen sc).list = some y → (s.cue y).trigger = .go)

/-- The screen's record DONE and its CHANGE about to be fired. -/
def State.released (s : State) (sc : Screen) : State := s.onScreen sc fun r => { r with changeHeld := false }

include done in
/-- The changeover that the held CHANGE opens is the one it would have opened before the record was DONE. -/
theorem State.SettledBy.released_reads : (t.released sc).screen sc = { s.screen sc with
        changeHeld := false, changeover := (t.screen sc).changeover }
      ∧ (t.released sc).incomingOf sc = s.incomingOf sc ∧ (t.released sc).onScreenOf sc = s.onScreenOf sc
      ∧ (∀ inc, (t.released sc).ready inc = s.ready inc) := by
  obtain ⟨-, -, -, record, -, -, -, -, roles, -, -, touched⟩ := done
  have own : (t.released sc).screen sc = { s.screen sc with
      changeHeld := false, changeover := (t.screen sc).changeover } := by
    simp [State.released, record]
  have reel : ∀ r, (t.released sc).reel sc r = s.reel sc r := fun r => by simp only [State.reel, own]
  have role : ∀ p, (t.released sc).role p = s.role p := fun p => by
    show t.su.roles[p] = s.su.roles[p]
    rw [roles]
  refine ⟨own, State.incomingOf_congr reel role, by simp only [State.onScreenOf, role], fun inc => ?_⟩
  exact State.ready_congr roles (touched.2.2.1 (by simp)) (congrArg LineControl.stations (touched.2.1 (by simp)))
    (touched.2.2.2.2.2.1 (by simp)) inc

include done act held performing next change unready later in
/-- The held CHANGE of a record just DONE, with an incoming that is not ready. -/
theorem State.firesHeld_of_settled : s.FiresHeld sc x (t.fireHeld sc) := by
  obtain ⟨own, incoming, shown, ready⟩ := done.released_reads
  have released := State.fireHeld_of_held (s := t) (sc := sc) (x := x)
  obtain ⟨-, -, -, record, screens, -, -, -, roles, cues, routes, touched⟩ := done
  rw [record] at released
  have cue : ∀ y, (t.released sc).cue y = s.cue y := fun y => by
    show t.su.cues[y] = s.su.cues[y]
    rw [cues]
  have landed : ((t.released sc).screen sc).changeover.state.inFlight = false := by rw [own, record]; rfl
  have fires : (t.released sc).FiresHeld sc x ((t.released sc).takeCue sc x) := by
    refine State.firesHeld_takeCue (by rw [cue, change]) landed (by rw [own]) (by rw [incoming, ready, unready]) ?_
    rw [own]
    simpa only [cue] using later
  have taken : t.fireHeld sc = (t.released sc).takeCue sc x := by
    rw [State.takeCue, if_neg (by simp [State.mustHold, landed])]
    exact released held performing next
  have line : t.lc = s.lc := touched.2.1 (by simp)
  have release : onlyTouches [.mu, .su, .pu] t (t.released sc) := by simp [onlyTouches, State.released]
  have rolesKept : (t.released sc).su.roles = s.su.roles := roles
  have lineKept : (t.released sc).lc = s.lc := line
  have opened : (t.released sc).opened sc x = s.opened sc x := by simp [State.opened, incoming, shown]
  have same : ∀ d, d ≠ sc → (t.released sc).screen d = s.screen d := fun d away =>
    Eq.trans (by simp [State.released, away.symm]) (screens d away)
  have acted : s.Act (t.released sc) := act.trans (t.act_onScreen sc _ rfl rfl id)
  rw [taken]
  generalize (t.released sc).takeCue sc x = u at fires
  generalize t.released sc = h at own fires cue opened same acted release rolesKept lineKept
  obtain ⟨⟨follows, fired, state, others, routed, answers⟩, free, changeover, picture, waits, kept, rest, lc, acts⟩ := fires
  rw [own] at follows picture
  constructor
  case moves => exact ⟨follows, fired.before acted.routes, state, fun y other => (others y other).trans (cue y),
      routed.trans acted.routes, fun n c data => (answers n c data).trans (acted.answers_answer n c .ok data)⟩
  case held => exact free
  case changeover => exact changeover.trans opened
  case state => exact picture
  case waits => exact waits.before acted.routes
  case roles => exact kept.trans rolesKept
  case screens => exact fun d away => (rest d away).trans (same d away)
  case lc => exact lc.trans lineKept
  case touched => exact (touched.trans release).trans acts

end

/-- Settles O57: the poll confirms the last station that waited, and the outcome goes by the record's state. -/
theorem settledWatchFiresTheHeldChange : Obligations.SettledWatchFiresTheHeldChange := by
  intro p mine other left x s window waiting confirmed watch
  have watched : s.watch (screenOf p) = Watch.bySide (sideOf p) mine other := watch.trans (by cases sideOf p <;> rfl)
  have ran := exec_replyWindowEnd_confirmed window waiting confirmed watched
  have touched := s.touches_watchEnded (screenOf p)
  have shut := s.watch_watchEnded (screenOf p)
  have stations := s.stations_watchEnded (screenOf p)
  have queue := s.burstQueue_watchEnded (screenOf p)
  dsimp only
  refine ⟨fun sent held performing next change unready later => ?_, fun landed => ?_, fun readying clear => ?_⟩
  · have done := (s.watchEnded (screenOf p)).settledBy_settledOf p true true
    have act := (s.watchEnded (screenOf p)).act_settledOf p true true
    have ready := State.ready_congr (s := s) (t := s.watchEnded (screenOf p)) rfl rfl stations rfl
    rw [State.outcomeBy_of_sent (s := s.watchEnded (screenOf p)) sent] at ran
    have fires := State.firesHeld_of_settled done act held performing next change ((ready _).trans unready) later
    have told := done.done.andAct (State.act_fireHeld _ (screenOf p))
    generalize ((s.watchEnded (screenOf p)).settledOf p true true).fireHeld (screenOf p) = t at ran fires told
    obtain ⟨⟨follows, fired, state, others, -, -⟩, free, changeover, picture, waits, kept, rest, lc, acts⟩ := fires
    exact ⟨t, ran, (congrArg (fun l : LineControl => l.watches[screenOf p]) lc).trans shut, free, follows, state, changeover,
      picture, told, fired, waits, kept, others, rest, (touched.mono (by simp)).trans (acts.mono (by simp))⟩
  · have unsent : (s.screen (screenOf p)).changeover.state ≠ .sent := by
      rcases landed with is | is | is <;> simp [is]
    have quiet : ((s.watchEnded (screenOf p)).screen (screenOf p)).changeover.state.examined = false := by
      show (s.screen (screenOf p)).changeover.state.examined = false
      rcases landed with is | is | is <;> rw [is] <;> rfl
    rw [State.outcomeBy_of_unsent (s := s.watchEnded (screenOf p)) unsent, State.examine_of_not_examined _ _ quiet] at ran
    exact ⟨_, ran, shut, rfl, stations, queue, touched⟩
  · have unsent : (s.screen (screenOf p)).changeover.state ≠ .sent := by simp [readying]
    rw [State.outcomeBy_of_unsent (s := s.watchEnded (screenOf p)) unsent] at ran
    have ready := State.ready_congr (s := s) (t := s.watchEnded (screenOf p)) rfl rfl stations rfl
    obtain ⟨record, pu, acts⟩ := State.examine_waiting_keeps (s := s.watchEnded (screenOf p)) readying
    refine ⟨_, ran, (State.examine_watch ..).trans shut, record, fun idle => ?_, fun q incoming able unasked unsent => ?_,
      pu, (touched.mono (by simp)).trans acts⟩
    · rw [State.examine_waits (s := s.watchEnded (screenOf p)) readying (.inl ((ready _).trans idle))]
      exact ⟨(congrArg (fun r : ScreenRecord => r.changeover.state) (State.screen_foundIncoming ..)).trans readying, queue⟩
    · have taken := State.burstRuling_watchEnded clear unasked unsent
      rw [State.examine_asks (s := s.watchEnded (screenOf p)) readying incoming ((ready _).trans able) taken]
      exact ⟨by simp, congrArg (· ++ _) queue⟩

end Sys2Proof.Machine
end

section
/-! PROOF. The incoming of a changeover examined, on a stale report and on LAMP_OFF (spec/06 R113 to R115). -/

namespace Sys2Proof.Machine

variable {s : State} {sc : Screen}

/-! ### A burst withdrawn (R115) -/

theorem Burst.isOf_eq_false {b : Burst} (other : ∀ side, b ≠ .changeover sc side) : b.isOf sc = false := by
  cases b with
  | trip => rfl
  | changeover d side => exact decide_eq_false fun same => other side (same ▸ rfl)

theorem any_isOf_eq_true {queue : List Burst} :
    queue.any (Burst.isOf sc) = true ↔ ∃ side, .changeover sc side ∈ queue := by
  rw [← Bool.not_eq_false, any_isOf_eq_false]
  push Not
  rfl

/-- From `s` to `t` the burst of screen `sc` has been withdrawn and its record waits again. -/
structure State.Withdraws (sc : Screen) (s t : State) : Prop where
  record : (t.screen sc).changeover = { (s.screen sc).changeover with
    incoming := s.incomingOf sc, state := .waitingReady }
  gone : ∀ side, .changeover sc side ∉ t.lc.burstQueue
  others : ∀ b : Burst, (∀ side, b ≠ .changeover sc side) → (b ∈ t.lc.burstQueue ↔ b ∈ s.lc.burstQueue)
  noticed : noticed (noticeChangeoverWaiting sc) s t

theorem State.withdraws_examine (queued : (s.screen sc).changeover.state = .queued)
    (unready : s.ready (s.incomingOf sc) = false) (asked : ∃ side, .changeover sc side ∈ s.lc.burstQueue) :
    s.Withdraws sc (s.examine sc) := by
  rw [State.examine_withdraws queued unready (any_isOf_eq_true.mpr asked)]
  constructor
  case record => simp [State.foundIncoming]
  case gone => simp [Burst.isOf]
  case others =>
    intro b other
    simp [Burst.isOf_eq_false other]
  case noticed => exact noticed_raise (((s.foundIncoming sc).setQueue (s.lc.burstQueue.filter fun b =>
      !b.isOf sc)).onChangeover sc fun c => { c with state := .waitingReady }) _

/-! ### A report taken -/

/-- The state in which a report has been taken, before the incoming is examined. -/
theorem State.reported_reads (s : State) (p : Projector) (toggle : Bool) (x : Report) :
    ((s.answered p).reported p toggle x).lc.burstQueue = s.lc.burstQueue
      ∧ ((s.answered p).reported p toggle x).burstRuling sc = s.burstRuling sc
      ∧ onlyTouches [.lc] s ((s.answered p).reported p toggle x) := by
  have sending : ((s.answered p).reported p toggle x).lc.sending.isOf sc = s.lc.sending.isOf sc := s.lc.pollSent_isOf
  have queue : ((s.answered p).reported p toggle x).lc.burstQueue = s.lc.burstQueue := s.lc.pollSent_burstQueue
  have trip : ((s.answered p).reported p toggle x).lc.tripInForce = s.lc.tripInForce := s.lc.pollSent_tripInForce
  have watch : ((s.answered p).reported p toggle x).watch sc = s.watch sc := s.pollSent_watch sc
  refine ⟨queue, ?_, by simp [onlyTouches, State.reported, State.answered]⟩
  rw [State.burstRuling, State.burstRuling, trip, queue, sending, watch]


/-! ### The incoming's lamp put out (R50, R115) -/

/-- A lamp put out, before its screen is told. -/
def State.doused (s : State) (p : Projector) : State :=
  (s.onDesired p (fun d => { d with arc := .off })).onLamp p fun _ => (s.lamp p).putOut

theorem exec_lampOff_of_lit {n : Port} {p : Projector} (unshown : s.role p ≠ .onScreen) (lit : (s.lamp p).state ≠ .cold) :
    exec (.lampOff n (numberOf p)) s = .next ((((s.doused p).examine (screenOf p)).lampAttention p .off).answer n
      (.lampOff n (numberOf p)) .ok []) := by
  refine exec_lampOff ((if_neg unshown).trans ?_)
  rw [State.extinguish, if_neg lit]
  refine congrArg (Ruling.mk .ok []) ?_
  show (State.handLamp _ p (s.lamp p).putOut).lampAttention p .off = _
  rw [State.handLamp_of_not_burning _ _ (s.lamp p).putOut_not_burning]
  rfl

theorem State.ready_doused (s : State) (p : Projector) : (s.doused p).ready (some p) = false := by
  simp [State.ready, State.doused, Lamp.putOut]

/-- Settles O58: the record as the examination leaves it, by its state, the incoming's readiness and the line's ruling. -/
theorem incomingIsExamined : Obligations.IncomingIsExamined := by
  intro n p q begun signal toggle x s
  dsimp only
  refine ⟨fun heard present stale clear => ?_, fun incoming standby queued lit asked => ?_⟩
  · have record : (s.answered p).station p = { s.station p with missRun := 0 } := by
      rw [State.station_answered, if_pos rfl]
    have ran := exec_replyReceived_present heard present
    rw [State.heard_of_stale (by rw [record]; exact stale) clear] at ran
    obtain ⟨queue, ruling, touched⟩ := s.reported_reads (sc := screenOf p) p toggle x
    generalize (s.answered p).reported p toggle x = g at *
    have su : g.su = s.su := touched.2.2.2.1 (by simp)
    have pu : g.pu = s.pu := touched.2.2.2.2.2.2.1 (by simp)
    have screen : ∀ d, g.screen d = s.screen d := fun d => by rw [State.screen, su]; rfl
    have role : ∀ q, g.role q = s.role q := fun q => by rw [State.role, su]; rfl
    have incoming : g.incomingOf (screenOf p) = s.incomingOf (screenOf p) :=
      State.incomingOf_congr (fun r => by rw [State.reel, screen]; rfl) role
    have ready : (g.examine (screenOf p)).ready (s.incomingOf (screenOf p)) = g.ready (g.incomingOf (screenOf p)) := by
      rw [incoming]
      exact State.ready_congr (by simp) (by simp) (by simp) (by simp) _
    have found := congrArg ScreenRecord.changeover (g.screen_foundIncoming (screenOf p))
    rw [incoming, screen] at found
    refine ⟨_, ran, fun waiting unready => ?_, fun waiting is able taken => ?_, fun queued able => ?_,
      fun queued unready asked => ?_, fun queued unready unasked => ?_, fun unwaiting unqueued => ?_, ?_, ?_,
      fun d away => ?_, ?_⟩
    · rw [ready, ← ruling] at unready
      rw [State.examine_waits (by rw [screen]; exact waiting) unready]
      exact ⟨found, queue, pu⟩
    · have same : g.incomingOf (screenOf p) = some q := incoming.trans is
      rw [ready, same] at able
      rw [State.examine_asks (by rw [screen]; exact waiting) same able (ruling.trans taken), queue, State.screen_onChangeover,
        if_pos rfl]
      exact ⟨congrArg (fun c : Changeover => { c with state := .queued }) found, rfl, pu⟩
    · rw [ready] at able
      rw [State.examine_keeps (by rw [screen]; exact queued) able]
      exact ⟨found, queue, pu⟩
    · rw [ready] at unready
      obtain ⟨record, gone, others, told⟩ := State.withdraws_examine (by rw [screen]; exact queued) unready
        (by rw [queue]; exact asked)
      rw [incoming, screen] at record
      rw [queue] at others
      exact ⟨record, gone, others, told.before (by rw [pu])⟩
    · rw [ready] at unready
      rw [State.examine_unqueued (by rw [screen]; exact queued) unready
        (any_isOf_eq_false.mpr (by rw [queue]; exact unasked))]
      exact ⟨found, queue, pu⟩
    · rw [State.examine_of_not_examined _ _ (by
        rw [screen]; cases state : (s.screen (screenOf p)).changeover.state <;> simp_all [ChangeoverState.examined])]
      exact ⟨su, queue, pu⟩
    · rw [← screen]
      exact g.examine_screen (screenOf p) (screenOf p)
    · simp [su]
    · rw [State.examine_screen_ne _ _ away, screen]
    · exact (touched.mono (by simp)).trans (g.touches_examine (screenOf p))
  · have ran := exec_lampOff_of_lit (n := n) (s := s) (p := p) (by rw [standby]; decide) lit
    have cold : (((s.doused p).examine (screenOf p)).lamp p).state = .cold := by simp [State.doused, Lamp.putOut]
    have found : (s.doused p).incomingOf (screenOf p) = some p := incoming
    obtain ⟨record, gone, -, told⟩ := State.withdraws_examine (s := s.doused p) queued
      (by rw [found]; exact s.ready_doused p) asked
    have roles : ((s.doused p).examine (screenOf p)).su.roles = s.su.roles := State.examine_roles ..
    have screens : ∀ d, d ≠ screenOf p → ((s.doused p).examine (screenOf p)).screen d = s.screen d := fun d away =>
      State.examine_screen_ne _ _ away
    generalize (s.doused p).examine (screenOf p) = t at *
    refine ⟨_, ran, ?_, record, gone, ?_, roles, screens⟩
    · exact Eq.trans (by simp [State.lampAttention]) cold
    · exact ((told.before rfl).andAct (t.act_lampAttention p .off)).answer n _ _ _

end Sys2Proof.Machine
end

section
/-! PROOF. What no act but an edit changes: the generations of the screens (spec/04 R71). -/

namespace Sys2Proof.Machine

variable (s : State)

/-- From `s` to `t` the generation of every screen is kept. -/
structure State.KeepsGenerations (s t : State) : Prop where
  same : ∀ d, (t.screen d).generation = (s.screen d).generation

namespace State.KeepsGenerations

variable {s} {t u : State}

theorem refl (s : State) : s.KeepsGenerations s := ⟨fun _ => rfl⟩

theorem trans (a : s.KeepsGenerations t) (b : t.KeepsGenerations u) : s.KeepsGenerations u :=
  ⟨fun d => (b.same d).trans (a.same d)⟩

theorem of_su (s t : State) (su : t.su = s.su) : s.KeepsGenerations t := ⟨fun d => by rw [State.screen, State.screen, su]⟩

theorem before (h : t.KeepsGenerations u) (su : t.su = s.su) : s.KeepsGenerations u := (of_su s t su).trans h

end State.KeepsGenerations

theorem State.Act.keepsGenerations {s t : State} (a : s.Act t) : s.KeepsGenerations t := ⟨a.generations⟩

theorem State.keepsGenerations_foldl {α : Type} (f : State → α → State) (h : ∀ u x, State.KeepsGenerations u (f u x))
    (l : List α) : s.KeepsGenerations (l.foldl f s) := by
  induction l generalizing s with
  | nil => exact .refl s
  | cons x l ih => exact (h s x).trans (ih (f s x))

/-! ### The trip and the rearm (R34, R62, R107, R136, R148) -/

theorem State.keepsGenerations_signalTrip : s.KeepsGenerations s.signalTrip := by
  have line : s.KeepsGenerations s.lineTrip :=
    .before s.act_lineStopped_lineTrip.keepsGenerations rfl
  have lamps : ∀ u : State, u.KeepsGenerations u.lampUnitTrip := fun u =>
    .before u.act_lampsTripped_lampUnitTrip.keepsGenerations rfl
  have shows : ∀ u : State, u.KeepsGenerations u.showTrip := fun u =>
    (show u.KeepsGenerations u.showTripped from ⟨fun _ => rfl⟩).trans u.act_showTripped_showTrip.keepsGenerations
  have house : ∀ u : State, u.KeepsGenerations u.houseTrip := fun u => .of_su u u.houseTrip rfl
  exact ((line.trans (lamps _)).trans (shows _)).trans (house _)

theorem State.keepsGenerations_shutTest : s.KeepsGenerations s.shutTest := by
  unfold State.shutTest
  split
  · exact .refl s
  · split
    · exact .of_su _ _ rfl
    · exact .refl s
  · split
    · exact .refl s
    · exact .of_su _ _ rfl

theorem State.keepsGenerations_enterTrip (c : Cause) : s.KeepsGenerations (s.enterTrip c) :=
  .before (((State.keepsGenerations_signalTrip _).trans (State.act_handTripShutters _ s.fu).keepsGenerations).trans
    (State.keepsGenerations_shutTest _)) (t := s.fireTripped c) rfl

theorem State.keepsGenerations_takeCause (c : Cause) : s.KeepsGenerations (s.takeCause c) := by
  have recorded : s.KeepsGenerations (if c ∈ s.fu.causes then s
      else (s.setCauses (s.fu.causes ++ [c])).raise noticeTripCauseAdded) := by
    split
    · exact .refl s
    · exact .of_su _ _ rfl
  unfold State.takeCause
  split
  · exact s.keepsGenerations_enterTrip c
  · exact recorded
  · exact recorded

theorem State.keepsGenerations_flameFlag (p : Projector) (flag : Sensor) : s.KeepsGenerations (s.flameFlag p flag) := by
  unfold State.flameFlag
  split
  · exact s.keepsGenerations_takeCause _
  · exact .refl s

theorem State.keepsGenerations_alarmChange (level : Activity) : s.KeepsGenerations (s.alarmChange level) := by
  rw [s.alarmChange_eq]
  split
  · exact .before (State.keepsGenerations_takeCause _ _) rfl
  · exact .of_su _ _ rfl

theorem State.keepsGenerations_rearm : s.KeepsGenerations s.rearm :=
  (show s.KeepsGenerations s.rearmed from ⟨fun _ => rfl⟩).trans s.act_rearmed_rearm.keepsGenerations

/-! ### Shutter events and drop tests (R145, R149 to R151) -/

theorem State.keepsGenerations_shutterMoved (f : FireUnit) (k : Shutter) (same : Prop) [Decidable same] :
    s.KeepsGenerations (if same then { s with fu := f } else State.handShutter { s with fu := f } k) := by
  have written : s.KeepsGenerations { s with fu := f } := .of_su _ _ rfl
  split
  · exact written
  · exact written.trans (State.act_handShutter _ k).keepsGenerations

theorem State.keepsGenerations_moveShutter (k : Shutter) (r : ShutterRecord) :
    s.KeepsGenerations (s.moveShutter k r) := s.keepsGenerations_shutterMoved _ k _

theorem State.keepsGenerations_endTest (k : Shutter) (v : ShutterState) (x : TestResult) :
    s.KeepsGenerations (s.endTest k v x) :=
  (s.keepsGenerations_shutterMoved _ k _).trans (.of_su _ _ rfl)

theorem State.keepsGenerations_startTest (k : Shutter) : s.KeepsGenerations (s.startTest k) :=
  s.keepsGenerations_shutterMoved _ k _

theorem State.keepsGenerations_limitDownClear (k : Shutter) : s.KeepsGenerations (s.limitDownClear k) := by
  unfold State.limitDownClear
  dsimp only
  split
  · split
    · exact .refl s
    · exact s.keepsGenerations_takeCause _
  · split
    · exact s.keepsGenerations_endTest k _ _
    · exact .refl s
  · exact s.keepsGenerations_moveShutter k _
  · exact .refl s
  · exact .refl s

theorem State.keepsGenerations_limitUpClear (k : Shutter) : s.KeepsGenerations (s.limitUpClear k) := by
  unfold State.limitUpClear
  dsimp only
  split
  · exact s.keepsGenerations_moveShutter k _
  all_goals exact .refl s

theorem State.keepsGenerations_limitDownTrip (k : Shutter) : s.KeepsGenerations (s.limitDownTrip k) := by
  have moved := fun r => (s.keepsGenerations_moveShutter k r).trans (State.keepsGenerations_shutTest _)
  unfold State.limitDownTrip
  dsimp only
  split
  · exact moved _
  · exact moved _
  all_goals exact .refl s

theorem State.keepsGenerations_limitUpTrip (k : Shutter) : s.KeepsGenerations (s.limitUpTrip k) := by
  unfold State.limitUpTrip
  dsimp only
  split
  · exact (s.keepsGenerations_moveShutter k _).trans (State.keepsGenerations_shutTest _)
  all_goals exact .refl s

theorem State.keepsGenerations_limitChange (k : Shutter) (level : Activity) :
    s.KeepsGenerations (s.limitChange k level) := by
  let written : State := State.onShutter
    { s with pins := { s.pins with limits := upd s.pins.limits k (fun _ => level) } } k
    (fun r => { r with limit := level, sampleRun := 0 })
  have own : s.KeepsGenerations written := .of_su _ _ rfl
  unfold State.limitChange
  dsimp only
  split
  · exact own
  · split
    · exact own.trans (written.keepsGenerations_limitDownClear k)
    · exact own.trans (written.keepsGenerations_limitUpClear k)
    · exact own.trans (written.keepsGenerations_limitDownTrip k)
    · exact own.trans (written.keepsGenerations_limitUpTrip k)
    · exact own.trans (written.keepsGenerations_limitDownTrip k)
    · exact own.trans (written.keepsGenerations_limitUpTrip k)

theorem State.keepsGenerations_dropTimeout (k : Shutter) : s.KeepsGenerations (s.dropTimeout k) := by
  have jammed := ((s.keepsGenerations_moveShutter k { s.shutter k with state := .jammed, dropTimer := none }).trans
    (.of_su _ (State.raise _ noticeShutterJam) rfl)).trans (State.keepsGenerations_shutTest _)
  unfold State.dropTimeout
  dsimp only
  split
  · exact .refl s
  · split
    · split
      · exact s.keepsGenerations_endTest k _ _
      · exact .of_su _ _ rfl
    · exact jammed
    · exact jammed
    · exact .of_su _ _ rfl

/-! ### Polls, windows and replies (R25 to R31, R39) -/

theorem State.keepsGenerations_goodReply (p : Projector) : s.KeepsGenerations (s.goodReply p) := by
  unfold State.goodReply
  dsimp only
  split
  · exact .of_su _ _ rfl
  · exact .before (State.act_handPresence _ p _).keepsGenerations rfl

theorem State.keepsGenerations_miss (p : Projector) : s.KeepsGenerations (s.miss p) := by
  unfold State.miss
  dsimp only
  split
  · exact .of_su _ _ rfl
  · exact .before (State.act_handPresence _ p _).keepsGenerations rfl

theorem State.keepsGenerations_endWindow : s.KeepsGenerations s.endWindow := by
  have sent : s.KeepsGenerations s.pollSent := .of_su _ _ rfl
  have shut : s.KeepsGenerations (s.pollSent.setWindow .closed) := .of_su _ _ rfl
  unfold State.endWindow
  obtain ⟨-, e⟩ | ⟨p, blade, -, e⟩ | ⟨p, -, e⟩ := s.pollSent.judgeWindow_cases <;> rw [e]
  · exact sent
  · exact shut.trans (State.act_judgePoll _ p blade).keepsGenerations
  · exact (shut.trans (State.keepsGenerations_miss _ p)).trans (State.act_judgePoll _ p _).keepsGenerations

theorem State.keepsGenerations_takeReport (p : Projector) (toggle : Bool) (x : Report) :
    s.KeepsGenerations (s.takeReport p toggle x) := by
  have taken : s.KeepsGenerations (s.onStation p fun r => r.takeReport (toggle = (s.station p).expectedToggle) x) :=
    .of_su _ _ rfl
  exact ((taken.trans (State.act_handMeasured _ p _ x).keepsGenerations).trans
    (State.act_examine _ (screenOf p)).keepsGenerations).trans (State.keepsGenerations_flameFlag _ p _)

theorem State.keepsGenerations_takeReply (p : Projector) (r : Reply) : s.KeepsGenerations (s.takeReply p r) := by
  have good := s.keepsGenerations_goodReply p
  have opened : ∀ w, s.KeepsGenerations ((s.goodReply p).setWindow w) := fun w => good.trans (.of_su _ _ rfl)
  unfold State.takeReply
  dsimp only
  split
  · exact (opened _).trans (State.keepsGenerations_takeReport _ p _ _)
  · exact (opened _).trans (State.keepsGenerations_flameFlag _ p _)
  · exact (opened _).trans (State.keepsGenerations_flameFlag _ p _)
  · exact opened _

theorem State.keepsGenerations_receiveFrame (begun : Nat) (signal : List Nat) :
    s.KeepsGenerations (s.receiveFrame begun signal) := by
  have sent : s.KeepsGenerations s.pollSent := .of_su _ _ rfl
  obtain ⟨-, e⟩ | ⟨-, -, e, -⟩ | ⟨p, r, -, -, -, e⟩ | ⟨p, -, -, -, e⟩ := s.receiveFrame_cases begun signal <;> rw [e]
  · exact .refl s
  · exact sent
  · exact sent.trans (State.keepsGenerations_takeReply _ p r)
  · exact sent.trans (.of_su _ _ rfl)

/-! ### Frames sent, and slots (R24, R37, R40) -/

theorem State.keepsGenerations_changeoverSent (c : Screen) (side : Side) :
    s.KeepsGenerations (s.changeoverSent c side) :=
  .before (State.act_onBurstSent _ c side).keepsGenerations rfl

theorem State.keepsGenerations_frameSent : s.KeepsGenerations s.frameSent := by
  unfold State.frameSent
  split
  · exact .refl s
  · exact .of_su _ _ rfl
  · exact .of_su _ _ rfl
  · exact s.keepsGenerations_changeoverSent _ _
  · exact .of_su _ _ rfl

theorem State.keepsGenerations_carry (p : Projector) : s.KeepsGenerations (s.carry p) := by
  unfold State.carry
  split
  · exact .of_su _ _ rfl
  · split
    · exact .of_su _ _ rfl
    · split
      · exact .of_su _ _ rfl
      · split
        · exact .of_su _ _ rfl
        · exact .of_su _ _ rfl

theorem State.keepsGenerations_startSlot : s.KeepsGenerations s.startSlot := by
  have ended := s.keepsGenerations_frameSent.trans (State.keepsGenerations_endWindow _)
  unfold State.startSlot
  exact ended.trans (.before (State.keepsGenerations_carry _ _) rfl)

theorem State.keepsGenerations_lineReset : s.KeepsGenerations s.lineReset :=
  .before s.act_lineCleared_lineReset.keepsGenerations rfl

/-! ### The mains (R126 to R130) -/

theorem State.keepsGenerations_validCrossing : s.KeepsGenerations s.validCrossing := by
  refine s.keepsGenerations_foldl State.crossChannel (fun u c => ?_) _
  unfold State.crossChannel
  dsimp only
  split <;> exact .of_su _ _ rfl

theorem State.keepsGenerations_goodHalfCycle (length : Nat) : s.KeepsGenerations (s.goodHalfCycle length) := by
  unfold State.goodHalfCycle
  split
  · exact .before (State.keepsGenerations_validCrossing _) rfl
  · split
    · exact .of_su _ _ rfl
    · exact .before (State.keepsGenerations_validCrossing _) rfl

theorem State.keepsGenerations_badHalfCycle : s.KeepsGenerations s.badHalfCycle := by
  unfold State.badHalfCycle
  split <;> exact .of_su _ _ rfl

theorem State.keepsGenerations_crossing : s.KeepsGenerations s.crossing := by
  unfold State.crossing
  dsimp only
  split
  · exact .of_su _ _ rfl
  · split
    · exact .before (State.keepsGenerations_goodHalfCycle _ _) rfl
    · exact .before (State.keepsGenerations_badHalfCycle _) rfl

theorem State.keepsGenerations_overrun : s.KeepsGenerations s.overrun := by
  unfold State.overrun
  split
  · exact .refl s
  · exact .before (State.keepsGenerations_badHalfCycle _) rfl

/-! ### Pulses and ports (R2, R3, R157 to R163) -/

theorem State.keepsGenerations_sampleSprocket (p : Projector) (level : Level) :
    s.KeepsGenerations (s.sampleSprocket p level) := by
  unfold State.sampleSprocket
  dsimp only
  split
  · exact .before (State.act_acceptedPulse _ p).keepsGenerations rfl
  · exact .of_su _ _ rfl

theorem State.keepsGenerations_receiveByte (n : Port) (b : Byte) : s.KeepsGenerations (s.receiveByte n b) := by
  have checked : ∀ u : State, u.KeepsGenerations (u.checkFrame n) := fun u => by
    unfold State.checkFrame
    split <;> exact .of_su _ _ rfl
  unfold State.receiveByte
  dsimp only
  split
  · exact .of_su _ _ rfl
  · split
    · exact .of_su _ _ rfl
    · exact .before (checked _) rfl

theorem State.keepsGenerations_writeByte (n : Port) (b : Byte) : s.KeepsGenerations (s.writeByte n b) := by
  unfold State.writeByte
  dsimp only
  split
  · exact .of_su _ _ rfl
  · split
    · exact .of_su _ _ rfl
    · exact .before (State.keepsGenerations_receiveByte _ n b) rfl
    · exact .of_su _ _ rfl
    · exact .of_su _ _ rfl

theorem State.keepsGenerations_deliver (n : Port) : s.KeepsGenerations (s.deliver n) := by
  unfold State.deliver
  split
  · exact .refl s
  · dsimp only
    split <;> exact .of_su _ _ rfl

end Sys2Proof.Machine
end

section
/-! PROOF. A generation counts the taken edits and clears of its screen, and no other command changes it (spec/04 R71). -/

namespace Sys2Proof.Machine

/-! ### Edits ruled on (R71, R72) -/

/-- The screen's number in an edit or a SHOW_CLEAR. -/
def editedScreen : Instr → Option Nat
  | .cueNew _ k _ | .cueNewBefore _ k _ _ | .cueNewAfter _ k _ _ | .cueMoveBefore _ k _ _ _ | .cueMoveAfter _ k _ _ _
  | .cueWrite _ k _ _ _ | .cueFree _ k _ _ | .reelSet _ k _ _ _ _ | .showClear _ k _ => some k
  | _ => none

/-- A ruling on an edit of screen `c` with generation `gen`: taken it raises that generation, refused it leaves it, and no
other screen's changes; nothing of the answers is touched. -/
structure Ruling.Edits (c : Screen) (gen : Nat) (s : State) (r : Ruling) : Prop where
  taken : r.status = .ok → gen = (s.screen c).generation ∧ (r.state.screen c).generation = (gen + 1) % 65536
  refused : r.status ≠ .ok → (r.state.screen c).generation = (s.screen c).generation
  others : ∀ d, d ≠ c → (r.state.screen d).generation = (s.screen d).generation
  answers : r.state.pu.answers = s.pu.answers

section

variable {s : State} {c : Screen} {gen : Nat}

theorem Ruling.edits_of_kept {r : Ruling} (state : r.state = s) (refused : r.status ≠ .ok) : r.Edits c gen s where
  taken ok := absurd ok refused
  refused _ := by rw [state]
  others _ _ := by rw [state]
  answers := by rw [state]

/-- An edit whose act leaves the generations and the answers. -/
theorem edits_edit {tests : EditTests} {index : Nat} {act : State → State} (kept : s.KeepsGenerations (act s))
    (answers : (act s).pu.answers = s.pu.answers) : (edit s c gen tests index act).Edits c gen s := by
  obtain ⟨refused, state⟩ | ⟨current, -, -, e⟩ := edit_cases s c gen tests index act
  · exact Ruling.edits_of_kept state refused
  · rw [e]
    constructor
    case taken =>
      intro _
      refine ⟨current, ?_⟩
      rw [current, ← kept.same c]
      simp [State.raiseGeneration, Config.generations]
    case refused => exact fun no => absurd rfl no
    case others =>
      intro d away
      rw [← kept.same d]
      simp [State.raiseGeneration, away.symm]
    case answers => exact answers

theorem State.act_pointToAppended (s : State) (c : Screen) (x : CueIx) : s.Act (s.pointToAppended c x) := by
  unfold State.pointToAppended
  split
  · exact (s.act_onScreen c (fun r => { r with next := some x }) rfl rfl id).andThen fun u => State.act_runCues _ _ u
  · exact .refl s

/-- The cues that an append makes due change no generation. -/
theorem Ruling.Edits.thenAppended {r : Ruling} (h : r.Edits c gen s) (x : CueIx) :
    (r.thenAppended c x).Edits c gen s := by
  obtain ⟨taken, refused, others, answers⟩ := h
  unfold Ruling.thenAppended
  split
  · have act := r.state.act_pointToAppended c x
    exact ⟨fun ok => ⟨(taken ok).1, (act.generations c).trans (taken ok).2⟩,
      fun no => (act.generations c).trans (refused no), fun d away => (act.generations d).trans (others d away),
      act.answers.trans answers⟩
  · exact ⟨taken, refused, others, answers⟩

theorem edits_onCueIx {rule : CueIx → Ruling} (k : Nat) (h : ∀ x, (rule x).Edits c gen s) :
    (onCueIx k s rule).Edits c gen s := by
  unfold onCueIx
  split
  · exact h _
  · exact Ruling.edits_of_kept rfl nofun

theorem edits_onNumber {m : Nat} {rule : Fin m → Ruling} (k : Nat) (h : ∀ i, (rule i).Edits c gen s) :
    (onNumber k s rule).Edits c gen s := by
  unfold onNumber
  split
  · exact h _
  · exact Ruling.edits_of_kept rfl nofun

end

section

variable (s : State) (c : Screen) (gen : Nat)

theorem State.takeAndPlace_keeps (place : CueIx → List CueIx → List CueIx) :
    s.KeepsGenerations (s.takeAndPlace c place) ∧ (s.takeAndPlace c place).pu = s.pu := by
  unfold State.takeAndPlace
  split
  · exact ⟨.refl s, rfl⟩
  · refine ⟨⟨fun d => ?_⟩, rfl⟩
    by_cases e : c = d
    · subst e; simp [State.onList]
    · simp [State.onList, e]

theorem State.onList_keeps (f : List CueIx → List CueIx) : s.KeepsGenerations (s.onList c f) := ⟨fun d => by
  by_cases e : c = d
  · subst e; simp [State.onList]
  · simp [State.onList, e]⟩

theorem edits_cueNewRule : (cueNewRule s c gen).Edits c gen s := by
  obtain ⟨kept, pu⟩ := s.takeAndPlace_keeps c fun x l => l ++ [x]
  exact (edits_edit kept (congrArg PortUnit.answers pu)).thenAppended _

theorem edits_cueNewBeforeRule (x : CueIx) : (cueNewBeforeRule s c gen x).Edits c gen s := by
  obtain ⟨kept, pu⟩ := s.takeAndPlace_keeps c fun new l => placeBefore x new l
  unfold cueNewBeforeRule
  exact edits_edit kept (congrArg PortUnit.answers pu)

theorem edits_cueNewAfterRule (x : CueIx) : (cueNewAfterRule s c gen x).Edits c gen s := by
  obtain ⟨kept, pu⟩ := s.takeAndPlace_keeps c fun new l => placeAfter x new l
  exact (edits_edit kept (congrArg PortUnit.answers pu)).thenAppended _

theorem State.move_keeps (x y : CueIx) (f : List CueIx → List CueIx) :
    s.KeepsGenerations (if x = y then s else s.onList c f)
      ∧ (if x = y then s else s.onList c f).pu.answers = s.pu.answers := by
  split
  · exact ⟨.refl s, rfl⟩
  · exact ⟨s.onList_keeps c f, rfl⟩

theorem edits_cueMoveBeforeRule (x y : CueIx) : (cueMoveBeforeRule s c gen x y).Edits c gen s := by
  obtain ⟨kept, answers⟩ := s.move_keeps c x y fun l => placeBefore y x (l.erase x)
  unfold cueMoveBeforeRule
  exact edits_edit kept answers

theorem edits_cueMoveAfterRule (x y : CueIx) : (cueMoveAfterRule s c gen x y).Edits c gen s := by
  obtain ⟨kept, answers⟩ := s.move_keeps c x y fun l => placeAfter y x (l.erase x)
  unfold cueMoveAfterRule
  exact edits_edit kept answers

theorem edits_cueWriteRule (x : CueIx) (f : CueFields) : (cueWriteRule s c gen x f).Edits c gen s := by
  unfold cueWriteRule
  exact edits_edit (s.act_onCue x _).keepsGenerations rfl

theorem edits_cueFreeRule (x : CueIx) : (cueFreeRule s c gen x).Edits c gen s := by
  unfold cueFreeRule
  exact edits_edit ((s.onList_keeps c fun l => l.erase x).trans ⟨fun _ => rfl⟩) rfl

theorem edits_reelSetRule (r : ReelIx) (length side : Nat) : (reelSetRule s c gen r length side).Edits c gen s := by
  unfold reelSetRule
  exact edits_edit (s.act_setReel c r _).keepsGenerations rfl

theorem edits_showClearRule : (showClearRule s c gen).Edits c gen s := by
  unfold showClearRule
  dsimp only
  split
  · exact Ruling.edits_of_kept rfl nofun
  · rename_i current
    split
    · exact Ruling.edits_of_kept rfl nofun
    · have act := State.act_restProjectors ((s.clearList c).onScreen c fun r =>
        { r.rest with next := none, reels := Vector.replicate 12 .empty }) c
      refine ⟨fun _ => ⟨not_not.mp current, (act.generations c).trans ?_⟩, fun no => absurd rfl no,
        fun d away => (act.generations d).trans ?_, act.answers⟩
      · rw [not_not.mp current]
        simp [State.clearList, State.onList, State.raiseGeneration, ScreenRecord.rest, Config.generations]
      · simp [State.clearList, State.onList, State.raiseGeneration, away.symm]

end

/-! ### Every command (R71, R163) -/

/-- The outcome of a command is a next state in which the generation of screen `d` is kept. -/
def Keeps (d : Screen) (s : State) (o : Host.Outcome State Fault Refusal) : Prop :=
  ∃ t, o = .next t ∧ (t.screen d).generation = (s.screen d).generation

section

variable {d : Screen} {s t : State}

theorem keeps_next (h : s.KeepsGenerations t) : Keeps d s (.next t) := ⟨t, rfl, h.same d⟩

theorem keeps_ruled (n : Port) (c : Instr) {rule : State → Ruling}
    (h : ((rule s).state.screen d).generation = (s.screen d).generation) : Keeps d s (console n c s rule) := by
  obtain ⟨r, e, rfl | rfl | rfl⟩ := console_next s n c rule
  · exact ⟨_, e, rfl⟩
  · exact ⟨_, e, rfl⟩
  · exact ⟨_, e, h⟩

theorem keeps_console (n : Port) (c : Instr) {rule : State → Ruling} (h : s.KeepsGenerations (rule s).state) :
    Keeps d s (console n c s rule) := keeps_ruled n c (h.same d)

theorem keepsGenerations_onNumber {m : Nat} {rule : Fin m → Ruling} (k : Nat)
    (h : ∀ i, s.KeepsGenerations (rule i).state) : s.KeepsGenerations (onNumber k s rule).state := by
  unfold onNumber
  split
  · exact h _
  · exact .refl s

theorem numberOf_of_numbered {m k : Nat} {i : Fin m} (named : numbered m k = some i) : numberOf i = k := by
  unfold numbered at named
  split at named
  · cases named
    show k - 1 + 1 = k
    omega
  · exact nomatch named

/-- An edit of another screen keeps the generation. -/
theorem keeps_edit (n : Port) (c : Instr) {k gen : Nat} {rule : State → Screen → Ruling}
    (other : some k ≠ some (numberOf d)) (h : ∀ i, (rule s i).Edits i gen s) :
    Keeps d s (console n c s fun s => onNumber k s (rule s)) := by
  refine keeps_ruled n c ?_
  unfold onNumber
  split
  · rename_i i named
    refine (h i).others d ?_
    rintro rfl
    exact other (congrArg some (numberOf_of_numbered named).symm)
  · rfl

theorem keeps_read (n : Port) (c : Instr) {rule : State → Ruling} (h : (rule s).state = s) :
    Keeps d s (console n c s rule) := keeps_console n c (by rw [h]; exact .refl s)

end

section

variable (s : State)

/-- A record of a screen rewritten with its generation kept. -/
theorem State.keepsGenerations_onScreen (c : Screen) (f : ScreenRecord → ScreenRecord)
    (same : (f (s.screen c)).generation = (s.screen c).generation) : s.KeepsGenerations (s.onScreen c f) := ⟨fun d => by
  by_cases e : c = d
  · subst e; simpa using same
  · simp [e]⟩

theorem State.keepsGenerations_payMotor (c : Screen) (p : Projector) (h : (s.role p).readying) :
    s.KeepsGenerations (s.payMotor c p) := by
  unfold State.payMotor
  split
  · exact ((State.Act.refl s).thenMotorAction p h).keepsGenerations.trans (State.keepsGenerations_onScreen _ c _ rfl)
  · exact .refl s

theorem State.keepsGenerations_arm (c : Screen) (r : ReelIx) (length : Nat) (side : Side) :
    s.KeepsGenerations (s.arm c r length side) := by
  have armed : ∀ u : State, u.KeepsGenerations ((u.setRole (projectorOf c side) .armed).loadCounter (projectorOf c side)
      length) := fun u => ⟨fun _ => rfl⟩
  exact (((s.act_setReel c r _).keepsGenerations.trans (armed _)).trans (State.act_examine _ c).keepsGenerations).trans
    (State.keepsGenerations_payMotor _ c _ (by simp [Role.readying, State.loadCounter]))

theorem keepsGenerations_reelThreadedRule (c : Screen) (r : ReelIx) :
    s.KeepsGenerations (reelThreadedRule s c r).state := by
  unfold reelThreadedRule
  split
  · exact .refl s
  · split
    · exact s.keepsGenerations_arm c r _ _
    · exact .refl s
    · exact .refl s

theorem keepsGenerations_reelUnthreadRule (c : Screen) (r : ReelIx) :
    s.KeepsGenerations (reelUnthreadRule s c r).state := by
  unfold reelUnthreadRule
  split
  · dsimp only
    split
    · exact ((((s.act_setReel ..).andThen fun u => u.act_setRole_idle _).andThen fun u => u.act_clearCounter _).andThen
        fun u => u.act_examine c).keepsGenerations
    · exact .refl s
  · exact .refl s

theorem keepsGenerations_showStartRule (c : Screen) : s.KeepsGenerations (showStartRule s c).state := by
  unfold showStartRule
  dsimp only
  split
  · exact .refl s
  · split
    · exact .refl s
    · split
      · exact .refl s
      · have pending : s.KeepsGenerations (s.resetCues c) := ⟨fun _ => rfl⟩
        exact (pending.trans (State.keepsGenerations_onScreen _ c _ rfl)).trans
          (State.act_runCues _ c _).keepsGenerations

theorem keepsGenerations_goRule (c : Screen) : s.KeepsGenerations (goRule s c).state := by
  unfold goRule
  dsimp only
  split
  · exact .refl s
  · split
    · exact .refl s
    · split
      · exact .refl s
      · dsimp only
        split
        · exact .refl s
        · exact (s.act_takeCue c _).keepsGenerations

theorem State.keepsGenerations_abortChangeover (c : Screen) : s.KeepsGenerations (s.abortChangeover c) := by
  have withdrawn : s.KeepsGenerations (s.withdrawQueued c) := by
    unfold State.withdrawQueued
    split
    · exact (s.act_askWithdraw c).keepsGenerations
    · exact .refl s
  exact withdrawn.trans (State.act_onChangeover _ c _).keepsGenerations

theorem keepsGenerations_showStopRule (c : Screen) : s.KeepsGenerations (showStopRule s c).state := by
  unfold showStopRule
  dsimp only
  split
  · exact .refl s
  · have rested : ∀ u : State, u.KeepsGenerations
        ((u.setRole (projectorOf c .a) .idle).setRole (projectorOf c .b) .idle) := fun u => ⟨fun _ => rfl⟩
    have safe : ∀ u : State, u.KeepsGenerations (((u.makeSafe (projectorOf c .a)).makeSafe (projectorOf c .b)).raise
        (noticeShowEnded c)) := fun u =>
      (((u.act_makeSafe _).andThen fun v => v.act_makeSafe _).andThen fun v => v.act_raise _).keepsGenerations
    exact (((s.keepsGenerations_abortChangeover c).trans (rested _)).trans
      (State.keepsGenerations_onScreen _ c _ rfl)).trans (safe _)

theorem keepsGenerations_showRewindRule (c : Screen) : s.KeepsGenerations (showRewindRule s c).state := by
  unfold showRewindRule
  dsimp only
  split
  · exact .refl s
  · have pending : s.KeepsGenerations (s.resetCues c) := ⟨fun _ => rfl⟩
    exact (pending.trans (State.keepsGenerations_onScreen _ c _ rfl)).trans
      (State.act_restProjectors _ c).keepsGenerations

theorem keepsGenerations_fireRearmRule : s.KeepsGenerations (fireRearmRule s).state := by
  unfold fireRearmRule
  split
  · dsimp only
    exact s.keepsGenerations_rearm
  · exact .refl s

theorem keepsGenerations_lineResetRule : s.KeepsGenerations (lineResetRule s).state := by
  unfold lineResetRule
  split
  · exact .refl s
  · dsimp only
    exact s.keepsGenerations_lineReset

theorem keepsGenerations_shutterTestRule (k : Shutter) : s.KeepsGenerations (shutterTestRule s k).state := by
  unfold shutterTestRule
  split
  · dsimp only
    exact s.keepsGenerations_startTest k
  · exact .refl s

theorem keepsGenerations_projMotorRule (v : Nat) (p : Projector) : s.KeepsGenerations (projMotorRule s v p).state := by
  unfold projMotorRule
  split
  · exact .refl s
  · exact (s.act_askMotor p _).keepsGenerations

theorem keepsGenerations_projDouserRule (v : Nat) (p : Projector) : s.KeepsGenerations (projDouserRule s v p).state := by
  unfold projDouserRule
  split
  · exact .refl s
  · exact (s.act_askDouser p _).keepsGenerations

theorem keepsGenerations_lampOffRule (p : Projector) : s.KeepsGenerations (lampOffRule s p).state := by
  unfold lampOffRule
  split
  · exact .refl s
  · exact (s.act_extinguish p).keepsGenerations

theorem keepsGenerations_lampSetRule (f : LampFields) (p : Projector) :
    s.KeepsGenerations (lampSetRule s f p).state := by
  unfold lampSetRule
  split
  · exact .refl s
  · exact .of_su _ _ rfl

theorem keepsGenerations_lampRecarbonRule (length : Nat) (p : Projector) :
    s.KeepsGenerations (lampRecarbonRule s length p).state := by
  unfold lampRecarbonRule
  split
  · exact .refl s
  · exact .of_su _ _ rfl

end

/-! ### A command that is no edit of the screen -/

section

variable {d : Screen} (s : State)

theorem keeps_changeoverBurstSent : Keeps d s (execChangeoverBurstSent s) := by
  unfold execChangeoverBurstSent
  split
  · exact keeps_next (s.keepsGenerations_changeoverSent _ _)
  · exact keeps_next (.refl s)

theorem keeps_tripBurstSent : Keeps d s (execTripBurstSent s) := by
  refine keeps_next ?_
  split
  · exact .of_su _ _ rfl
  · exact .refl s

theorem keeps_lineResetFrameSent : Keeps d s (execLineResetFrameSent s) := by
  refine keeps_next ?_
  split
  · exact .of_su _ _ rfl
  · exact .refl s

theorem keeps_strikeTimeout (p : Projector) : Keeps d s (execStrikeTimeout p s) := by
  refine keeps_next ?_
  split
  · exact (s.act_strikeFailed p).keepsGenerations
  · exact .refl s

theorem keeps_holdTimeout (p : Projector) : Keeps d s (execHoldTimeout p s) := by
  refine keeps_next ?_
  split
  · exact (s.act_holdEnded p).keepsGenerations
  · exact .refl s

theorem keeps_readStation (n : Port) (p : Nat) : Keeps d s (execReadStation n p s) := by
  refine keeps_read n _ ?_
  unfold readStationRule
  split
  · rfl
  · exact state_onNumber p fun _ => rfl

theorem keeps_readHouse (n : Port) (c : Nat) : Keeps d s (execReadHouse n c s) := by
  refine keeps_read n _ ?_
  unfold readHouseRule
  split
  · rfl
  · exact state_onNumber c fun _ => rfl

theorem keeps_readList (n : Port) (c : Nat) : Keeps d s (execReadList n c s) := by
  refine keeps_read n _ ?_
  unfold readListRule
  split
  · rfl
  · exact state_onNumber c fun _ => rfl

theorem keeps_readCue (n : Port) (x : Nat) : Keeps d s (execReadCue n x s) := by
  refine keeps_read n _ ?_
  unfold onCueIx
  split <;> rfl

theorem keeps_noticeRoute (n : Port) (notice ports : Nat) : Keeps d s (execNoticeRoute n notice ports s) := by
  refine keeps_console n _ ?_
  split
  · exact .of_su _ _ rfl
  · exact .refl s

theorem keepsGenerations_noticeNextRule (n : Port) : s.KeepsGenerations (noticeNextRule s n).state := by
  unfold noticeNextRule
  split
  · exact .of_su _ _ rfl
  · exact .refl s

/-- Only POWER_ON and an edit or a clear of screen `d` can change its generation. -/
theorem exec_keeps (c : Instr) (unpowered : ∀ pins, c ≠ .powerOn pins) (other : editedScreen c ≠ some (numberOf d)) :
    Keeps d s (exec c s) := by
  unfold exec
  cases c
  all_goals dsimp only
  case powerOn pins => exact absurd rfl (unpowered pins)
  case sprocketPulse p => exact keeps_next (.before (State.act_acceptedPulse _ p).keepsGenerations rfl)
  case slowStartTimeout p => exact keeps_next (s.act_slowStartOut p).keepsGenerations
  case silence p => exact keeps_next (s.act_silence p).keepsGenerations
  case slotStart => exact keeps_next s.keepsGenerations_startSlot
  case replyReceived begun signal => exact keeps_next (s.keepsGenerations_receiveFrame begun signal)
  case replyWindowEnd => exact keeps_next s.keepsGenerations_endWindow
  case changeoverBurstSent => exact keeps_changeoverBurstSent s
  case tripBurstSent => exact keeps_tripBurstSent s
  case lineResetFrameSent => exact keeps_lineResetFrameSent s
  case strikeTimeout p => exact keeps_strikeTimeout s p
  case holdTimeout p => exact keeps_holdTimeout s p
  case feedStep p => exact keeps_next (s.act_feedStep p).keepsGenerations
  case afterTimerMet c => exact keeps_next (s.act_afterMet c).keepsGenerations
  case mainsCrossing => exact keeps_next s.keepsGenerations_crossing
  case mainsOverrun => exact keeps_next s.keepsGenerations_overrun
  case dimmerFiring c => exact keeps_next (.of_su _ _ rfl)
  case alarmChange level => exact keeps_next (s.keepsGenerations_alarmChange level)
  case shutterLimitChange k level => exact keeps_next (s.keepsGenerations_limitChange k level)
  case shutterDropTimeout k => exact keeps_next (s.keepsGenerations_dropTimeout k)
  case writeStrobe n byte => exact keeps_next (s.keepsGenerations_writeByte n byte)
  case readStrobe strobe => exact keeps_next (.of_su _ _ rfl)
  case portClear n held => exact keeps_next (.of_su _ _ rfl)
  case gapTimeout n => exact keeps_next (.of_su _ _ rfl)
  case ownerAnswer n => exact keeps_next (s.keepsGenerations_deliver n)
  case readScreen n c => exact keeps_read n _ (state_onNumber c fun _ => rfl)
  case readProjector n p => exact keeps_read n _ (state_onNumber p fun _ => rfl)
  case readLamp n p => exact keeps_read n _ (state_onNumber p fun _ => rfl)
  case readStation n p => exact keeps_readStation s n p
  case readFire n => exact keeps_read n _ rfl
  case readShutter n k => exact keeps_read n _ (state_onNumber k fun _ => rfl)
  case readHouse n c => exact keeps_readHouse s n c
  case readReel n c reel => exact keeps_read n _ (state_onNumber c fun _ => state_onNumber reel fun _ => rfl)
  case readCue n x => exact keeps_readCue s n x
  case readList n c => exact keeps_readList s n c
  case cueNew n c gen => exact keeps_edit n _ other fun i => edits_cueNewRule s i gen
  case cueNewBefore n c gen x =>
    exact keeps_edit n _ other fun i => edits_onCueIx x fun _ => edits_cueNewBeforeRule s i gen _
  case cueNewAfter n c gen x =>
    exact keeps_edit n _ other fun i => edits_onCueIx x fun _ => edits_cueNewAfterRule s i gen _
  case cueMoveBefore n c gen x y =>
    exact keeps_edit n _ other fun i => edits_onCueIx x fun _ => edits_onCueIx y fun _ =>
      edits_cueMoveBeforeRule s i gen _ _
  case cueMoveAfter n c gen x y =>
    exact keeps_edit n _ other fun i => edits_onCueIx x fun _ => edits_onCueIx y fun _ =>
      edits_cueMoveAfterRule s i gen _ _
  case cueWrite n c gen x cue =>
    exact keeps_edit n _ other fun i => edits_onCueIx x fun _ => edits_cueWriteRule s i gen _ cue
  case cueFree n c gen x => exact keeps_edit n _ other fun i => edits_onCueIx x fun _ => edits_cueFreeRule s i gen _
  case reelSet n c gen reel length side =>
    exact keeps_edit n _ other fun i => edits_onNumber reel fun _ => edits_reelSetRule s i gen _ length side
  case reelThreaded n c reel =>
    exact keeps_console n _ (keepsGenerations_onNumber c fun _ => keepsGenerations_onNumber reel fun _ =>
      keepsGenerations_reelThreadedRule s _ _)
  case reelUnthread n c reel =>
    exact keeps_console n _ (keepsGenerations_onNumber c fun _ => keepsGenerations_onNumber reel fun _ =>
      keepsGenerations_reelUnthreadRule s _ _)
  case showStart n c => exact keeps_console n _ (keepsGenerations_onNumber c fun _ => keepsGenerations_showStartRule s _)
  case go n c => exact keeps_console n _ (keepsGenerations_onNumber c fun _ => keepsGenerations_goRule s _)
  case showStop n c => exact keeps_console n _ (keepsGenerations_onNumber c fun _ => keepsGenerations_showStopRule s _)
  case showRewind n c =>
    exact keeps_console n _ (keepsGenerations_onNumber c fun _ => keepsGenerations_showRewindRule s _)
  case showClear n c gen => exact keeps_edit n _ other fun i => edits_showClearRule s i gen
  case projMotor n p v =>
    exact keeps_console n _ (keepsGenerations_onNumber p fun _ => keepsGenerations_projMotorRule s v _)
  case projDouser n p v =>
    exact keeps_console n _ (keepsGenerations_onNumber p fun _ => keepsGenerations_projDouserRule s v _)
  case lampStrike n p =>
    exact keeps_console n _ (keepsGenerations_onNumber p fun _ => (s.act_strike _).keepsGenerations)
  case lampOff n p => exact keeps_console n _ (keepsGenerations_onNumber p fun _ => keepsGenerations_lampOffRule s _)
  case lampSet n p fields =>
    exact keeps_console n _ (keepsGenerations_onNumber p fun _ => keepsGenerations_lampSetRule s fields _)
  case lampRecarbon n p length =>
    exact keeps_console n _ (keepsGenerations_onNumber p fun _ => keepsGenerations_lampRecarbonRule s length _)
  case houseFade n c level time =>
    exact keeps_console n _ (keepsGenerations_onNumber c fun _ => (s.act_askFade _ _ time).keepsGenerations)
  case fireTrip n => exact keeps_console n _ (s.keepsGenerations_takeCause _)
  case fireRearm n => exact keeps_console n _ (keepsGenerations_fireRearmRule s)
  case shutterTest n k =>
    exact keeps_console n _ (keepsGenerations_onNumber k fun _ => keepsGenerations_shutterTestRule s _)
  case lineReset n => exact keeps_console n _ (keepsGenerations_lineResetRule s)
  case boothSet n margin => exact keeps_console n _ ⟨fun _ => rfl⟩
  case noticeNext n => exact keeps_console n _ (keepsGenerations_noticeNextRule s n)
  case noticeMask n hidden => exact keeps_console n _ (.of_su _ _ rfl)
  case noticeRoute n notice ports => exact keeps_noticeRoute s n notice ports
  case noticeFlush n => exact keeps_console n _ (.of_su _ _ rfl)
  case sprocketSample p level => exact keeps_next (s.keepsGenerations_sampleSprocket p level)

end

/-! ### An edit of the screen answered (R71) -/

/-- The outcome of a command is a next state with one more answer set out, and the generation of screen `c` counts the
command if that answer is OK. -/
def Counts (c : Screen) (gen : Nat) (s : State) (o : Host.Outcome State Fault Refusal) : Prop :=
  ∃ t, o = .next t ∧ ∃ a, t.pu.answers = s.pu.answers ++ [a]
    ∧ (a.status = .ok → gen = (s.screen c).generation ∧ (t.screen c).generation = (gen + 1) % 65536)
    ∧ (a.status ≠ .ok → (t.screen c).generation = (s.screen c).generation)

section

variable {sc : Screen} {gen : Nat} {s t : State}

theorem counts_answer {r : Ruling} (h : r.Edits sc gen s) (n : Port) (c : Instr) :
    Counts sc gen s (.next (r.state.answer n c r.status r.data)) :=
  ⟨_, rfl, ⟨n, (r.state.pu.passed.find? (isFrameOf n c)).map (·.tag), r.status, r.data⟩,
    congrArg (· ++ _) h.answers, h.taken, h.refused⟩

theorem counts_console (n : Port) (c : Instr) {rule : State → Screen → Ruling} (h : (rule s sc).Edits sc gen s) :
    Counts sc gen s (console n c s fun s => onNumber (numberOf sc) s (rule s)) := by
  obtain ⟨r, e, ruled⟩ := console_next s n c fun s => onNumber (numberOf sc) s (rule s)
  rw [e]
  refine counts_answer ?_ n c
  rcases ruled with rfl | rfl | rfl
  · exact Ruling.edits_of_kept rfl nofun
  · exact Ruling.edits_of_kept rfl nofun
  · rw [onNumber_numberOf]
    exact h

/-- The edits of a screen and its SHOW_CLEAR, as a port gives them. -/
def editsOf (n : Port) (sc : Screen) (gen x y r length side : Nat) (f : CueFields) : List Instr :=
  [.cueNew n (numberOf sc) gen, .cueNewBefore n (numberOf sc) gen x, .cueNewAfter n (numberOf sc) gen x,
    .cueMoveBefore n (numberOf sc) gen x y, .cueMoveAfter n (numberOf sc) gen x y, .cueWrite n (numberOf sc) gen x f,
    .cueFree n (numberOf sc) gen x, .reelSet n (numberOf sc) gen r length side, .showClear n (numberOf sc) gen]

variable {n : Port} {x y r length side : Nat} {f : CueFields} {c : Instr}

theorem exec_counts (edit : c ∈ editsOf n sc gen x y r length side f) : Counts sc gen s (exec c s) := by
  simp only [editsOf, List.mem_cons, List.not_mem_nil, or_false] at edit
  rcases edit with rfl | rfl | rfl | rfl | rfl | rfl | rfl | rfl | rfl
  all_goals
    unfold exec
    dsimp only
  · exact counts_console n _ (edits_cueNewRule s sc gen)
  · exact counts_console n _ (edits_onCueIx x fun _ => edits_cueNewBeforeRule s sc gen _)
  · exact counts_console n _ (edits_onCueIx x fun _ => edits_cueNewAfterRule s sc gen _)
  · exact counts_console n _ (edits_onCueIx x fun _ => edits_onCueIx y fun _ => edits_cueMoveBeforeRule s sc gen _ _)
  · exact counts_console n _ (edits_onCueIx x fun _ => edits_onCueIx y fun _ => edits_cueMoveAfterRule s sc gen _ _)
  · exact counts_console n _ (edits_onCueIx x fun _ => edits_cueWriteRule s sc gen _ f)
  · exact counts_console n _ (edits_onCueIx x fun _ => edits_cueFreeRule s sc gen _)
  · exact counts_console n _ (edits_onNumber r fun _ => edits_reelSetRule s sc gen _ length side)
  · exact counts_console n _ (edits_showClearRule s sc gen)

theorem editedScreen_of_mem (edit : c ∈ editsOf n sc gen x y r length side f) :
    editedScreen c = some (numberOf sc) := by
  simp only [editsOf, List.mem_cons, List.not_mem_nil, or_false] at edit
  rcases edit with rfl | rfl | rfl | rfl | rfl | rfl | rfl | rfl | rfl <;> rfl

theorem mem_of_editedScreen (edit : editedScreen c = some (numberOf sc)) :
    ∃ m g u v q len sd w, c ∈ editsOf m sc g u v q len sd w := by
  let blank : CueFields := ⟨0, 0, 0, 0, 0, 0, 0, 0⟩
  cases c
  case cueNew m k g => cases edit; exact ⟨m, g, 0, 0, 0, 0, 0, blank, by simp [editsOf]⟩
  case cueNewBefore m k g u => cases edit; exact ⟨m, g, u, 0, 0, 0, 0, blank, by simp [editsOf]⟩
  case cueNewAfter m k g u => cases edit; exact ⟨m, g, u, 0, 0, 0, 0, blank, by simp [editsOf]⟩
  case cueMoveBefore m k g u v => cases edit; exact ⟨m, g, u, v, 0, 0, 0, blank, by simp [editsOf]⟩
  case cueMoveAfter m k g u v => cases edit; exact ⟨m, g, u, v, 0, 0, 0, blank, by simp [editsOf]⟩
  case cueWrite m k g u w => cases edit; exact ⟨m, g, u, 0, 0, 0, 0, w, by simp [editsOf]⟩
  case cueFree m k g u => cases edit; exact ⟨m, g, u, 0, 0, 0, 0, blank, by simp [editsOf]⟩
  case reelSet m k g q len sd => cases edit; exact ⟨m, g, 0, 0, q, len, sd, blank, by simp [editsOf]⟩
  case showClear m k g => cases edit; exact ⟨m, g, 0, 0, 0, 0, 0, blank, by simp [editsOf]⟩
  all_goals exact nomatch edit

theorem numberOf_injective {m : Nat} {i j : Fin m} (same : numberOf i = numberOf j) : i = j :=
  Fin.ext (Nat.succ.inj same)

/-- Settles O47: an edit is answered as it is counted, and every other command keeps the generation. -/
theorem generationCountsTheEdits : Obligations.GenerationCountsTheEdits := by
  intro c n sc gen x y r length side f s t ran unpowered
  have kept : ∀ d, editedScreen c ≠ some (numberOf d) →
      (t.screen d).generation = (s.screen d).generation := fun d other => by
    obtain ⟨u, e, same⟩ := exec_keeps s c unpowered other
    rw [ran] at e
    cases e
    exact same
  refine ⟨fun edit => ?_, fun d away edit => kept d ?_, fun changed => ?_⟩
  · obtain ⟨u, e, counted⟩ := exec_counts (s := s) edit
    rw [ran] at e
    cases e
    exact counted
  · rw [editedScreen_of_mem edit]
    exact fun same => away (numberOf_injective (Option.some.inj same)).symm
  · by_contra none
    exact changed (kept sc fun edit => none (mem_of_editedScreen edit))

end

end Sys2Proof.Machine
end
